-- ==== Sys2Proof/Word.lean ====
section
/-! DEFINITION. Word.lean: the plain numbers of the manual. Bytes and the 16-bit CRC register are bit vectors, because
the manual shifts and combines them bit by bit; fixtures, ports, units, robots, sides and stations are numbers of a
fixed range, because the manual only names things with them; counts and times are natural numbers, and every
saturation or clamp the manual gives them is written where it happens. -/

namespace Sys2Proof

/-- One character of an arena line frame, or one byte of the field script (00_scope, "Byte order"). -/
abbrev Byte := BitVec 8

/-- A fixture number, 0–7 (R1). -/
abbrev FixtureNo := Fin 8

/-- A beacon port, 0–3 (R72). -/
abbrev PortNo := Fin 4

/-- A pulse unit, U0–U7 (R154). -/
abbrev UnitNo := Fin 8

/-- A pair of pulse units, (U0,U1) being pair 0 (R154). -/
abbrev PairNo := Fin 4

/-- A sensor input, IN0–IN11 (R126). -/
abbrev InputNo := Fin 12

/-- A station number, 0–31 (R187). -/
abbrev StationNo := Fin 32

/-- A robot number: 1–63, and 0 for "no robot" (Table 0-3). -/
abbrev Robot := Fin 64

/-- A side: 1–4, and 0 for "no side" (Table 0-3). -/
abbrev Side := Fin 5

/-- An index of the action store, 0–63 (R138). -/
abbrev StepNo := Fin 64

/-- An index of the lamp pattern table, 0–15 (R164). -/
abbrev PatternNo := Fin 16

/-- Replace one place of a table of fixed size. -/
def put {α : Type} {n : Nat} (v : Vector α n) (i : Fin n) (x : α) : Vector α n :=
  v.set i.val x i.isLt

@[simp] theorem put_get {α : Type} {n : Nat} (v : Vector α n) (i j : Fin n) (x : α) :
    (put v i x)[j] = if i = j then x else v[j] := by
  simp [put, Vector.getElem_set, Fin.ext_iff]

@[simp] theorem put_get_val {α : Type} {n : Nat} (v : Vector α n) (i j : Fin n) (x : α) :
    (put v i x)[j.val] = if i = j then x else v[j.val] := put_get v i j x

/-- One count for each of the sides 1–4. -/
structure PerSide where
  one : Nat
  two : Nat
  three : Nat
  four : Nat
  deriving DecidableEq, Repr

/-- The same count for every side. -/
def PerSide.all (n : Nat) : PerSide := ⟨n, n, n, n⟩

/-- The count of a side; side 0, "no side", has none. -/
def PerSide.get (p : PerSide) (s : Side) : Nat :=
  match s with
  | 0 => 0
  | 1 => p.one
  | 2 => p.two
  | 3 => p.three
  | 4 => p.four

/-- Replace the count of a side; side 0 has no count to replace. -/
def PerSide.set (p : PerSide) (s : Side) (n : Nat) : PerSide :=
  match s with
  | 0 => p
  | 1 => { p with one := n }
  | 2 => { p with two := n }
  | 3 => { p with three := n }
  | 4 => { p with four := n }

/-- The four sides, in order. -/
def sides : List Side := [1, 2, 3, 4]

/-- The eight fixture numbers in ascending order, the order in which one occurrence acts on several fixtures (R2). -/
def fixtureNumbers : List FixtureNo := [0, 1, 2, 3, 4, 5, 6, 7]

/-- The eight pulse units in ascending order. -/
def unitNumbers : List UnitNo := [0, 1, 2, 3, 4, 5, 6, 7]

/-- The twelve inputs in ascending order. -/
def inputNumbers : List InputNo := [0, 1, 2, 3, 4, 5, 6, 7, 8, 9, 10, 11]

end Sys2Proof
end

