-- ==== Sys2Proof/Syntax.lean ====
section
/-! DEFINITION. Syntax.lean: the commands of the block, one constructor per row of spec/opcode_table.json. A command is
one whole and indivisible step of the part (95_what_each_step_holds).

Two kinds of commands meet time differently (log entry 1). A command whose moment the outside decides (a sighting, a
frame, a match command) carries `dt`, the running time in microseconds that passes before it. A command that IS the
expiry of one of the part's own timers carries no time: it comes at the moment its timer runs out, and the time still
missing passes first. -/

namespace Sys2Proof

/-- The two action runners (R140). -/
inductive RunnerId where
  | A
  | B
  deriving DecidableEq, Repr

/-- LINE_RXD over a stretch of time: for how many microseconds it stood at one level (R169). -/
structure LineRun where
  dominant : Bool
  time : Nat
  deriving DecidableEq, Repr

/-- Why a frame in progress is abandoned (R174): a gap of more than 6 bit times, a character whose stop bit reads
dominant, given as LINE_RXD showed it, or a LEN above 64. -/
inductive AbandonCause where
  | gap
  | framingError (line : List LineRun)
  | lenAbove64
  deriving DecidableEq, Repr

/-- The levels that the end of a load meets: those of IN0–IN11, bit k for INk, 1 for high; and the time, in microseconds,
for which LINE_RXD still stands dominant, 0 for a recessive line (R135, R186). -/
structure LoadPins where
  inputs : BitVec 12
  dominant : Nat
  deriving DecidableEq, Repr

/-- The commands. `frame` is a complete frame as received, from SYNC to the second CRC byte; `line` is LINE_RXD from a
recessive line on, through one character; `miso` are the levels of SPI_MISO at the rising edges of
SPI_SCK after the read command, in order; `pins` are the levels of IN0–IN11, bit k for INk, 1 for high; `straps` are
STRAP0–STRAP4, bit k for STRAPk. -/
inductive Instr where
  /-- RESET: power-on or release of the RESET pin; the straps are read (R187). -/
  | reset (straps : BitVec 5)
  /-- LOAD_END: the loader has read the serial memory from address 0 (a bit that no memory drives is high), the inputs
  take their first sample, and the receiver begins to listen (R186, R188–R195). -/
  | loadEnd (miso : List Bool) (pins : LoadPins)
  /-- SIGHTING: a beacon word of this robot number and intent value completes on a port (R73, R78). -/
  | sighting (dt : Nat) (port : PortNo) (robot : Robot) (intent : BitVec 2)
  /-- HOLD_OFF_EXPIRY: the hold-off entry of this robot and fixture reaches its expiry (R16). -/
  | holdOffExpiry (robot : Robot) (fixture : FixtureNo)
  /-- SIGHT_EXPIRY: the sight-list entry of this robot on a port reaches the sight window (R83). -/
  | sightExpiry (port : PortNo) (robot : Robot)
  /-- LOST: a GATE holder's age reaches the lost time (R31). -/
  | lost (fixture : FixtureNo)
  /-- QUEUED_LOST: a queued robot's age reaches the lost time (R32). -/
  | queuedLost (fixture : FixtureNo) (robot : Robot)
  /-- OVERSTAY: a GATE holder's held tenths reach the hold limit (R30). -/
  | overstay (fixture : FixtureNo)
  /-- COUNTED_TICK: the tenth timer completes 100 ms in a running phase (R90). -/
  | countedTick
  /-- REFILL: a DISPENSER's refill count reaches its refill period (R39). -/
  | refill (fixture : FixtureNo)
  /-- PERIOD_END: the match tick has reached the end boundary of the phase (R90). -/
  | periodEnd
  /-- GRACE_END: a goal's grace remainder reaches 0 (R64, R68). -/
  | graceEnd (fixture : FixtureNo)
  /-- JAM: a goal's input has been active for the jam time (R67). -/
  | jam (fixture : FixtureNo)
  /-- UNJAM: a JAMMED goal's input has been inactive for 1.0 s (R69). -/
  | unjam (fixture : FixtureNo)
  /-- TRANSIENT_END: a fixture's transient indicator runs out (R19). -/
  | transientEnd (fixture : FixtureNo)
  /-- INPUT_SAMPLE: the sample instant of the twelve inputs (R127). -/
  | inputSample (pins : BitVec 12)
  /-- START given to the match clock (R92). -/
  | start (dt : Nat)
  /-- HALT given to the match clock (R93). -/
  | halt (dt : Nat)
  /-- RESUME given to the match clock (R94, R103). -/
  | resume (dt : Nat)
  /-- CLEAR given to the match clock (R95). -/
  | clear (dt : Nat)
  /-- STATUS_RECEIVED: a valid STATUS frame completes (R110). -/
  | statusReceived (dt : Nat) (frame : List Byte)
  /-- EVENT_FRAME_RECEIVED: a valid EVENT frame completes (R111). -/
  | eventFrameReceived (dt : Nat) (frame : List Byte)
  /-- FRAME_DISCARD: a complete frame fails a check of Table 10-6 (R175). -/
  | frameDiscard (dt : Nat) (frame : List Byte)
  /-- FRAME_ABANDON: a frame in progress is abandoned (R174). -/
  | frameAbandon (dt : Nat) (cause : AbandonCause)
  /-- STATUS_TIMER_EXPIRY: the status timer reaches the status interval (R115). -/
  | statusTimerExpiry
  /-- CHANGE_ELIGIBLE: the pending CHANGE request becomes eligible (R116). -/
  | changeEligible
  /-- ATTEMPT_BEGIN: the idle time reaches the hold-off of the head (R179). -/
  | attemptBegin
  /-- ATTEMPT_SUCCESS: the last CRC byte is sent without mismatch (R181). -/
  | attemptSuccess
  /-- ATTEMPT_ABORT: a bit reads back otherwise than sent, at the first middle of a bit time from `dt` on (R180). -/
  | attemptAbort (dt : Nat)
  /-- MUTE_TIMER_EXPIRY: the mute timer runs out (R184). -/
  | muteTimerExpiry
  /-- PATTERN_PHASE_END: the high or low phase of an ACTUATOR unit's pattern runs out (R157). -/
  | patternPhaseEnd (unit : UnitNo)
  /-- DELAY_END: a runner's delay step runs out (R144). -/
  | delayEnd (runner : RunnerId)
  /-- LAMP_PHASE_END: a high or low phase of a running BLINK ends (R166). -/
  | lampPhaseEnd (unit : UnitNo)
  /-- MATCH_FRAME_RECEIVED: a valid MATCH frame from another device completes (R97). -/
  | matchFrameReceived (dt : Nat) (frame : List Byte)
  /-- BEACON_LEVEL_CHANGE: a beacon port changes level; `active` is the new level (pin low) (R74). -/
  | beaconLevelChange (dt : Nat) (port : PortNo) (active : Bool)
  /-- BEACON_WINDOW_OVERRUN: a mark or space still in progress passes the top of its window (R75). -/
  | beaconWindowOverrun (port : PortNo)
  /-- NON_SYNC_CHARACTER: a character arrives that does not hold C3 hex (R169, R174). -/
  | nonSyncCharacter (dt : Nat) (line : List LineRun)
  /-- RECEIVER_RETURN_TO_HUNT: the line has stood recessive for more than 6 bit times in SKIP (R174). -/
  | receiverReturnToHunt
  /-- RESET_ASSERTED: the RESET pin goes active or the supply fails (R187). -/
  | resetAsserted
  deriving DecidableEq, Repr

end Sys2Proof
end

