-- ==== Sys2Proof/Decode.lean ====
section
/-! DEFINITION. Decode.lean: the command a word spells by the bits of spec/opcode_table.json. The table gives no row any
bits (its rows are occurrences at the part's pins and timers, not instruction words), so no word spells a command. -/

namespace Sys2Proof

/-- The command of a table word: none, for every word (no row of the table has bits). -/
def decodeTableWord (_nbits _w : Nat) : Option Instr := none

end Sys2Proof
end

