-- ==== Sys2Proof/Config.lean ====
section
/-! DEFINITION. Config.lean: the constants the manual fixes. Every time of the model is a whole number of
microseconds; the manual's units (milliseconds, tenths, beacon units of 50 µs, line bits of 4 µs) are multiples of it,
so no time stated in one unit is rounded into another (00_scope, "Time"). The part leaves no value undefined after an
occurrence, so no free value stands here (NOTES.md, "Assumptions"). -/

namespace Sys2Proof.Config

/-- One millisecond, in microseconds. -/
def ms : Nat := 1000

/-- One match tick, a tenth of a second, in microseconds (Table 0-3). -/
def tenth : Nat := 100000

/-- One bit time of the arena line, in microseconds (R169). -/
def bitTime : Nat := 4

/-- One character of the arena line: ten bit times (R169). -/
def characterTime : Nat := 10 * bitTime

/-- One beacon unit u, in microseconds (R72). -/
def beaconUnit : Nat := 50

/-- The first whole microsecond that is more than 6 bit times: the silence after which the receiver leaves SKIP, and
the gap that abandons a frame (R174). -/
def silence : Nat := 6 * bitTime + 1

/-- The running time of a transient indicator, 1.0 s (R19). -/
def transientTime : Nat := 1000 * ms

/-- The inactive time after which a jam ends, 1.0 s (R69). -/
def unjamTime : Nat := 1000 * ms

/-- The spacing of CHANGE status requests, 50 ms (R116). -/
def changeSpacing : Nat := 50 * ms

/-- The mute time, 10,000 ms (R183). -/
def muteTime : Nat := 10000 * ms

/-- The status interval of an UNCONFIGURED station, in milliseconds (R195). -/
def unconfiguredInterval : Nat := 1000

/-- The top of the 16-bit counts that saturate: match tick, piece count, side points, time since last status. -/
def countMax : Nat := 65535

/-- Room of a wait queue (R28), of a runner's start queue (R140), of the refusal hold-off list (R14), of a sight list
(R80) and of the transmit queue (R176). -/
def waitRoom : Nat := 4
def startRoom : Nat := 4
def holdOffRoom : Nat := 8
def sightRoom : Nat := 8
def transmitRoom : Nat := 8

/-- The consecutive aborted attempts that mute the station (R183). -/
def abortLimit : Nat := 16

/-- One round of idle time, in bit times, between two moments of one hold-off (R179). -/
def roundBits : Nat := 200

/-- The longest script image the loader reads, in bytes (R188). -/
def imageMax : Nat := 2048

/-- The greatest LEN of a frame (R170). -/
def frameLenMax : Nat := 64

end Sys2Proof.Config
end

