-- ==== Sys2Proof/Machine/Types.lean ====
section
/-! DEFINITION. Machine/Types.lean: the named values of the manual (phases, fixture kinds and states, causes, reasons,
frame kinds, indicator states) with the codes the arena line and the field script give them, and the records that more
than one block uses. -/

namespace Sys2Proof.Machine

/-- The match phase (Table 5-1). -/
inductive Phase where
  | idle
  | auto
  | transit
  | drive
  | endgame
  | over
  | halted
  deriving DecidableEq, Repr

/-- The phase codes of Table 10-3. -/
def Phase.code (p : Phase) : Nat :=
  match p with
  | .idle => 0
  | .auto => 1
  | .transit => 2
  | .drive => 3
  | .endgame => 4
  | .over => 5
  | .halted => 6

/-- The phase of a code; a code that Table 10-3 does not define has none. -/
def Phase.ofCode? (n : Nat) : Option Phase :=
  match n with
  | 0 => some .idle
  | 1 => some .auto
  | 2 => some .transit
  | 3 => some .drive
  | 4 => some .endgame
  | 5 => some .over
  | 6 => some .halted
  | _ => none

/-- A running phase: AUTO, TRANSIT, DRIVE or ENDGAME (Table 0-3). -/
def Phase.running (p : Phase) : Bool :=
  match p with
  | .auto | .transit | .drive | .endgame => true
  | .idle | .over | .halted => false

/-- The running phases in order (R90). -/
def runningPhases : List Phase := [.auto, .transit, .drive, .endgame]

/-- A live mask is a set of running phases: bit 0 AUTO, bit 1 TRANSIT, bit 2 DRIVE, bit 3 ENDGAME (Table 1-1; bits 1–4
of the script's byte, R191). -/
abbrev LiveMask := BitVec 4

/-- Whether a phase is in a live mask. IDLE, OVER and HALTED are in none. -/
def inMask (mask : LiveMask) (p : Phase) : Bool :=
  p.running && mask.getLsbD (p.code - 1)

/-- A side set: bit k − 1 for side k (Table 11-3). -/
abbrev SideSet := BitVec 4

/-- Whether a side is in a side set. Side 0 is in none (R8). -/
def inSideSet (set : SideSet) (s : Side) : Bool :=
  s.val != 0 && set.getLsbD (s.val - 1)

/-- The match commands (R91), with their frame codes (R97). -/
inductive Command where
  | start
  | halt
  | resume
  | clear
  deriving DecidableEq, Repr

def Command.code (c : Command) : Nat :=
  match c with
  | .start => 1
  | .halt => 2
  | .resume => 3
  | .clear => 4

def Command.ofCode? (n : Nat) : Option Command :=
  match n with
  | 1 => some .start
  | 2 => some .halt
  | 3 => some .resume
  | 4 => some .clear
  | _ => none

/-- Table 5-3: whether the current phase accepts a command. The level HALT input's part in RESUME (R103) is judged
where the command is taken. -/
def Command.accepted (c : Command) (p : Phase) : Bool :=
  match c with
  | .start => p == .idle
  | .halt => p != .halted
  | .resume => p == .halted
  | .clear => !p.running

/-- The kinds of a fixture (Table 1-1), with the codes of Table 10-5. -/
inductive Kind where
  | gate
  | dispenser
  | zone
  | goal
  deriving DecidableEq, Repr

def Kind.code (k : Kind) : Nat :=
  match k with
  | .gate => 1
  | .dispenser => 2
  | .zone => 3
  | .goal => 4

def Kind.ofCode? (n : Nat) : Option Kind :=
  match n with
  | 1 => some .gate
  | 2 => some .dispenser
  | 3 => some .zone
  | 4 => some .goal
  | _ => none

/-- A claimable fixture is a GATE or a DISPENSER. -/
def Kind.claimable (k : Kind) : Bool :=
  match k with
  | .gate | .dispenser => true
  | .zone | .goal => false

/-- The states of Table 1-3. -/
inductive FixtureState where
  | dead
  | dormant
  | free
  | held
  | live
  | counting
  | grace
  | jammed
  deriving DecidableEq, Repr

/-- The state codes of Table 10-5. A DEAD fixture is not listed (R113); its code is never sent. -/
def FixtureState.code (s : FixtureState) : Nat :=
  match s with
  | .dead => 0
  | .dormant => 1
  | .free => 2
  | .held => 3
  | .live => 4
  | .counting => 5
  | .grace => 6
  | .jammed => 7

def FixtureState.ofCode? (n : Nat) : Option FixtureState :=
  match n with
  | 1 => some .dormant
  | 2 => some .free
  | 3 => some .held
  | 4 => some .live
  | 5 => some .counting
  | 6 => some .grace
  | 7 => some .jammed
  | _ => none

/-- The states a kind can take and publish (Table 1-3, Table 6-3). -/
def Kind.admits (k : Kind) (s : FixtureState) : Bool :=
  match k, s with
  | _, .dormant => true
  | .gate, .free | .gate, .held | .dispenser, .free | .dispenser, .held => true
  | .zone, .live => true
  | .goal, .counting | .goal, .grace | .goal, .jammed => true
  | _, _ => false

/-- The forms of a link test (section 1.6). -/
inductive LinkTest where
  | ownerMine
  | ownerSide (s : Side)
  | peerFree
  | sideHolds
  deriving DecidableEq, Repr

/-- A link record: a station 1–31, a fixture and a test. -/
structure Link where
  station : StationNo
  fixture : FixtureNo
  test : LinkTest
  deriving DecidableEq, Repr

/-- The credit rule of a GOAL (Table 1-2). -/
inductive CreditRule where
  | fixed (s : Side)
  | zone (station : StationNo) (fixture : FixtureNo)
  | lastSeen
  deriving DecidableEq, Repr

/-- One value for each running phase: the periods, their boundaries, a goal's value table. -/
structure PerPhase where
  auto : Nat
  transit : Nat
  drive : Nat
  endgame : Nat
  deriving DecidableEq, Repr

def PerPhase.get (v : PerPhase) (p : Phase) : Nat :=
  match p with
  | .auto => v.auto
  | .transit => v.transit
  | .drive => v.drive
  | .endgame => v.endgame
  | .idle | .over | .halted => 0

/-- The kind parameters of Table 1-2. A GOAL whose credit rule the loader found unusable holds none; R192 has made such
a goal DEAD. -/
inductive KindParams where
  | gate (holdLimit lostTime : Nat)
  | dispenser (lostTime acap initial refillPeriod : Nat)
  | zone (cmax rateCap : Nat)
  | goal (credit : Option CreditRule) (values : PerPhase) (grace jamTime : Nat)
  deriving DecidableEq, Repr

/-- A fixture's admission window on robot numbers, inclusive at both ends (R9). -/
structure RangeWindow where
  low : Nat
  high : Nat
  deriving DecidableEq, Repr

/-- A fixture's admission window on binary digits of the robot number (R9). -/
structure MatchWindow where
  value : Nat
  mask : Nat
  deriving DecidableEq, Repr

/-- The configuration fields of a fixture record (Table 1-1). A window that is not enabled is absent. -/
structure FixtureConfig where
  params : KindParams
  port : Option PortNo
  liveMask : LiveMask
  sideSet : SideSet
  range : Option RangeWindow
  digits : Option MatchWindow
  link : Option Link
  lamp : Option UnitNo
  runner : RunnerId
  firstList : Option StepNo
  secondList : Option StepNo
  deriving DecidableEq, Repr

def KindParams.kind (p : KindParams) : Kind :=
  match p with
  | .gate _ _ => .gate
  | .dispenser _ _ _ _ => .dispenser
  | .zone _ _ => .zone
  | .goal _ _ _ _ => .goal

def FixtureConfig.kind (c : FixtureConfig) : Kind := c.params.kind

/-- The lost time of a claimable fixture, in milliseconds (Table 1-2). -/
def KindParams.lostTime (p : KindParams) : Nat :=
  match p with
  | .gate _ t => t
  | .dispenser t _ _ _ => t
  | .zone _ _ | .goal _ _ _ _ => 0

/-- The refusal reasons (Table 1-9). -/
inductive Reason where
  | phase
  | side
  | window
  | link
  | elsewhere
  | allowance
  | full
  deriving DecidableEq, Repr

/-- The release causes (Table 2-2), with their event codes (Table 10-4). -/
inductive ReleaseCause where
  | released
  | lost
  | overstay
  | phase
  | yield
  | done
  | aborted
  deriving DecidableEq, Repr

def ReleaseCause.code (c : ReleaseCause) : Nat :=
  match c with
  | .released => 1
  | .lost => 2
  | .overstay => 3
  | .phase => 4
  | .yield => 5
  | .done => 6
  | .aborted => 7

/-- Whether a release makes a hold-off entry for the released robot (R14, Table 2-2). -/
def ReleaseCause.makesEntry (c : ReleaseCause) : Bool :=
  match c with
  | .done | .lost | .overstay | .yield => true
  | .released | .phase | .aborted => false

/-- The causes of a FAULT event (Table 6-6), with their codes (Table 10-4). -/
inductive FaultCause where
  | actionError
  | actionOverflow
  | lineMuted
  deriving DecidableEq, Repr

def FaultCause.code (c : FaultCause) : Nat :=
  match c with
  | .actionError => 16
  | .actionOverflow => 17
  | .lineMuted => 18

/-- What an event reports (Table 6-6), with the cause its kind carries. -/
inductive EventKind where
  | grant
  | release (cause : ReleaseCause)
  | owner
  | score (credited : Phase)
  | jam
  | unjam
  | fault (cause : FaultCause)
  deriving DecidableEq, Repr

def EventKind.code (k : EventKind) : Nat :=
  match k with
  | .grant => 1
  | .release _ => 2
  | .owner => 3
  | .score _ => 4
  | .jam => 5
  | .unjam => 6
  | .fault _ => 7

/-- The cause byte of an event (Table 10-4); a kind that uses none sends 0. -/
def EventKind.causeCode (k : EventKind) : Nat :=
  match k with
  | .release c => c.code
  | .score p => p.code
  | .fault c => c.code
  | .grant | .owner | .jam | .unjam => 0

/-- An event as the field picture creates it (R119, R120). A field its kind does not use is 0 or none. -/
structure Event where
  seq : Fin 16
  kind : EventKind
  fixture : Option FixtureNo
  robot : Nat
  side : Nat
  value : Nat
  tick : Nat
  deriving DecidableEq, Repr

/-- The frame kinds of Table 10-1: MATCH (a match command), STATUS and EVENT. -/
inductive FrameKind where
  | command
  | status
  | event
  deriving DecidableEq, Repr

/-- One line of a status frame (R113): a peer's fixture as published. -/
structure SummaryEntry where
  fixture : FixtureNo
  kind : Kind
  state : FixtureState
  who : Nat
  stamp : Nat
  deriving DecidableEq, Repr

/-- The five status flags (Table 6-4). -/
structure StatusFlags where
  unconfigured : Bool
  eventsLost : Bool
  haltInput : Bool
  jam : Bool
  runnerFault : Bool
  deriving DecidableEq, Repr

/-- The content of a status frame (R112, Table 10-5). -/
structure Status where
  phase : Phase
  resume : Phase
  tick : Nat
  flags : StatusFlags
  points : PerSide
  entries : List SummaryEntry
  deriving DecidableEq, Repr

/-- The intents of a beacon word (Table 4-2). -/
inductive Intent where
  | present
  | request
  | release
  deriving DecidableEq, Repr

/-- The indicator states (Table 1-11; the order of R164). -/
inductive Indicator where
  | dead
  | dormant
  | idle
  | side1
  | side2
  | side3
  | side4
  | contested
  | refused
  | scored
  | halted
  deriving DecidableEq, Repr

/-- The place of an indicator state in a state map, in the order of R164. -/
def Indicator.index (i : Indicator) : Fin 11 :=
  match i with
  | .dead => 0
  | .dormant => 1
  | .idle => 2
  | .side1 => 3
  | .side2 => 4
  | .side3 => 5
  | .side4 => 6
  | .contested => 7
  | .refused => 8
  | .scored => 9
  | .halted => 10

/-- SIDEn for side n, and IDLE for no side (Table 1-11). -/
def Indicator.ofSide (s : Side) : Indicator :=
  match s with
  | 0 => .idle
  | 1 => .side1
  | 2 => .side2
  | 3 => .side3
  | 4 => .side4

/-- The transient indicators (R19). -/
inductive Transient where
  | refused
  | scored
  deriving DecidableEq, Repr

/-- Why a fixture starts a list (R140). -/
inductive Purpose where
  | grant
  | release
  | change
  deriving DecidableEq, Repr

/-- A start: a list, the fixture that hands it over, and its purpose (R140). -/
structure Start where
  list : StepNo
  fixture : FixtureNo
  purpose : Purpose
  deriving DecidableEq, Repr

/-- The reports of a runner to a fixture (Table 8-3). -/
inductive Report where
  | accepted
  | dropped
  | completed
  | aborted
  | abortedByHalt
  | flushed
  deriving DecidableEq, Repr

/-- The clock codes of a step or pattern (Table 11-2). -/
inductive TickClock where
  | us50
  | ms1
  | ms10
  | ms100
  deriving DecidableEq, Repr

/-- The length of one tick in microseconds. -/
def TickClock.time (c : TickClock) : Nat :=
  match c with
  | .us50 => 50
  | .ms1 => 1000
  | .ms10 => 10000
  | .ms100 => 100000

/-- The clock of a two-bit code (Table 11-2). -/
def TickClock.ofCode (n : Nat) : TickClock :=
  match n % 4 with
  | 0 => .us50
  | 1 => .ms1
  | 2 => .ms10
  | _ => .ms100

/-- A step of the action store (Table 8-1). -/
structure Step where
  unit : Option UnitNo
  high : Nat
  low : Nat
  repeats : Nat
  clock : TickClock
  goOn : Bool
  last : Bool
  deriving DecidableEq, Repr

/-- The empty step (R138). -/
def Step.empty : Step := ⟨none, 0, 0, 1, .us50, false, true⟩

/-- The repeats of a step: N, or 256 when N is 0 (R144, R156). -/
def Step.count (t : Step) : Nat := if t.repeats = 0 then 256 else t.repeats

/-- How the two units of a pair are used (Table 9-1). -/
inductive PairMode where
  | single
  | cascade
  | prescale
  deriving DecidableEq, Repr

/-- Who drives a unit (Table 9-1). -/
inductive Binding where
  | off
  | actuator
  | lamp
  deriving DecidableEq, Repr

/-- An entry of the lamp pattern table (R164). -/
inductive LampPattern where
  | off
  | steady
  | blink (high low : Nat) (clock : TickClock)
  deriving DecidableEq, Repr

/-- The polarity of an input (Table 7-1). -/
inductive Polarity where
  | activeHigh
  | activeLow
  deriving DecidableEq, Repr

/-- When an input's latch is set (Table 7-1). -/
inductive InputMode where
  | edge
  | level
  deriving DecidableEq, Repr

/-- The one consumer of an input's activations (Table 7-1); the target goes with route PIECE. -/
inductive Route where
  | none
  | piece (target : FixtureNo)
  | command (c : Command)
  deriving DecidableEq, Repr

/-- The classes of a status request (section 6.4). -/
inductive RequestClass where
  | periodic
  | change
  deriving DecidableEq, Repr

/-- Why the station is MUTED (R183), with the event values of Table 6-6. -/
inductive MuteCause where
  | collisions
  | twin
  deriving DecidableEq, Repr

def MuteCause.value (c : MuteCause) : Nat :=
  match c with
  | .collisions => 1
  | .twin => 2

end Sys2Proof.Machine
end

