-- ==== Sys2Proof/Machine/Operands.lean ====
section
/-! DEFINITION. Machine/Operands.lean: the forms in which the outside hands the part its operands: characters of the
arena line as levels of LINE_RXD (R169), frames (R170–R175) with their CRC and payloads, beacon words (R72–R76), and the
bits of the serial memory (R188). Reading and building a form stand side by side. -/

namespace Sys2Proof.Machine

/-! ## Characters of the arena line (R169) -/

/-- LINE_RXD at a time, true for dominant; after the stretch the line stands recessive. -/
def dominantAt (line : List LineRun) (t : Nat) : Bool :=
  match line with
  | [] => false
  | r :: rest => if t < r.time then r.dominant else dominantAt rest (t - r.time)

/-- The first change from recessive to dominant: the beginning of a start bit. -/
def startEdge (line : List LineRun) : Option Nat :=
  match line with
  | [] => none
  | r :: rest => if r.dominant && r.time != 0 then some 0 else (startEdge rest).map (· + r.time)

/-- For how long the line still stands dominant from a time on. -/
def dominantFrom (line : List LineRun) (t : Nat) : Nat :=
  match line with
  | [] => 0
  | r :: rest =>
    if r.time ≤ t then dominantFrom rest (t - r.time)
    else if r.dominant then (r.time - t) + dominantFrom rest 0 else 0

/-- What the receiver makes of one character: its byte, or a framing error with the time for which the line still
stands dominant after it. -/
inductive Heard where
  | byte (b : Byte)
  | framingError (dominant : Nat)
  deriving DecidableEq, Repr

/-- The middle of a bit of a character, from the edge of its start bit; bit 0 is the start bit, bit 9 the stop bit. -/
def bitMiddle (bit : Nat) : Nat := bit * Config.bitTime + Config.bitTime / 2

/-- R169: the receiver sees the edge of a start bit, reads each following bit at its middle, least significant first,
and judges the character at the middle of the stop bit. None when no start bit comes. -/
def readCharacter (line : List LineRun) : Option Heard :=
  (startEdge line).map fun edge =>
    let bit (k : Nat) : Nat := if dominantAt line (edge + bitMiddle (k + 1)) then 0 else 2 ^ k
    let stop := edge + bitMiddle 9
    if dominantAt line stop then .framingError (dominantFrom line stop)
    else .byte (BitVec.ofNat 8 (bit 0 + bit 1 + bit 2 + bit 3 + bit 4 + bit 5 + bit 6 + bit 7))

/-- The ten bits of a character on the line: start bit, data least significant first, stop bit; a 1 is recessive. -/
def characterBits (b : Byte) : List Bool := [false] ++ (List.range 8).map b.getLsbD ++ [true]

/-- The ten bits of a character as levels of the line. -/
def characterRuns (b : Byte) : List LineRun := (characterBits b).map fun bit => ⟨!bit, Config.bitTime⟩

/-! ## The serial memory's bits (R188) -/

/-- The bits of a byte in the order SPI carries them, most significant first. -/
def spiBits (b : Byte) : List Bool := (List.range 8).reverse.map b.getLsbD

/-- The byte of eight levels of SPI_MISO, most significant first; a level that no memory drives is high. -/
def spiByte (miso : List Bool) : Byte :=
  BitVec.ofNat 8 (((miso ++ List.replicate 8 true).take 8).foldl (fun n b => 2 * n + b.toNat) 0)

/-- The first `n` bytes that the levels of SPI_MISO spell. -/
def spiBytes (miso : List Bool) (n : Nat) : List Byte :=
  match n with
  | 0 => []
  | n + 1 => spiByte miso :: spiBytes (miso.drop 8) n

/-- The read command and the address, 0, that the loader sends first. -/
def readCommand : List Byte := [0x03#8, 0#8, 0#8, 0#8]

/-! ## The CRC of the line and of the script (R171) -/

/-- One shift of the CRC register toward its high end, with 1021 hex combined in when a 1 is pushed out. -/
def crcShift (r : BitVec 16) : BitVec 16 :=
  if r.msb then (r <<< 1) ^^^ 0x1021#16 else r <<< 1

/-- One byte taken into the CRC register: combined into its high 8 bits, then eight shifts. -/
def crcByte (r : BitVec 16) (b : Byte) : BitVec 16 :=
  Nat.repeat crcShift 8 (r ^^^ (b.zeroExtend 16 <<< 8))

/-- The CRC of a run of bytes: the register begins at FFFF hex and is not inverted at the end. -/
def crc (bytes : List Byte) : BitVec 16 := bytes.foldl crcByte 0xFFFF#16

/-! ## Fields of two bytes, high byte first (00_scope, "Byte order") -/

def word16 (high low : Byte) : Nat := high.toNat * 256 + low.toNat

def byteOf (n : Nat) : Byte := BitVec.ofNat 8 n

def bytes16 (n : Nat) : List Byte := [byteOf (n / 256), byteOf n]

def crcBytes (bytes : List Byte) : List Byte := bytes16 (crc bytes).toNat

/-! ## Frames (R170) -/

def syncByte : Byte := 0xC3#8

def FrameKind.code (k : FrameKind) : Nat :=
  match k with
  | .command => 1
  | .status => 2
  | .event => 3

def FrameKind.ofCode? (n : Nat) : Option FrameKind :=
  match n with
  | 1 => some .command
  | 2 => some .status
  | 3 => some .event
  | _ => none

/-- The part of a frame its CRC covers: LEN, KIND, SENDER, SEQ and the payload (R171). -/
def frameBody (kind : FrameKind) (sender seq : Nat) (payload : List Byte) : List Byte :=
  byteOf payload.length :: byteOf kind.code :: byteOf sender :: byteOf seq :: payload

/-- A whole frame, from SYNC to the second CRC byte (Table 10-1). -/
def frameBytes (kind : FrameKind) (sender seq : Nat) (payload : List Byte) : List Byte :=
  syncByte :: (frameBody kind sender seq payload ++ crcBytes (frameBody kind sender seq payload))

/-- The length check of Table 10-6: MATCH needs 3, EVENT 9, STATUS 14 + 5n with n, 0–8, from the payload's byte 13. -/
def lengthFits (kind : FrameKind) (payload : List Byte) : Bool :=
  match kind with
  | .command => payload.length == 3
  | .event => payload.length == 9
  | .status =>
    let n := (payload.getD 13 0).toNat
    n ≤ 8 && payload.length == 14 + 5 * n

/-- What the receiver makes of a run of characters that began with SYNC: no complete frame; a complete frame that
fails a check of Table 10-6; or a valid frame. -/
inductive Judgement where
  | incomplete
  | discarded
  | valid (kind : FrameKind) (sender : StationNo) (payload : List Byte)
  deriving DecidableEq, Repr

/-- R174 and R175: a frame is complete when 7 + LEN bytes are received, LEN being at most 64, and is then judged by
kind, length, sender and CRC in that order. SEQ is not checked. -/
def judge (bytes : List Byte) : Judgement :=
  match bytes with
  | sync :: len :: kind :: sender :: seq :: rest =>
    let payload := rest.take len.toNat
    if sync ≠ syncByte ∨ len.toNat > Config.frameLenMax ∨ rest.length ≠ len.toNat + 2 then .incomplete
    else
      match FrameKind.ofCode? kind.toNat with
      | none => .discarded
      | some k =>
        if !lengthFits k payload then .discarded
        else if h : sender.toNat < 32 then
          if sender.toNat = 0 then .discarded
          else if rest.drop len.toNat ≠ crcBytes (len :: kind :: sender :: seq :: payload) then .discarded
          else .valid k ⟨sender.toNat, h⟩ payload
        else .discarded
  | _ => .incomplete

/-! ## Payloads (R172, R173) -/

def commandPayload (c : Command) (tick : Nat) : List Byte := byteOf c.code :: bytes16 tick

/-- The command of a MATCH payload; a value outside 1–4 is no command (R97). -/
def payloadCommand (payload : List Byte) : Option Command := Command.ofCode? (payload.getD 0 0).toNat

def eventPayload (e : Event) : List Byte :=
  byteOf e.kind.code :: byteOf (match e.fixture with | some f => f.val | none => 255) :: byteOf e.robot ::
    byteOf e.side :: (bytes16 e.value ++ bytes16 e.tick ++ [byteOf e.kind.causeCode])

def flagsByte (f : StatusFlags) : Byte :=
  byteOf ((if f.unconfigured then 1 else 0) + (if f.eventsLost then 2 else 0) + (if f.haltInput then 4 else 0)
    + (if f.jam then 8 else 0) + (if f.runnerFault then 16 else 0))

def entryBytes (e : SummaryEntry) : List Byte :=
  [byteOf (e.fixture.val * 16 + e.kind.code), byteOf e.state.code, byteOf e.who] ++ bytes16 e.stamp

/-- Table 10-5. -/
def statusPayload (s : Status) : List Byte :=
  [byteOf s.phase.code, byteOf s.resume.code] ++ bytes16 s.tick ++ [flagsByte s.flags]
    ++ bytes16 s.points.one ++ bytes16 s.points.two ++ bytes16 s.points.three ++ bytes16 s.points.four
    ++ [byteOf s.entries.length] ++ s.entries.flatMap entryBytes

/-- One received summary entry; none when it carries a fixture number above 7, an undefined kind or state code, or a
state that is not one of its kind (R110). -/
def readEntry (head state who hi lo : Byte) : Option SummaryEntry :=
  match Kind.ofCode? (head.toNat % 16), FixtureState.ofCode? state.toNat with
  | some k, some st =>
    if h : head.toNat / 16 < 8 then
      if k.admits st then some ⟨⟨head.toNat / 16, h⟩, k, st, who.toNat, word16 hi lo⟩ else none
    else none
  | _, _ => none

/-- The entries of a received status, in the order the frame carries them; none when any of them is set aside. -/
def readEntries (bytes : List Byte) : Option (List SummaryEntry) :=
  match bytes with
  | [] => some []
  | head :: state :: who :: hi :: lo :: rest =>
    match readEntry head state who hi lo, readEntries rest with
    | some e, some es => some (e :: es)
    | _, _ => none
  | _ => none

/-- What the field picture takes from a received status (R110): phase, resume phase, tick and entries. The flags and
the points are not kept in a row (R108). -/
structure PeerReport where
  phase : Phase
  resume : Phase
  tick : Nat
  entries : List SummaryEntry
  deriving DecidableEq, Repr

/-- R110 step 2: a status with an undefined code, or a resume phase of HALTED, is set aside whole. -/
def readStatus (payload : List Byte) : Option PeerReport :=
  match Phase.ofCode? (payload.getD 0 0).toNat, Phase.ofCode? (payload.getD 1 0).toNat,
      readEntries (payload.drop 14) with
  | some p, some r, some es =>
    if r = .halted then none
    else some ⟨p, r, word16 (payload.getD 2 0) (payload.getD 3 0), es⟩
  | _, _, _ => none

/-! ## Beacon words (R73, R76) -/

/-- The check nibble that a payload byte calls for: 15 less the sum of its nibbles modulo 16 (R73). -/
def checkNibble (payload : Nat) : Nat := 15 - (payload / 16 + payload % 16) % 16

/-- The binary digits of a number, most significant first. -/
def bitsOf (width n : Nat) : List Bool := (List.range width).reverse.map n.testBit

/-- The number that bits spell, most significant first. -/
def bitsValue (bits : List Bool) : Nat := bits.foldl (fun n b => 2 * n + b.toNat) 0

/-- The twelve bits of a word: the payload byte, robot number times 4 plus intent value, then the check nibble. -/
def beaconWord (robot : Robot) (intent : BitVec 2) : List Bool :=
  let payload := robot.val * 4 + intent.toNat
  bitsOf 8 payload ++ bitsOf 4 (checkNibble payload)

/-- Table 4-2: intent value 3 is taken exactly as 0. -/
def Intent.ofValue (n : Nat) : Intent :=
  match n % 4 with
  | 1 => .request
  | 2 => .release
  | _ => .present

/-- R76: the robot and intent of twelve bits, none when the check nibble differs or the robot number is 0. -/
def readWord (bits : List Bool) : Option (Robot × Intent) :=
  let payload := bitsValue (bits.take 8)
  let robot : Robot := Fin.ofNat 64 (payload / 4)
  if bits.length ≠ 12 ∨ bitsValue (bits.drop 8) ≠ checkNibble payload ∨ robot = 0 then none
  else some (robot, Intent.ofValue payload)

end Sys2Proof.Machine
end

