-- ==== Sys2Proof/Machine/State.lean ====
section
/-! DEFINITION. Machine/State.lean: every piece of state the manual gives the part, block by block (Table 0-1), and the
state after reset. All of it is plain data. Times are in microseconds unless the field says ms. INVENTORY.md lists every
field with its rule. -/

namespace Sys2Proof.Machine

/-! ## Fixture engine (chapters 1–3) -/

/-- A holder (Table 1-3, R27, R29). `age` is the time since `lastSeen` counted outside HALTED. -/
structure Holder where
  robot : Robot
  side : Side
  stamp : Nat
  lastSeen : Nat
  age : Nat
  held : Nat
  deriving DecidableEq, Repr

/-- A wait-queue entry (Table 1-3, R28, R29). -/
structure Waiter where
  robot : Robot
  side : Side
  lastSeen : Nat
  age : Nat
  deriving DecidableEq, Repr

/-- The run-time fields of a GATE or DISPENSER (Table 1-3, R37, R40). The queue is oldest first. -/
structure Claims where
  holder : Option Holder
  queue : List Waiter
  allowance : PerSide
  refillCount : Nat
  inFlight : Nat
  deriving DecidableEq, Repr

/-- The run-time fields of a ZONE (section 3.2). Side 0 is none. -/
structure Control where
  owner : Side
  level : Nat
  challenger : Side
  contested : Bool
  deriving DecidableEq, Repr

/-- The run-time fields of a GOAL (Table 1-3, R64, R66, R67). `graceLeft` is the time left of the grace, whose whole
tenths are the grace remainder; `jamTimer` is the time the goal's input has stood at its level, outside HALTED. -/
structure Scoring where
  pieces : Nat
  graceLeft : Nat
  credited : Option Phase
  jamTimer : Nat
  jamFromGrace : Bool
  deriving DecidableEq, Repr

/-- A fixture record (R1, R2, R19). A record without a configuration is absent and DEAD. `indicator` is the indicator
state last determined (R18). -/
structure Fixture where
  config : Option FixtureConfig
  state : FixtureState
  claims : Claims
  control : Control
  scoring : Scoring
  transient : Option Transient
  transientLeft : Nat
  indicator : Indicator
  deriving DecidableEq, Repr

/-- A refusal hold-off entry (R14); `expiry` is in ms of running time. -/
structure HoldOff where
  robot : Robot
  fixture : FixtureNo
  expiry : Nat
  deriving DecidableEq, Repr

/-- The fixture engine (Table 0-1) with the side table it judges by (R8); entry 0 of the side table is "no robot". -/
structure Engine where
  fixtures : Vector Fixture 8
  holdOff : List HoldOff
  points : PerSide
  sideTable : Vector Side 64
  deriving DecidableEq, Repr

/-! ## Beacon decoder (chapter 4) -/

/-- The decoder states of Table 4-4. -/
inductive DecoderState where
  | hunt
  | headerMark
  | headerSpace
  | bitMark
  | bitSpace
  | trailMark
  | waitIdle
  deriving DecidableEq, Repr

/-- A sight-list entry (R80); `lastSeen` is in ms of running time. -/
structure Sight where
  robot : Robot
  side : Side
  lastSeen : Nat
  deriving DecidableEq, Repr

/-- A beacon port: the level of its pin (active is low), its decoder, the time since the pin's last change of level,
the bits received so far in the order sent (their number is the bit count), and its sight list. -/
structure Port where
  active : Bool
  decoder : DecoderState
  elapsed : Nat
  bits : List Bool
  sights : List Sight
  deriving DecidableEq, Repr

/-! ## Match clock (chapter 5) -/

/-- The match clock (Table 5-1). `tenth` is the tenth timer. `boundaryDue` is the model's own mark that a counted tick
has been taken whose comparison with the end boundary (R90) is still to come as PERIOD_END. `ticking` is the model's own
too: the fixtures that have still to take the counted tick, after one below them whose OVERSTAY or REFILL it has called
for (R2, log entry 11). -/
structure Clock where
  phase : Phase
  resume : Phase
  tick : Nat
  tenth : Nat
  boundaryDue : Bool
  ticking : List FixtureNo
  periods : PerPhase
  ends : PerPhase
  deriving DecidableEq, Repr

/-! ## Field picture (chapter 6) -/

/-- A peer row (Table 6-1). -/
structure PeerRow where
  heard : Bool
  since : Nat
  phase : Phase
  resume : Phase
  tick : Nat
  entries : List SummaryEntry
  deriving DecidableEq, Repr

/-- A status request (section 6.4). `time` is its moment for the line controller's ordering: the moment a PERIODIC
request was raised, or the moment from which a CHANGE request is eligible. -/
structure Request where
  cls : RequestClass
  time : Nat
  deriving DecidableEq, Repr

/-- The request in flight (R117), whether its snapshot carried EVENTS_LOST, and whether the flag has been set again
since (R122). -/
structure InFlight where
  request : Request
  carriedLost : Bool
  lostAgain : Bool
  deriving DecidableEq, Repr

/-- The field picture. Row k of `peers` is the row of station k + 1. `statusRaised` says that the status timer has
already reached the status interval since it was last set to 0 (R115). -/
structure Picture where
  peers : Vector PeerRow 31
  request : Option Request
  inFlight : Option InFlight
  statusTimer : Nat
  statusRaised : Bool
  lastStatus : Option Nat
  eventSeq : Fin 16
  eventsLost : Bool
  deriving DecidableEq, Repr

/-! ## Input latches (chapter 7) -/

/-- An input record (Table 7-1). -/
structure Input where
  polarity : Polarity
  mode : InputMode
  route : Route
  qualified : Bool
  disagreeing : Nat
  latch : Bool
  deriving DecidableEq, Repr

/-- The input block: the records, the time since the last sample instant, and the levels the pins showed there. -/
structure Inputs where
  records : Vector Input 12
  sampleTimer : Nat
  pins : BitVec 12
  deriving DecidableEq, Repr

/-! ## Action runners (chapter 8) -/

/-- What a runner is doing (Table 8-2). STEPPING is a delay with its time left, or a hold on a WAIT_END pattern. -/
inductive RunnerMode where
  | idle
  | delay (left : Nat)
  | holding (unit : UnitNo)
  | waitingUnit (unit : UnitNo)
  | draining
  deriving DecidableEq, Repr

/-- A runner's current list and the step it is at (R140). The units its patterns still drive are those whose driver is
this runner. -/
structure Current where
  start : Start
  index : StepNo
  deriving DecidableEq, Repr

/-- A runner (R140). The start queue is oldest first. -/
structure Runner where
  mode : RunnerMode
  current : Option Current
  queue : List Start
  deriving DecidableEq, Repr

/-- The action runners: the action store, both runners and RUNNER_FAULT. -/
structure Runners where
  store : Vector Step 64
  a : Runner
  b : Runner
  fault : Bool
  deriving DecidableEq, Repr

/-! ## Pulse units (chapter 9) -/

/-- A pattern in progress (R156): effective counts, tick, repeats remaining, phase (HIGH or LOW), time left in it. -/
structure Pattern where
  high : Nat
  low : Nat
  tick : Nat
  repeats : Nat
  isHigh : Bool
  left : Nat
  deriving DecidableEq, Repr

/-- What a lamp is to show: an index of the lamp pattern table, or the OFF pattern of a unit kept by no fixture
(R165). -/
inductive LampTarget where
  | off
  | index (i : PatternNo)
  deriving DecidableEq, Repr

/-- The lamp side of a unit (section 9.5): the state map, the indicator state last handed over (none: kept by no
fixture), the running pattern with the phase of a BLINK and its time left, and the pending pattern. -/
structure Lamp where
  map : Vector PatternNo 11
  handed : Option Indicator
  running : Option LampTarget
  isHigh : Bool
  left : Nat
  pending : Option LampTarget
  deriving DecidableEq, Repr

/-- A pulse unit: binding, pattern in progress, the arbiter's driver and last driver (R147), and its lamp side. -/
structure PulseUnit where
  binding : Binding
  pattern : Option Pattern
  driver : Option RunnerId
  lastDriver : Option RunnerId
  lamp : Lamp
  deriving DecidableEq, Repr

/-- A pair of units: mode, prescale counts and clock, and where the prescaler stands in its period (R154, R161). -/
structure Pair where
  mode : PairMode
  high : Nat
  low : Nat
  clock : TickClock
  position : Nat
  deriving DecidableEq, Repr

/-- The pulse-unit block; `safe` says that the safe state stands (R162). -/
structure Pulse where
  units : Vector PulseUnit 8
  pairs : Vector Pair 4
  patterns : Vector LampPattern 16
  safe : Bool
  deriving DecidableEq, Repr

/-! ## Line controller (chapter 10) -/

/-- What a queued frame will send (R172). A MATCH frame's tick is filled when its transmission begins. -/
inductive FrameBody where
  | command (c : Command)
  | event (e : Event)
  deriving DecidableEq, Repr

/-- A frame of the transmit queue, the moment it joined, and whether it is being sent (R176). -/
structure QueuedFrame where
  body : FrameBody
  age : Nat
  sending : Bool
  deriving DecidableEq, Repr

/-- The receiver's states (R174). -/
inductive Receiver where
  | hunt
  | frame
  | skip
  deriving DecidableEq, Repr

/-- What an attempt sends. -/
inductive Item where
  | command (c : Command)
  | event
  | status
  deriving DecidableEq, Repr

/-- An attempt in progress (R179): what it sends, its bytes, and the time left until its last stop bit has been sent. -/
structure Attempt where
  item : Item
  bytes : List Byte
  left : Nat
  deriving DecidableEq, Repr

/-- What stands on the line outside the station's own attempts (R169, R180): nothing; a dominant level; nothing, since an
abort in SYNC's start bit left it to the next idle time, where no character has been since the receiver is in HUNT; or a
character that an abort left in progress. Such a character is another device's, of which only the bit that stood against the station's
own is known, dominant for the time left of it, or one that nobody drives on, recessive; its bits come with the command
that gives the character, and it stands here until then, also once it has ended. -/
inductive Standing where
  | recessive
  | dominant
  | released
  | character (left : Nat)
  | undriven
  deriving DecidableEq, Repr

/-- The line controller. `queue` is in the order joined. `muted` holds the recorded cause while MUTED. `received` are the
characters of the frame in progress, SYNC first (R174). `busy` is the time for which what stands on the line, `standing`,
lasts yet; 0 for a quiet line. `idle` is the time the line has then been quiet: the idle time (R178), and within a
frame the gap since its last character. -/
structure Line where
  queue : List QueuedFrame
  receiver : Receiver
  lastSender : StationNo
  aborts : Nat
  muted : Option MuteCause
  muteTimer : Nat
  attempt : Option Attempt
  received : List Byte
  busy : Nat
  standing : Standing
  idle : Nat
  deriving DecidableEq, Repr

/-! ## Script loader (chapter 11) -/

/-- The load state; `held` while the RESET pin is active or the supply is coming up (R187). -/
inductive LoadState where
  | held
  | loading
  | ready
  | unconfigured
  deriving DecidableEq, Repr

/-- The loader: load state, strap pins as read at reset, the own number, and SPI_CS. -/
structure Loader where
  load : LoadState
  straps : BitVec 5
  station : StationNo
  spiSelected : Bool
  deriving DecidableEq, Repr

/-- The SETTINGS record (Table 11-2), in ms: settings of the whole station. -/
structure Settings where
  statusInterval : Nat
  staleTime : Nat
  sightWindow : Nat
  holdOffTime : Nat
  singleHold : Bool
  deriving DecidableEq, Repr

/-- The whole part. `now` is the running time (R77); `pending` is the queue of commands waiting, first in first out. -/
structure State where
  loader : Loader
  settings : Settings
  now : Nat
  engine : Engine
  ports : Vector Port 4
  clock : Clock
  picture : Picture
  inputs : Inputs
  runners : Runners
  pulse : Pulse
  line : Line
  pending : List Instr
  deriving DecidableEq, Repr

/-- Faults: none. The manual stops the part nowhere: a command that cannot take effect in a state leaves it (log
entry 3), and every error the manual names (a step error, a lost event, an unusable script) is state the part goes on
with. -/
inductive Fault where
  deriving DecidableEq, Repr

/-- Refusals. -/
inductive Refusal where
  /-- Raised by exec for a row of the table that has no meaning yet; safe, since nothing can be proved of its effect. No
  arm of Dispatch.lean answers it. -/
  | notModelled (mnemonic : String)
  deriving DecidableEq, Repr

/-! ## The start-up state of every block (R187) -/

/-- Table 1-12. In a fixture that has no such fields, being absent or of another kind, these values are the model's choice,
as they are in `Control.start` and `Scoring.start` (log entry 5). -/
def Claims.start : Claims := ⟨none, [], PerSide.all 0, 0, 0⟩

/-- Table 1-12. -/
def Control.start : Control := ⟨0, 0, 0, false⟩

/-- Table 1-12. That no jam from GRACE is noted where none has been is the model's choice (R67, log entry 5). -/
def Scoring.start : Scoring := ⟨0, 0, none, 0, false⟩

/-- An absent fixture: DEAD with no configuration (R1, R21). The run-time fields it holds all the same are the model's choice
(log entry 5). -/
def Fixture.absent : Fixture :=
  ⟨none, .dead, Claims.start, Control.start, Scoring.start, none, 0, .dead⟩

/-- R21: every fixture is absent while LOADING and at an UNCONFIGURED station. The manual gives the side points, the
refusal hold-off list (R21) and the side table (R8, R193, R194) from a good load on only: side points 0, an empty list
and side 0 for every robot before one, that is while RESET is held, while LOADING and at an UNCONFIGURED station, are the
model's choice (log entry 5). -/
def Engine.start : Engine := ⟨Vector.replicate 8 Fixture.absent, [], PerSide.all 0, Vector.replicate 64 0⟩

/-- R86: the decoder is held out of decoding while LOADING, and the sight list is empty. The state and the bits it holds
there, HUNT and none, are the model's choice, the manual giving none (log entry 5). -/
def Port.start : Port := ⟨false, .hunt, 0, [], []⟩

/-- R106: with the load ended READY. While LOADING or held in reset the match clock holds no phase, and at an UNCONFIGURED
station it is not run: IDLE in both phases, tick and tenth timer 0, and period lengths and end ticks 0 there are the
model's choice (log entry 5). -/
def Clock.start : Clock := ⟨.idle, .idle, 0, 0, false, [], ⟨0, 0, 0, 0⟩, ⟨0, 0, 0, 0⟩⟩

/-- R108: a row that is not heard. -/
def PeerRow.unheard : PeerRow := ⟨false, Config.countMax * Config.ms, .idle, .idle, 0, []⟩

/-- R123. -/
def Picture.start : Picture := ⟨Vector.replicate 31 PeerRow.unheard, none, none, 0, false, none, 0, false⟩

/-- R135: an unconfigured record. Its polarity and mode are the model's, the manual giving none (log entry 5). -/
def Input.start : Input := ⟨.activeHigh, .edge, .none, false, 0, false⟩

/-- R135, R136. The sample timer and the noted levels are the model's choice (log entries 5 and 26). -/
def Inputs.start : Inputs := ⟨Vector.replicate 12 Input.start, 0, 0⟩

def Runner.start : Runner := ⟨.idle, none, []⟩

/-- R153: both runners IDLE with empty queues. The manual gives the action store at a good load alone (R138, R153): the
64 empty steps before one are the model's choice (log entry 5). -/
def Runners.start : Runners := ⟨Vector.replicate 64 Step.empty, Runner.start, Runner.start, false⟩

/-- R167: no running and no pending index. The state map before a good load, the phase of a BLINK that does not run and its
time left are the model's choice (log entry 5). -/
def Lamp.start : Lamp := ⟨Vector.replicate 11 0, none, none, false, 0, none⟩

def PulseUnit.start : PulseUnit := ⟨.off, none, none, none, Lamp.start⟩

/-- Table 11-5, for a script without UNITS; before a good load the model's choice (log entry 5). -/
def Pair.start : Pair := ⟨.single, 0, 0, .us50, 0⟩

/-- R167. Pair modes, prescale counts and clocks, lamp patterns and state maps of units not yet configured are the
model's, the manual giving none before a good load (log entry 5). -/
def Pulse.start : Pulse :=
  ⟨Vector.replicate 8 PulseUnit.start, Vector.replicate 4 Pair.start, Vector.replicate 16 .off, false⟩

/-- R186. While LOADING the receiver takes no frame; the state it is in there, SKIP, no characters received, a quiet line
and 0 in the timers are the model's (log entry 5). -/
def Line.start : Line := ⟨[], .skip, 0, 0, none, 0, none, [], 0, .recessive, 0⟩

/-- The settings until a good load gives them: the model's choice (log entry 5). -/
def Settings.start : Settings := ⟨0, 0, 0, 0, false⟩

/-- Right after the release of reset with every strap low: LOADING, and every block at its start-up state (R187). The
strap levels themselves come from outside and are read by the RESET command. Running time counts from the end of the load
(R77): 0 before it is the model's choice (log entry 5). -/
def State.reset : State :=
  { loader := ⟨.loading, 0, 0, true⟩
    settings := Settings.start
    now := 0
    engine := Engine.start
    ports := Vector.replicate 4 Port.start
    clock := Clock.start
    picture := Picture.start
    inputs := Inputs.start
    runners := Runners.start
    pulse := Pulse.start
    line := Line.start
    pending := [] }

end Sys2Proof.Machine
end

