-- ==== Sys2Proof/Machine/Ops.lean ====
section
/-! DEFINITION. Machine/Ops.lean: the named operations over the state that more than one block uses: access to the
tables, status requests and events of the field picture (R114–R122), the transmit queue (R176), and the refusal hold-off
list (R14–R17). The block has no exception entry: what the manual raises (a FAULT event, a status flag) is a change of
state like any other. -/

namespace Sys2Proof.Machine

/-! ## Access -/

def State.fixture (s : State) (f : FixtureNo) : Fixture := s.engine.fixtures[f]

def State.setFixture (s : State) (f : FixtureNo) (x : Fixture) : State :=
  { s with engine := { s.engine with fixtures := put s.engine.fixtures f x } }

def State.setClaims (s : State) (f : FixtureNo) (c : Claims) : State :=
  s.setFixture f { s.fixture f with claims := c }

def State.setFixtureState (s : State) (f : FixtureNo) (st : FixtureState) : State :=
  s.setFixture f { s.fixture f with state := st }

def State.setHoldOff (s : State) (l : List HoldOff) : State :=
  { s with engine := { s.engine with holdOff := l } }

def State.setPort (s : State) (p : PortNo) (x : Port) : State := { s with ports := put s.ports p x }

def State.setUnit (s : State) (u : UnitNo) (x : PulseUnit) : State :=
  { s with pulse := { s.pulse with units := put s.pulse.units u x } }

def State.setInput (s : State) (i : InputNo) (x : Input) : State :=
  { s with inputs := { s.inputs with records := put s.inputs.records i x } }

def State.runner (s : State) (r : RunnerId) : Runner :=
  match r with
  | .A => s.runners.a
  | .B => s.runners.b

def State.setRunner (s : State) (r : RunnerId) (x : Runner) : State :=
  match r with
  | .A => { s with runners := { s.runners with a := x } }
  | .B => { s with runners := { s.runners with b := x } }

/-- The running time in whole milliseconds, in which sightings and hold-off expiries are held (R14, R77). -/
def State.nowMs (s : State) : Nat := s.now / Config.ms

/-- The side of a robot by the side table (R8). -/
def State.sideOf (s : State) (r : Robot) : Side := s.engine.sideTable[r]

/-- The kind of a fixture, none for an absent one. -/
def Fixture.kind? (x : Fixture) : Option Kind := x.config.map FixtureConfig.kind

/-- A configured station: its load has ended READY. -/
def State.ready (s : State) : Bool := s.loader.load == .ready

/-- The station runs: its load has ended, READY or UNCONFIGURED. -/
def State.running (s : State) : Bool := s.loader.load == .ready || s.loader.load == .unconfigured

/-- The row of a station number 1–31 (R108); a number without a row reads as not heard. -/
def State.peer (s : State) (n : StationNo) : PeerRow :=
  if h : 0 < n.val then s.picture.peers[n.val - 1]'(by have := n.isLt; omega) else PeerRow.unheard

def State.setPeer (s : State) (n : StationNo) (row : PeerRow) : State :=
  if h : 0 < n.val then
    { s with picture := { s.picture with peers := s.picture.peers.set (n.val - 1) row (by have := n.isLt; omega) } }
  else s

/-- R109: a row is fresh when it is heard and its time since last status, in whole ms, is at most the stale time. -/
def State.freshRow (s : State) (row : PeerRow) : Bool :=
  row.heard && row.since / Config.ms ≤ s.settings.staleTime

/-! ## Status requests (R115–R118) -/

/-- The moment 50 ms after the beginning of the most recent status transmission (R116). -/
def Picture.spacingEnd (p : Picture) : Nat :=
  match p.lastStatus with
  | none => 0
  | some t => t + Config.changeSpacing

/-- R116: a CHANGE is raised. A pending CHANGE stands; otherwise the request is, or is upgraded to, CHANGE, eligible
from the later of this moment and 50 ms after the most recent status transmission began. -/
def Picture.raiseChange (p : Picture) (now : Nat) : Picture :=
  match p.request with
  | some ⟨.change, _⟩ => p
  | some ⟨.periodic, _⟩ | none => { p with request := some ⟨.change, max now p.spacingEnd⟩ }

/-- R115: a PERIODIC request is made if none is pending. -/
def Picture.raisePeriodic (p : Picture) (now : Nat) : Picture :=
  match p.request with
  | some _ => p
  | none => { p with request := some ⟨.periodic, now⟩ }

/-- A CHANGE raised at a configured station. Station 0 raises no status request (R118); an UNCONFIGURED station raises
none but at unmuting (R195). -/
def State.raiseChange (s : State) : State :=
  if s.ready && s.loader.station != 0 then { s with picture := s.picture.raiseChange s.now } else s

/-- R177: a status request may be chosen: a PERIODIC one from the moment it is raised, a CHANGE one once eligible. -/
def Request.eligible (r : Request) (now : Nat) : Bool :=
  match r.cls with
  | .periodic => true
  | .change => r.time ≤ now

/-! ## Events (R119–R122) -/

/-- R122: EVENTS_LOST is set. A setting while it is clear raises a CHANGE request; any setting while a status is in
flight is remembered, so that the end of that status leaves the flag set. At station 0 and at an UNCONFIGURED station
it is never set. -/
def State.setEventsLost (s : State) : State :=
  if s.ready && s.loader.station != 0 then
    let s1 := if s.picture.eventsLost then s else s.raiseChange
    { s1 with picture := { s1.picture with
        eventsLost := true
        inFlight := s1.picture.inFlight.map fun x => { x with lostAgain := true } } }
  else s

/-- R119: the field picture numbers an event, advances the counter, and hands the frame to the transmit queue, which
takes it when not MUTED and holding fewer than 8 frames; otherwise the frame is dropped and EVENTS_LOST is set. Station
0 and an UNCONFIGURED station create no event (R121). -/
def State.createEvent (s : State) (kind : EventKind) (fixture : Option FixtureNo) (robot : Robot) (side : Side)
    (value : Nat) : State :=
  if s.ready && s.loader.station != 0 then
    let e : Event := ⟨s.picture.eventSeq, kind, fixture, robot.val, side.val, value, s.clock.tick⟩
    let s1 := { s with picture := { s.picture with eventSeq := s.picture.eventSeq + 1 } }
    if s.line.muted.isNone && s.line.queue.length < Config.transmitRoom then
      { s1 with line := { s1.line with queue := s1.line.queue ++ [⟨.event e, s.now, false⟩] } }
    else s1.setEventsLost
  else s

/-! ## The transmit queue (R176) -/

/-- An EVENT frame that is not being sent: one that a MATCH frame may displace. -/
def QueuedFrame.displaceable (q : QueuedFrame) : Bool :=
  match q.body with
  | .event _ => !q.sending
  | .command _ => false

/-- The queue without its newest displaceable EVENT frame; the queue keeps the order joined, so the newest is last. -/
def dropNewestEvent (queue : List QueuedFrame) : List QueuedFrame :=
  (queue.reverse.eraseP QueuedFrame.displaceable).reverse

/-- R176: a MATCH frame is handed over by the match clock. With 8 frames queued it displaces the newest EVENT frame not
being sent, which sets EVENTS_LOST; when none can be displaced, or while MUTED, it is not taken. Station 0 queues no
frame (R185), and only a configured station hands one over (R106). -/
def State.queueCommand (s : State) (c : Command) : State :=
  if s.ready && s.loader.station != 0 && s.line.muted.isNone then
    let q : QueuedFrame := ⟨.command c, s.now, false⟩
    if s.line.queue.length < Config.transmitRoom then
      { s with line := { s.line with queue := s.line.queue ++ [q] } }
    else if s.line.queue.any QueuedFrame.displaceable then
      { s with line := { s.line with queue := dropNewestEvent s.line.queue ++ [q] } }.setEventsLost
    else s
  else s

/-- Whether a frame of this command of the station's own waits in the queue or is being sent (R99, R104). -/
def State.commandQueued (s : State) (c : Command) : Bool :=
  s.line.queue.any fun q => q.body == .command c

/-! ## The refusal hold-off list (R14–R17) -/

/-- Which of two entries is removed first from a full list: the earlier expiry, then the lower fixture, then the lower
robot (R15). -/
def HoldOff.before (x y : HoldOff) : Bool :=
  x.expiry < y.expiry ||
    (x.expiry == y.expiry && (x.fixture.val < y.fixture.val ||
      (x.fixture.val == y.fixture.val && x.robot.val < y.robot.val)))

/-- The entry that a full list loses. -/
def firstHoldOff (x : HoldOff) (l : List HoldOff) : HoldOff :=
  l.foldl (fun m y => if y.before m then y else m) x

/-- A list with one entry fewer: the one R15 removes. -/
def evictHoldOff (l : List HoldOff) : List HoldOff :=
  match l with
  | [] => []
  | x :: rest => (x :: rest).erase (firstHoldOff x rest)

def HoldOff.isFor (x : HoldOff) (robot : Robot) (f : FixtureNo) : Bool := x.robot == robot && x.fixture == f

/-- R15: an entry is made. One for the same pair is replaced; a full list loses its first entry. -/
def addHoldOff (l : List HoldOff) (e : HoldOff) : List HoldOff :=
  if l.any (·.isFor e.robot e.fixture) then l.map fun x => if x.isFor e.robot e.fixture then e else x
  else if l.length < Config.holdOffRoom then l ++ [e]
  else evictHoldOff l ++ [e]

/-- R14: an entry is made for a robot and a fixture, unless the hold-off time is 0. -/
def State.makeHoldOff (s : State) (robot : Robot) (f : FixtureNo) : State :=
  if s.settings.holdOffTime = 0 then s
  else s.setHoldOff (addHoldOff s.engine.holdOff ⟨robot, f, s.nowMs + s.settings.holdOffTime⟩)

/-- Check 1 of R23: the pair has an entry that has not expired. An entry met at the very moment of its expiry and not
yet removed still sets the request aside (R16). -/
def State.heldOff (s : State) (robot : Robot) (f : FixtureNo) : Bool :=
  s.engine.holdOff.any fun x => x.isFor robot f && s.now ≤ x.expiry * Config.ms

end Sys2Proof.Machine
end

