-- ==== Sys2Proof/Machine/Flags.lean ====
section
/-! DEFINITION. Machine/Flags.lean: what the part computes from its state for others to see: the levels its consumers
read from the inputs (R102, R132), the five status flags (Table 6-4), the status snapshot (R112, R113), the indicator
state of a fixture (R18), and the levels of its output pins. -/

namespace Sys2Proof.Machine

/-! ## Input levels -/

/-- An active level HALT input: routed HALT, in LEVEL mode, qualified active (R102). -/
def Input.holdsHalt (x : Input) : Bool := x.route == .command .halt && x.mode == .level && x.qualified

/-- The HALT_INPUT flag: at least one active level HALT input (R102). -/
def haltInput (records : Vector Input 12) : Bool := inputNumbers.any fun i => records[i].holdsHalt

def State.haltInput (s : State) : Bool := Machine.haltInput s.inputs.records

/-- The goal's input: active while any of its PIECE inputs is qualified active (section 3.4, R132). -/
def goalInput (records : Vector Input 12) (f : FixtureNo) : Bool :=
  inputNumbers.any fun i => records[i].route == .piece f && records[i].qualified

def State.goalInput (s : State) (f : FixtureNo) : Bool := Machine.goalInput s.inputs.records f

/-! ## Status flags and snapshot -/

/-- The JAM flag: at least one goal is JAMMED (R67, R69). -/
def State.jamFlag (s : State) : Bool := fixtureNumbers.any fun f => (s.fixture f).state == .jammed

/-- Table 6-4. -/
def State.statusFlags (s : State) : StatusFlags :=
  { unconfigured := s.loader.load == .unconfigured
    eventsLost := s.picture.eventsLost
    haltInput := s.haltInput
    jam := s.jamFlag
    runnerFault := s.runners.fault }

/-- R113: a fixture's summary entry; a DEAD fixture has none. -/
def summaryEntry (f : FixtureNo) (x : Fixture) : Option SummaryEntry :=
  match x.config with
  | none => none
  | some c =>
    if x.state = .dead then none
    else
      match c.kind with
      | .gate | .dispenser =>
        match x.claims.holder with
        | some h => some ⟨f, c.kind, x.state, h.robot.val, h.stamp⟩
        | none => some ⟨f, c.kind, x.state, 0, 0⟩
      | .zone => some ⟨f, c.kind, x.state, x.control.owner.val, x.control.level⟩
      | .goal => some ⟨f, c.kind, x.state, 0, x.scoring.pieces⟩

/-- R112: one entry for each fixture that is not DEAD, in ascending order of fixture number. -/
def State.summary (s : State) : List SummaryEntry :=
  fixtureNumbers.filterMap fun f => summaryEntry f (s.fixture f)

/-- R112: the snapshot a status frame is filled from. An UNCONFIGURED station's clock, points and fixtures stand at
IDLE, 0 and none, so the same reading gives what R195 says it reports. -/
def State.snapshot (s : State) : Status :=
  ⟨s.clock.phase, s.clock.resume, s.clock.tick, s.statusFlags, s.engine.points, s.summary⟩

/-! ## Indicator states -/

/-- The indicator a fixture's state gives, below the transient rows of Table 1-11. -/
def stateIndicator (x : Fixture) : Indicator :=
  match x.state with
  | .dead => .dead
  | .dormant => .dormant
  | .free => .idle
  | .held =>
    match x.claims.holder with
    | some h => Indicator.ofSide h.side
    | none => .idle
  | .live => if x.control.contested then .contested else Indicator.ofSide x.control.owner
  | .counting | .grace => .idle
  | .jammed => .dormant

/-- R18: the first row of Table 1-11 that applies. -/
def indicatorOf (phase : Phase) (x : Fixture) : Indicator :=
  if phase = .halted then .halted
  else if x.state = .dead then .dead
  else
    match x.transient with
    | some .refused => .refused
    | some .scored => .scored
    | none => stateIndicator x

/-! ## Output pins (R154–R166, R169) -/

/-- The pair of a unit, and whether the unit is the odd one of it (section 9.1). -/
def pairOf (u : UnitNo) : PairNo := ⟨u.val / 2, by have := u.isLt; omega⟩

def isOdd (u : UnitNo) : Bool := u.val % 2 == 1

def evenUnit (u : UnitNo) : UnitNo := ⟨u.val - u.val % 2, by have := u.isLt; omega⟩

/-- The pattern an index of the table gives; a unit kept by no fixture shows OFF (R165). -/
def Pulse.lampPattern (p : Pulse) (t : LampTarget) : LampPattern :=
  match t with
  | .off => .off
  | .index i => p.patterns[i]

/-- The output of a unit by its own binding: an ACTUATOR is high in the high phase of its pattern unless the safe state
stands (R157, R162); a LAMP shows its running pattern (R164); OFF is low (R154). -/
def Pulse.ownOutput (p : Pulse) (u : UnitNo) : Bool :=
  let x := p.units[u]
  match x.binding with
  | .off => false
  | .actuator =>
    match x.pattern with
    | some t => t.isHigh && !p.safe
    | none => false
  | .lamp =>
    match x.lamp.running with
    | none => false
    | some t =>
      match p.lampPattern t with
      | .off => false
      | .steady => true
      | .blink _ _ _ => x.lamp.isHigh

/-- The level of OUTu: the odd output of a CASCADE pair carries its even unit's waveform (R160), a PRESCALE pair's
prescaler pin stays low (R161). -/
def Pulse.output (p : Pulse) (u : UnitNo) : Bool :=
  match p.pairs[pairOf u].mode with
  | .single => p.ownOutput u
  | .cascade => p.ownOutput (evenUnit u)
  | .prescale => isOdd u && p.ownOutput u

/-- LINE_DE: the driver is enabled for the whole of each attempt (R169). -/
def Line.driverEnabled (l : Line) : Bool := l.attempt.isSome

/-- The time since an attempt began. -/
def Attempt.elapsed (a : Attempt) : Nat := Config.characterTime * a.bytes.length - a.left

/-- The bit of an attempt that this moment falls in (R169). -/
def Attempt.bit (a : Attempt) : Bool := (a.bytes.flatMap characterBits).getD (a.elapsed / Config.bitTime) true

/-- LINE_TXD: the bit of the attempt (R169). Outside an attempt the manual gives LINE_TXD no level, only that LINE_DE is
disabled and the station drives nothing: recessive (1) there is the model's choice (log entry 31). -/
def Line.transmitBit (l : Line) : Bool :=
  match l.attempt with
  | none => true
  | some a => a.bit

/-- LINE_RXD: whether the line reads dominant. Within an attempt it reads as the station itself drives, as long as every
bit reads back as sent; outside one, as what stands on the line and is not yet over; a quiet line is recessive (R169,
R180). None: another device's character goes on, whose bits no command has given yet (log entry 23). -/
def Line.reads (l : Line) : Option Bool :=
  if l.attempt.isSome then some !l.transmitBit
  else if l.busy = 0 then some false
  else
    match l.standing with
    | .recessive | .released | .undriven => some false
    | .dominant => some true
    | .character left => if left = 0 then none else some true

/-- A line that stands dominant for this time yet. -/
def Line.fallen (l : Line) (dominant : Nat) : Line :=
  { l with busy := dominant, standing := if dominant = 0 then .recessive else .dominant }

/-- SPI_SCK and SPI_MOSI over one bit of the loader's, by half periods of the 1 MHz clock: SPI_MOSI takes the bit as
SPI_SCK falls, and SPI_MISO is sampled as it rises (R188). -/
def spiClock (bit : Bool) : List (Bool × Bool) := [(false, bit), (true, bit)]

/-- What the loader sends on SPI_SCK and SPI_MOSI as a load begins: the read command with address 0, most significant
bit first. After it SPI_MOSI carries nothing (R188). -/
def Loader.spiSends (l : Loader) : List (Bool × Bool) :=
  if l.load = .loading then (readCommand.flatMap spiBits).flatMap spiClock else []

end Sys2Proof.Machine
end

