-- ==== Sys2Proof/Machine/Time.lean ====
section
/-! DEFINITION. Machine/Time.lean: what the passing of running time does by itself. Every timer of the part counts here
and nowhere else; what happens when one runs out is a command of its own. A timer that has run out stands at its end
until its command is taken (log entry 2). Sight-list and hold-off entries that are older than the manual lets them stand
are dropped as time passes them (R16, R80). -/

namespace Sys2Proof.Machine

/-- R29: the ages of the holder and of each queued robot count the time outside HALTED. -/
def Claims.advance (c : Claims) (e : Nat) : Claims :=
  { c with
    holder := c.holder.map fun h => { h with age := h.age + e }
    queue := c.queue.map fun w => { w with age := w.age + e } }

/-- A goal whose grace is running: in GRACE, or JAMMED from GRACE with its grace not yet over (R64, R68). -/
def Fixture.graceRuns (x : Fixture) : Bool :=
  x.state == .grace || (x.state == .jammed && x.scoring.jamFromGrace && x.scoring.credited.isSome)

/-- A GOAL that is not DEAD keeps a jam timer (R66). -/
def Fixture.liveGoal (x : Fixture) : Bool := x.kind? == some .goal && x.state != .dead

/-- R64, R66: grace remainder and jam timer count the time outside HALTED. -/
def Fixture.advanceScoring (x : Fixture) (e : Nat) : Scoring :=
  { x.scoring with
    graceLeft := if x.graceRuns then x.scoring.graceLeft - e else x.scoring.graceLeft
    jamTimer := if x.liveGoal then x.scoring.jamTimer + e else x.scoring.jamTimer }

/-- One fixture over `d`, of which `e` is outside HALTED; the transient's time runs in every phase (R19). -/
def Fixture.advance (x : Fixture) (d e : Nat) : Fixture :=
  { x with
    claims := x.claims.advance e
    scoring := x.advanceScoring e
    transientLeft := x.transientLeft - d }

/-- R14, R16: a hold-off entry stands no longer than its expiry. -/
def HoldOff.stands (now : Nat) (x : HoldOff) : Bool := now ≤ x.expiry * Config.ms

def Engine.advance (g : Engine) (now d e : Nat) : Engine :=
  { g with
    fixtures := Vector.ofFn fun i => g.fixtures[i].advance d e
    holdOff := g.holdOff.filter (HoldOff.stands now) }

/-- R80: no sight-list entry is older than the sight window. -/
def Sight.stands (now window : Nat) (x : Sight) : Bool := now ≤ (x.lastSeen + window) * Config.ms

def Port.advance (p : Port) (now window d : Nat) : Port :=
  { p with elapsed := p.elapsed + d, sights := p.sights.filter (Sight.stands now window) }

/-- R90: the tenth timer counts in the running phases and stands in the others. -/
def Clock.advance (c : Clock) (d : Nat) : Clock :=
  { c with tenth := if c.phase.running then min Config.tenth (c.tenth + d) else c.tenth }

/-- R109: the time since last status stands at 65535 ms once it gets there. -/
def PeerRow.advance (r : PeerRow) (d : Nat) : PeerRow :=
  { r with since := min (Config.countMax * Config.ms) (r.since + d) }

/-- R109, R115: peer rows age and the status timer counts, in every phase; station 0 keeps no status timer (R118). -/
def Picture.advance (p : Picture) (station : StationNo) (d : Nat) : Picture :=
  { p with
    peers := Vector.ofFn fun i => p.peers[i].advance d
    statusTimer := if station = 0 then p.statusTimer else p.statusTimer + d }

/-- R127: the sample instants of a configured station come every 1 ms. -/
def Inputs.advance (x : Inputs) (ready : Bool) (d : Nat) : Inputs :=
  { x with sampleTimer := if ready then min Config.ms (x.sampleTimer + d) else x.sampleTimer }

/-- R144. -/
def Runner.advance (r : Runner) (d : Nat) : Runner :=
  match r.mode with
  | .delay left => { r with mode := .delay (left - d) }
  | .idle | .holding _ | .waitingUnit _ | .draining => r

def Runners.advance (x : Runners) (d : Nat) : Runners := { x with a := x.a.advance d, b := x.b.advance d }

/-- R157, R162, R166: a pattern's time stands while the safe state does; a BLINK's phase runs in every phase. -/
def PulseUnit.advance (x : PulseUnit) (safe : Bool) (d : Nat) : PulseUnit :=
  { x with
    pattern := x.pattern.map fun t => if safe then t else { t with left := t.left - d }
    lamp := { x.lamp with left := x.lamp.left - d } }

/-- R161: the prescaler's period. -/
def Pair.period (p : Pair) : Nat := ((p.high + 1) + (p.low + 1)) * p.clock.time

/-- R161: a PRESCALE pair's prescaler runs without end, through every phase. -/
def Pair.advance (p : Pair) (d : Nat) : Pair :=
  { p with position := if p.mode = .prescale then (p.position + d) % p.period else p.position }

def Pulse.advance (p : Pulse) (d : Nat) : Pulse :=
  { p with
    units := Vector.ofFn fun i => p.units[i].advance p.safe d
    pairs := Vector.ofFn fun i => p.pairs[i].advance d }

/-- R178: the receiver is not within a frame. The line itself is idle once what stands on it is over (`busy`). -/
def Line.isIdle (l : Line) : Bool := l.receiver != .frame && l.attempt.isNone

/-- The characters of an attempt that have been sent whole. -/
def Attempt.sent (a : Attempt) : Nat := a.elapsed / Config.characterTime

/-- R174, R180: during an attempt the station's own receiver hears what is sent: from the end of SYNC on it is within the
frame. -/
def Line.hearOwn (l : Line) : Line :=
  match l.attempt with
  | none => l
  | some a => if a.sent = 0 then l else { l with receiver := .frame, received := a.bytes.take a.sent }

/-- R169: of another device's character the known dominant level runs out. -/
def Standing.advance (x : Standing) (d : Nat) : Standing :=
  match x with
  | .character left => .character (left - d)
  | .recessive | .dominant | .released | .undriven => x

/-- R178, R180, R183: what stands on the line and the quiet after it, the attempt's bits and the mute timer. -/
def Line.advance (l : Line) (d : Nat) : Line :=
  Line.hearOwn { l with
    busy := l.busy - d
    standing := l.standing.advance d
    idle := if l.attempt.isNone then l.idle + (d - l.busy) else l.idle
    attempt := l.attempt.map fun a => { a with left := a.left - d }
    muteTimer := l.muteTimer - d }

/-- Running time passes. It counts from the end of the load (R77): before that nothing counts. -/
def State.advance (s : State) (d : Nat) : State :=
  if s.running then
    let now := s.now + d
    let e := if s.clock.phase = .halted then 0 else d
    { s with
      now := now
      engine := s.engine.advance now d e
      ports := Vector.ofFn fun i => s.ports[i].advance now s.settings.sightWindow d
      clock := s.clock.advance d
      picture := s.picture.advance s.loader.station d
      inputs := s.inputs.advance s.ready d
      runners := s.runners.advance d
      pulse := s.pulse.advance d
      line := s.line.advance d }
  else s

/-- A command that is the expiry of one of the part's own timers: `wait` is the time still missing, none when the
expiry cannot come in this state. The missing time passes, then the expiry acts; one that cannot come leaves the state
as it is (log entries 2 and 3). -/
def onExpiry (wait : State → Option Nat) (act : State → State) (s : State) : Host.Outcome State Fault Refusal :=
  match wait s with
  | some d => .next (act (s.advance d))
  | none => .next s

/-- A command from outside that comes `dt` after the one before it. -/
def afterTime (dt : Nat) (act : State → State) (s : State) : Host.Outcome State Fault Refusal :=
  .next (act (s.advance dt))

end Sys2Proof.Machine
end

