-- ==== Sys2Proof/Machine/Lamps.lean ====
section
/-! DEFINITION. Machine/Lamps.lean: the pulse units' side of things (chapter 9): lamp targets and running patterns
(R164–R166), the safe state (R162, R163), patterns on ACTUATOR units (R155–R161), and the handing of a fixture's
indicator state to its lamp (R18, R20). -/

namespace Sys2Proof.Machine

/-! ## Lamps -/

/-- The length of a high or low phase of a lamp pattern; OFF and STEADY have no phase ends (R164, R166). -/
def LampPattern.phaseTime (p : LampPattern) (isHigh : Bool) : Nat :=
  match p with
  | .off | .steady => 0
  | .blink high low clock => ((if isHigh then high else low) + 1) * clock.time

def LampPattern.blinks (p : LampPattern) : Bool :=
  match p with
  | .off | .steady => false
  | .blink _ _ _ => true

/-- R165: the target of a LAMP unit. -/
def Lamp.target (l : Lamp) (safe : Bool) : LampTarget :=
  if safe then .index l.map[Indicator.halted.index]
  else
    match l.handed with
    | some i => .index l.map[i.index]
    | none => .off

/-- A target becomes the running pattern; a BLINK begins with its high phase (R166). -/
def Lamp.run (l : Lamp) (p : Pulse) (t : LampTarget) : Lamp :=
  { l with running := some t, isHigh := true, left := (p.lampPattern t).phaseTime true, pending := none }

/-- Whether the running pattern is a BLINK, whose change waits for a phase end (R166). -/
def Lamp.waits (l : Lamp) (p : Pulse) : Bool :=
  match l.running with
  | none => false
  | some t => (p.lampPattern t).blinks

/-- R166: a target formed afresh. `atOnce` marks the HALTED entry formed because the safe state began or HALTED was
handed over. -/
def Lamp.take (l : Lamp) (p : Pulse) (atOnce : Bool) (t : LampTarget) : Lamp :=
  if l.running = some t then { l with pending := none }
  else if atOnce || !l.waits p then l.run p t
  else { l with pending := some t }

/-- R165: a fixture hands a new indicator state to a lamp unit. -/
def PulseUnit.handOver (x : PulseUnit) (p : Pulse) (i : Indicator) : PulseUnit :=
  let l := { x.lamp with handed := some i }
  { x with lamp := l.take p (i == .halted) (l.target p.safe) }

/-- The fixture's lamp unit, if it keeps one (R20). -/
def Fixture.lamp? (x : Fixture) : Option UnitNo := x.config.bind FixtureConfig.lamp

/-- A fixture's indicator state is handed to its lamp unit, if it has one (R20). -/
def State.handOver (s : State) (f : FixtureNo) (i : Indicator) : State :=
  match (s.fixture f).lamp? with
  | none => s
  | some u => s.setUnit u (s.pulse.units[u].handOver s.pulse i)

/-- R18, R20: a fixture's indicator state is determined afresh, and handed over when it has changed. -/
def State.refreshIndicator (s : State) (f : FixtureNo) : State :=
  let i := indicatorOf s.clock.phase (s.fixture f)
  if i = (s.fixture f).indicator then s
  else (s.setFixture f { s.fixture f with indicator := i }).handOver f i

/-- R19: a transient indicator starts, or starts again, with 1.0 s. -/
def State.startTransient (s : State) (f : FixtureNo) (t : Transient) : State :=
  (s.setFixture f { s.fixture f with transient := some t, transientLeft := Config.transientTime }).refreshIndicator f

/-- R165, R166: every LAMP unit forms its target afresh when the safe state begins or ends. -/
def Pulse.retarget (p : Pulse) (began : Bool) : Pulse :=
  { p with units := Vector.ofFn fun i =>
      let x := p.units[i]
      if x.binding = .lamp then { x with lamp := x.lamp.take p began (x.lamp.target p.safe) } else x }

/-- R162: the safe state begins. Outputs and pattern times follow from `safe` (Pulse.ownOutput, PulseUnit.advance). -/
def Pulse.enterSafe (p : Pulse) : Pulse :=
  if p.safe then p else Pulse.retarget { p with safe := true } true

/-- R163: the safe state ends; patterns still held go on. -/
def Pulse.leaveSafe (p : Pulse) : Pulse :=
  if p.safe then Pulse.retarget { p with safe := false } false else p

/-! ## Patterns -/

/-- R159–R161: the effective counts and the tick that a pair mode gives a step. -/
def Pair.effective (p : Pair) (t : Step) : Nat × Nat × Nat :=
  match p.mode with
  | .single => (min t.high 255, min t.low 255, t.clock.time)
  | .cascade => (t.high, t.low, t.clock.time)
  | .prescale => (min t.high 255, min t.low 255, p.period)

/-- R156: the pattern a step begins. -/
def Pair.pattern (p : Pair) (t : Step) : Pattern :=
  let (h, l, tick) := p.effective t
  ⟨h, l, tick, t.count, true, (h + 1) * tick⟩

/-- R161: a pattern that begins on the odd unit of a PRESCALE pair restarts the prescaler's period. -/
def Pair.restart (p : Pair) : Pair := if p.mode = .prescale then { p with position := 0 } else p

/-- R147, R156: a runner becomes a unit's driver and last driver, and its step's pattern begins there. -/
def Pulse.drive (p : Pulse) (u : UnitNo) (r : RunnerId) (t : Step) : Pulse :=
  let x := p.units[u]
  let pair := p.pairs[pairOf u]
  { p with
    units := put p.units u { x with pattern := some (pair.pattern t), driver := some r, lastDriver := some r }
    pairs := put p.pairs (pairOf u) pair.restart }

/-- R158, R147: a unit's pattern, if any, ends where it stands, and the unit has no driver. -/
def PulseUnit.released (x : PulseUnit) : PulseUnit := { x with pattern := none, driver := none }

/-- The units that patterns of a runner's current list still drive (R140, R147). -/
def Pulse.drivenBy (p : Pulse) (r : RunnerId) : List UnitNo :=
  unitNumbers.filter fun u => p.units[u].driver == some r

/-- R149, R150: a runner stops every pattern it drives. -/
def Pulse.stop (p : Pulse) (r : RunnerId) : Pulse :=
  { p with units := Vector.ofFn fun i =>
      let x := p.units[i]
      if x.driver = some r then x.released else x }

/-- The half of a CASCADE or PRESCALE pair that no step may name (R148, R155). -/
def Pulse.addressable (p : Pulse) (u : UnitNo) : Bool :=
  match p.pairs[pairOf u].mode with
  | .single => true
  | .cascade => !isOdd u
  | .prescale => isOdd u

end Sys2Proof.Machine
end

