-- ==== Sys2Proof/Machine/Admission.lean ====
section
/-! DEFINITION. Machine/Admission.lean: the tests a fixture makes: admission by side and window (R8, R9), links
(R10–R12), holding elsewhere (R25), the checks of a claim (R23), the readers of the sight lists (R49, R84), and a goal's
credit (R58). None of them changes anything. -/

namespace Sys2Proof.Machine

/-! ## Admission (R8, R9) -/

def RangeWindow.holds (w : RangeWindow) (r : Robot) : Bool := w.low ≤ r.val && r.val ≤ w.high

/-- R9: every digit the mask selects agrees. -/
def MatchWindow.holds (w : MatchWindow) (r : Robot) : Bool := r.val &&& w.mask == w.value &&& w.mask

/-- R9: the window test, by the windows enabled. -/
def FixtureConfig.windowTest (c : FixtureConfig) (r : Robot) : Bool :=
  match c.range, c.digits with
  | none, none => true
  | some w, none => w.holds r
  | none, some w => w.holds r
  | some w, some v => w.holds r || v.holds r

/-- R8: the side test. -/
def FixtureConfig.sideTest (c : FixtureConfig) (side : Side) : Bool := inSideSet c.sideSet side

/-- R9: a robot is admitted when it passes both tests. -/
def FixtureConfig.admits (c : FixtureConfig) (r : Robot) (side : Side) : Bool := c.sideTest side && c.windowTest r

/-! ## Links (R10–R12) -/

/-- Table 1-6: a link test on the own fixture table. A DEAD or absent fixture, or one of another kind, meets none. -/
def linkOwn (t : LinkTest) (x : Fixture) (side : Side) : Bool :=
  match x.kind? with
  | none => false
  | some k =>
    if x.state = .dead then false
    else
      match t with
      | .ownerMine => k == .zone && x.control.owner != 0 && x.control.owner == side
      | .ownerSide n => k == .zone && x.control.owner != 0 && x.control.owner == n
      | .peerFree => k.claimable && x.state == .free
      | .sideHolds =>
        k.claimable && x.state == .held &&
          match x.claims.holder with
          | some h => h.side == side
          | none => false

/-- Table 1-7: a link test on a peer's summary entry. SIDE_HOLDS judges the holder's side by the own side table; a who
value that is no robot's number has no side (R110). -/
def linkPeer (s : State) (t : LinkTest) (e : SummaryEntry) (side : Side) : Bool :=
  match t with
  | .ownerMine => e.kind == .zone && e.who != 0 && e.who == side.val
  | .ownerSide n => e.kind == .zone && e.who == n.val
  | .peerFree => e.kind.claimable && e.state == .free
  | .sideHolds =>
    e.kind.claimable && e.state == .held &&
      if h : e.who < 64 then s.sideOf ⟨e.who, h⟩ != 0 && s.sideOf ⟨e.who, h⟩ == side else false

/-- The first entry of a row for a fixture number (R110). -/
def PeerRow.entry? (r : PeerRow) (f : FixtureNo) : Option SummaryEntry := r.entries.find? fun e => e.fixture == f

/-- R10: whether a link is met for a requester of this side. -/
def State.linkMet (s : State) (l : Link) (side : Side) : Bool :=
  if l.station = s.loader.station then linkOwn l.test (s.fixture l.fixture) side
  else
    let row := s.peer l.station
    s.freshRow row &&
      match row.entry? l.fixture with
      | some e => linkPeer s l.test e side
      | none => false

/-! ## Holding elsewhere (R25) -/

/-- A summary entry that shows a robot holding a GATE (R25, R43). -/
def SummaryEntry.holdsGate (e : SummaryEntry) (r : Robot) : Bool :=
  e.kind == .gate && e.state == .held && e.who == r.val

def stationNumbers : List StationNo := List.finRange 32

/-- R25: the robot is holder of another own GATE, or a fresh peer row shows it holding one. -/
def State.holdsElsewhere (s : State) (f : FixtureNo) (r : Robot) : Bool :=
  (fixtureNumbers.any fun g =>
    g != f && (s.fixture g).kind? == some .gate &&
      match (s.fixture g).claims.holder with
      | some h => h.robot == r
      | none => false) ||
  (stationNumbers.any fun n => s.freshRow (s.peer n) && (s.peer n).entries.any (·.holdsGate r))

/-! ## The checks of a claim (R23) -/

/-- Checks 3 to 8 of Table 2-1, in order: the reason of the first that fails. -/
def State.claimFault (s : State) (f : FixtureNo) (c : FixtureConfig) (r : Robot) : Option Reason :=
  let side := s.sideOf r
  if !inMask c.liveMask s.clock.phase then some .phase
  else if !c.sideTest side then some .side
  else if !c.windowTest r then some .window
  else if (match c.link with | some l => !s.linkMet l side | none => false) then some .link
  else if c.kind == .gate && s.settings.singleHold && s.holdsElsewhere f r then some .elsewhere
  else if c.kind == .dispenser && (s.fixture f).claims.allowance.get side == 0 then some .allowance
  else none

def Claims.holds (c : Claims) (r : Robot) : Bool :=
  match c.holder with
  | some h => h.robot == r
  | none => false

def Claims.queued (c : Claims) (r : Robot) : Bool := c.queue.any fun w => w.robot == r

/-- The outcomes of a REQUEST (Table 2-1). -/
inductive ClaimOutcome where
  | setAside
  | refresh
  | refused (reason : Reason)
  | granted
  | queued
  deriving DecidableEq, Repr

/-- R23: checks 1 to 9 in order; the first that applies decides. -/
def State.judgeClaim (s : State) (f : FixtureNo) (c : FixtureConfig) (r : Robot) : ClaimOutcome :=
  let x := s.fixture f
  if s.heldOff r f then .setAside
  else if x.claims.holds r || x.claims.queued r then .refresh
  else
    match s.claimFault f c r with
    | some reason => .refused reason
    | none =>
      if x.state = .free then .granted
      else if x.claims.queue.length < Config.waitRoom then .queued
      else .refused .full

/-! ## Readers of the sight lists (R49, R84) -/

/-- The sight list of a fixture's beacon port; a fixture without a port reads none. -/
def State.sightsOf (s : State) (c : FixtureConfig) : List Sight :=
  match c.port with
  | some p => s.ports[p].sights
  | none => []

/-- The entries of the sight list whose robots the fixture admits. -/
def State.admittedSights (s : State) (c : FixtureConfig) : List Sight :=
  (s.sightsOf c).filter fun x => c.admits x.robot x.side

/-- R49: for each side, the robots that count, up to the rate cap. A side is present when its rate is not 0. -/
def State.zoneRates (s : State) (c : FixtureConfig) (rateCap : Nat) : PerSide :=
  let rate (n : Side) := min rateCap ((s.admittedSights c).countP fun x => x.side == n)
  ⟨rate 1, rate 2, rate 3, rate 4⟩

/-- R84: which of two entries is the one last seen: the later last-seen time, then the lower robot number. -/
def Sight.later (x y : Sight) : Bool :=
  x.lastSeen > y.lastSeen || (x.lastSeen == y.lastSeen && x.robot.val < y.robot.val)

/-- R59, R84: the LAST_SEEN robot of a goal with its side. -/
def State.lastSeen (s : State) (c : FixtureConfig) : Option Sight :=
  match s.admittedSights c with
  | [] => none
  | x :: rest => some (rest.foldl (fun m y => if y.later m then y else m) x)

/-! ## Credit (R58) -/

/-- R58, R59: the side a piece is credited to; side 0 is uncredited. -/
def State.creditSide (s : State) (c : FixtureConfig) (rule : Option CreditRule) : Side :=
  match rule with
  | none => 0
  | some (.fixed n) => n
  | some .lastSeen =>
    match s.lastSeen c with
    | some x => x.side
    | none => 0
  | some (.zone station f) =>
    if station = s.loader.station then
      let x := s.fixture f
      if x.kind? = some .zone ∧ x.state ≠ .dead then x.control.owner else 0
    else
      let row := s.peer station
      if s.freshRow row then
        match row.entry? f with
        | some e => if h : e.kind = .zone ∧ e.who < 5 then ⟨e.who, h.2⟩ else 0
        | none => 0
      else 0

end Sys2Proof.Machine
end

