-- ==== Sys2Proof/Machine/Settle.lean ====
section
/-! DEFINITION. Machine/Settle.lean: what one occurrence sets off inside the part: grants, releases and promotions
(R27, R34–R36), the runners' lists and reports (R140–R152), and the unit arbiter (R147). These call one another: a
release starts a list, a list may fail and release another hold, a promotion starts the next list. The manual takes them
depth first, each finished before the one that set it off goes on, so they are written as tasks on a stack: `perform`
does one task and answers the tasks it sets off, `settle` runs the stack until it is empty. `budget` bounds the number of
tasks: every task either uses up a waiting robot, a hold, a queued start or a step of a list, or is the last of a chain
(Laws/Settle.lean). -/

namespace Sys2Proof.Machine

/-- The tasks. -/
inductive Task where
  /-- A runner arrives at the step its current list is at (R142). -/
  | arrive (r : RunnerId)
  /-- A runner moves on from its step (R143). -/
  | moveOn (r : RunnerId)
  /-- A unit has been released; the arbiter looks at the runners waiting for it (R147). -/
  | unitFreed (u : UnitNo)
  /-- Steps 2 to 5 of an abort at a step error found at an index (R149). -/
  | abortTail (r : RunnerId) (index : StepNo)
  /-- A list has ended; the runner takes up its oldest start or becomes IDLE (R146, R149). -/
  | nextList (r : RunnerId)
  /-- A fixture hands a start to its runner (R141). -/
  | start (r : RunnerId) (start : Start)
  /-- The fixture engine takes a report about a grant list (R40–R42). -/
  | report (f : FixtureNo) (report : Report)
  /-- A hold is released, any cause but PHASE (R34). -/
  | release (f : FixtureNo) (cause : ReleaseCause)
  /-- Steps 4 to 7 of a release, once its on-release list has been handed over (R34). -/
  | releaseTail (f : FixtureNo) (robot : Robot) (side : Side) (cause : ReleaseCause)
  /-- Promotion (R35). -/
  | promote (f : FixtureNo)
  /-- A grant (R27). -/
  | grant (f : FixtureNo) (robot : Robot) (side : Side) (lastSeen age : Nat)
  /-- A PHASE release (R36). -/
  | phaseRelease (f : FixtureNo)
  /-- The rest of a PHASE release, once its on-release list has been handed over (R36). -/
  | phaseTail (f : FixtureNo) (robot : Robot) (side : Side)
  deriving DecidableEq, Repr

/-! ## Starts (R141, R152) -/

/-- The start of one of a fixture's lists, if it has that list (R139). -/
def FixtureConfig.startTask (c : FixtureConfig) (f : FixtureNo) (list : Option StepNo) (p : Purpose) : List Task :=
  match list with
  | some i => [.start c.runner ⟨i, f, p⟩]
  | none => []

/-- A report goes to the fixture for starts of purpose grant alone (Table 8-3). -/
def Start.reportTask (t : Start) (r : Report) : List Task :=
  match t.purpose with
  | .grant => [.report t.fixture r]
  | .release | .change => []

/-- R141. -/
def performStart (s : State) (r : RunnerId) (t : Start) : State × List Task :=
  let x := s.runner r
  if s.clock.phase = .halted then (s, t.reportTask .dropped)
  else
    match x.mode with
    | .idle =>
      (s.setRunner r { x with mode := .draining, current := some ⟨t, t.list⟩ }, t.reportTask .accepted ++ [.arrive r])
    | .delay _ | .holding _ | .waitingUnit _ | .draining =>
      if x.queue.length < Config.startRoom then
        (s.setRunner r { x with queue := x.queue ++ [t] }, t.reportTask .accepted)
      else
        (s.createEvent (.fault .actionOverflow) (some t.fixture) 0 0 0, t.reportTask .dropped)

/-! ## Playing a list (R142–R149) -/

/-- R148: a step names a unit that is not bound ACTUATOR, or the half of a pair that is not addressable. -/
def Pulse.stepError (p : Pulse) (t : Step) : Bool :=
  match t.unit with
  | none => false
  | some u => p.units[u].binding != .actuator || !p.addressable u

/-- R144: the time of a delay step. -/
def Step.delayTime (t : Step) : Nat := t.count * ((t.high + 1) + (t.low + 1)) * t.clock.time

/-- R142, R143: a runner issues its step on a unit it has been given. -/
def issue (s : State) (r : RunnerId) (u : UnitNo) (t : Step) : State × List Task :=
  let s1 := { s with pulse := s.pulse.drive u r t }
  if t.goOn then (s1.setRunner r { s1.runner r with mode := .draining }, [.moveOn r])
  else (s1.setRunner r { s1.runner r with mode := .holding u }, [])

/-- R149 step 1: the patterns of the list in error stop, and each unit is released to the arbiter. The runner waits for
no unit while it aborts. -/
def abortAt (s : State) (r : RunnerId) (index : StepNo) : State × List Task :=
  let s1 := { s with pulse := s.pulse.stop r }
  (s1.setRunner r { s1.runner r with mode := .draining },
    (s.pulse.drivenBy r).map .unitFreed ++ [.abortTail r index])

/-- R142. -/
def performArrive (s : State) (r : RunnerId) : State × List Task :=
  let x := s.runner r
  match x.current with
  | none => (s, [])
  | some c =>
    let t := s.runners.store[c.index]
    if s.pulse.stepError t then abortAt s r c.index
    else
      match t.unit with
      | none => (s.setRunner r { x with mode := .delay t.delayTime }, [])
      | some u =>
        match s.pulse.units[u].driver with
        | none => issue s r u t
        | some _ => (s.setRunner r { x with mode := .waitingUnit u }, [])

/-- R146 step 1: the list is reported completed, and the runner goes on to its next start. -/
def completeTasks (r : RunnerId) (c : Current) : List Task := c.start.reportTask .completed ++ [.nextList r]

/-- R143, R146: a runner moves on from its step. -/
def performMoveOn (s : State) (r : RunnerId) : State × List Task :=
  let x := s.runner r
  match x.current with
  | none => (s, [])
  | some c =>
    if (s.runners.store[c.index]).last then
      let s1 := s.setRunner r { x with mode := .draining }
      if (s.pulse.drivenBy r).isEmpty then (s1, completeTasks r c) else (s1, [])
    else if h : c.index.val + 1 < 64 then
      (s.setRunner r { x with current := some { c with index := ⟨c.index.val + 1, h⟩ }, mode := .draining }, [.arrive r])
    else abortAt s r c.index

/-- Whether a runner waits for a unit. -/
def Runner.waitsFor (x : Runner) (u : UnitNo) : Bool := x.mode == .waitingUnit u

/-- R147: the runner a released unit goes to. -/
def State.nextDriver (s : State) (u : UnitNo) : Option RunnerId :=
  match s.runners.a.waitsFor u, s.runners.b.waitsFor u with
  | true, false => some .A
  | false, true => some .B
  | true, true => if s.pulse.units[u].lastDriver = some .A then some .B else some .A
  | false, false => none

/-- R147: a released unit, whose driver is none, goes to a runner waiting for it. A unit that has meanwhile been taken is
no longer free, and nothing is given away. -/
def performUnitFreed (s : State) (u : UnitNo) : State × List Task :=
  match s.pulse.units[u].driver with
  | some _ => (s, [])
  | none =>
    match s.nextDriver u with
    | none => (s, [])
    | some r =>
      match (s.runner r).current with
      | none => (s, [])
      | some c => issue s r u (s.runners.store[c.index])

/-- RUNNER_FAULT is set; if it was clear, a CHANGE request is raised (R149). -/
def State.setRunnerFault (s : State) : State :=
  let s1 := { s with runners := { s.runners with fault := true } }
  if s.runners.fault then s1 else s1.raiseChange

/-- R149 steps 2 to 5. -/
def performAbortTail (s : State) (r : RunnerId) (index : StepNo) : State × List Task :=
  match (s.runner r).current with
  | none => (s, [.nextList r])
  | some c =>
    ((s.createEvent (.fault .actionError) (some c.start.fixture) 0 0 index.val).setRunnerFault,
      c.start.reportTask .aborted ++ [.nextList r])

/-- R146 step 2, R149 step 5. -/
def performNextList (s : State) (r : RunnerId) : State × List Task :=
  let x := s.runner r
  match x.queue with
  | [] => (s.setRunner r { x with mode := .idle, current := none }, [])
  | t :: rest => (s.setRunner r ⟨.draining, some ⟨t, t.list⟩, rest⟩, [.arrive r])

/-! ## Holds (R27, R34–R36, R40–R42) -/

/-- The value of a GRANT or RELEASE event: a DISPENSER's allowance of the side as it then stands, 0 for a GATE
(Table 6-6). -/
def Fixture.eventValue (x : Fixture) (side : Side) : Nat :=
  if x.kind? = some .dispenser then x.claims.allowance.get side else 0

/-- One more of a side's allowance, saturating at ACAP (R37). -/
def addAllowance (a : PerSide) (side : Side) (acap : Nat) : PerSide := a.set side (min acap (a.get side + 1))

/-- The allowances after a refund: an ABORTED release of a DISPENSER gives 1 back to the side (R42). -/
def refunded (params : KindParams) (a : PerSide) (side : Side) (cause : ReleaseCause) : PerSide :=
  match params, cause with
  | .dispenser _ acap _ _, .aborted => addAllowance a side acap
  | _, _ => a

/-- R34 steps 1 to 3: the holder is removed, an ABORTED dispense is refunded, the on-release list is handed over. From
here to the end of promotion the fixture is seen with no holder, as FREE (R10). -/
def performRelease (s : State) (f : FixtureNo) (cause : ReleaseCause) : State × List Task :=
  let x := s.fixture f
  match x.config, x.claims.holder with
  | some c, some h =>
    (s.setFixture f { x with
        state := .free
        claims := { x.claims with
          holder := none
          allowance := refunded c.params x.claims.allowance h.side cause } },
      c.startTask f c.secondList .release ++ [.releaseTail f h.robot h.side cause])
  | _, _ => (s, [])

/-- R34 steps 4 to 7. -/
def performReleaseTail (s : State) (f : FixtureNo) (robot : Robot) (side : Side) (cause : ReleaseCause) :
    State × List Task :=
  let s1 := (s.createEvent (.release cause) (some f) robot side ((s.fixture f).eventValue side)).raiseChange
  (if cause.makesEntry then s1.makeHoldOff robot f else s1, [.promote f])

/-- R35: one round of promotion. -/
def performPromote (s : State) (f : FixtureNo) : State × List Task :=
  let x := s.fixture f
  match x.config with
  | none => (s, [])
  | some c =>
    match x.claims.queue with
    | [] => ((s.setFixtureState f .free).refreshIndicator f, [])
    | w :: rest =>
      let s1 := s.setClaims f { x.claims with queue := rest }
      match s1.claimFault f c w.robot with
      | some _ => (s1.makeHoldOff w.robot f, [.promote f])
      | none => (s1, [.grant f w.robot w.side w.lastSeen w.age])

/-- R27. -/
def performGrant (s : State) (f : FixtureNo) (robot : Robot) (side : Side) (lastSeen age : Nat) : State × List Task :=
  let x := s.fixture f
  match x.config with
  | none => (s, [])
  | some c =>
    let y : Fixture := { x with
      state := .held
      claims := { x.claims with
        holder := some ⟨robot, side, s.clock.tick, lastSeen, age, 0⟩
        allowance := if c.kind = .dispenser then x.claims.allowance.set side (x.claims.allowance.get side - 1)
          else x.claims.allowance } }
    let s1 := s.setFixture f y
    let s2 := (s1.createEvent .grant (some f) robot side (y.eventValue side)).raiseChange
    (s2.refreshIndicator f, c.startTask f c.firstList .grant)

/-- R36: the holder is removed, the on-release list is handed over, and the fixture is DORMANT. -/
def performPhaseRelease (s : State) (f : FixtureNo) : State × List Task :=
  let x := s.fixture f
  match x.config, x.claims.holder with
  | some c, some h =>
    (s.setFixture f { x with state := .dormant, claims := { x.claims with holder := none } },
      c.startTask f c.secondList .release ++ [.phaseTail f h.robot h.side])
  | _, _ => (s, [])

/-- R36: the RELEASE event, the flush of the queue, the CHANGE request and the indicator. -/
def performPhaseTail (s : State) (f : FixtureNo) (robot : Robot) (side : Side) : State × List Task :=
  let s1 := s.createEvent (.release .phase) (some f) robot side ((s.fixture f).eventValue side)
  let s2 := (s1.setClaims f { (s1.fixture f).claims with queue := [] }).raiseChange
  (s2.refreshIndicator f, [])

/-- R40: one dispense in flight ends. Only when the count was above 0, is now 0 and the fixture is HELD is the report
about the holder's list. -/
def endDispense (s : State) (f : FixtureNo) (cause : ReleaseCause) : State × List Task :=
  let x := s.fixture f
  let n := x.claims.inFlight
  let s1 := s.setClaims f { x.claims with inFlight := n - 1 }
  if n = 1 ∧ x.state = .held then (s1, [.release f cause]) else (s1, [])

/-- R40–R42: a runner's report to a DISPENSER. A GATE's grant list ends without effect on the hold (R27, R152). -/
def performReport (s : State) (f : FixtureNo) (r : Report) : State × List Task :=
  let x := s.fixture f
  if x.kind? ≠ some .dispenser then (s, [])
  else
    match r with
    | .accepted => (s.setClaims f { x.claims with inFlight := x.claims.inFlight + 1 }, [])
    | .dropped => (s, if x.state = .held then [.release f .aborted] else [])
    | .completed => endDispense s f .done
    | .aborted | .abortedByHalt | .flushed => endDispense s f .aborted

/-! ## The stack -/

/-- One task. -/
def perform (s : State) (t : Task) : State × List Task :=
  match t with
  | .arrive r => performArrive s r
  | .moveOn r => performMoveOn s r
  | .unitFreed u => performUnitFreed s u
  | .abortTail r i => performAbortTail s r i
  | .nextList r => performNextList s r
  | .start r t => performStart s r t
  | .report f r => performReport s f r
  | .release f c => performRelease s f c
  | .releaseTail f robot side c => performReleaseTail s f robot side c
  | .promote f => performPromote s f
  | .grant f robot side seen age => performGrant s f robot side seen age
  | .phaseRelease f => performPhaseRelease s f
  | .phaseTail f robot side => performPhaseTail s f robot side

/-- Run a stack of tasks, the first on top, for at most `n` tasks. -/
def runTasks (n : Nat) (s : State) (ts : List Task) : State :=
  match n, ts with
  | 0, _ => s
  | _, [] => s
  | n + 1, t :: rest => runTasks n (perform s t).1 ((perform s t).2 ++ rest)

/-! ## The bound on the number of tasks -/

/-- The most tasks a task can come to, beyond what the state itself still holds. -/
def Task.weight (t : Task) : Nat :=
  match t with
  | .nextList _ => 1
  | .release _ _ => 1
  | .promote _ => 1
  | .unitFreed _ => 1
  | .phaseRelease _ => 1
  | .phaseTail _ _ _ => 1
  | .releaseTail _ _ _ _ => 2
  | .report _ _ => 2
  | .abortTail _ _ => 4
  | .moveOn _ => 8
  | .arrive _ => 16
  | .start _ _ => 1100
  | .grant _ _ _ _ _ => 2300

def Runner.credit (x : Runner) : Nat :=
  (match x.mode with
    | .waitingUnit _ => 12
    | .idle | .delay _ | .holding _ | .draining => 0) +
  (match x.current with
    | some c => 16 * (64 - c.index.val)
    | none => 0) + 1050 * x.queue.length

def Fixture.credit (x : Fixture) : Nat :=
  (if x.claims.holder.isSome then 1150 else 0) + 2300 * x.claims.queue.length

def State.credit (s : State) : Nat :=
  s.runners.a.credit + s.runners.b.credit
    + (fixtureNumbers.map fun f => (s.fixture f).credit).sum
    + (unitNumbers.map fun u => if s.pulse.units[u].driver.isSome then 1 else 0).sum

/-- A bound on the tasks that a stack comes to. -/
def budget (s : State) (ts : List Task) : Nat := s.credit + (ts.map Task.weight).sum

/-- A stack of tasks, run until it is empty. -/
def settle (s : State) (ts : List Task) : State := runTasks (budget s ts) s ts

end Sys2Proof.Machine
end

