-- ==== Sys2Proof/Machine/Match.lean ====
section
/-! DEFINITION. Machine/Match.lean: the match clock (chapter 5): phase-change and CLEAR notices with the reactions of
their readers (R5–R7, R22, R36, R63, R65, R95, R96, R124, R150, R151, R162, R163), match commands from every source
(R91–R103), late join (R104), counted ticks with the fixtures' ticks (R30, R39, R48–R55), and the meanings of
COUNTED_TICK, PERIOD_END, START, HALT, RESUME and CLEAR. -/

namespace Sys2Proof.Machine

/-! ## The fixtures' part of a phase-change notice -/

/-- R5, Table 1-4, for a phase other than HALTED. -/
def claimNotice (s : State) (f : FixtureNo) (c : FixtureConfig) (new : Phase) : State :=
  match (s.fixture f).state, inMask c.liveMask new with
  | .dormant, true => (s.setFixtureState f .free).raiseChange
  | .free, false => (s.setFixtureState f .dormant).raiseChange
  | .held, false => settle s [.phaseRelease f]
  | _, _ => s

/-- R6, for a phase other than HALTED. -/
def zoneNotice (s : State) (f : FixtureNo) (c : FixtureConfig) (new : Phase) : State :=
  let x := s.fixture f
  match x.state, inMask c.liveMask new with
  | .dormant, true => (s.setFixture f { x with state := .live, control := { x.control with contested := false } }).raiseChange
  | .live, false =>
    (s.setFixture f { x with state := .dormant, control := { x.control with contested := false } }).raiseChange
  | _, _ => s

/-- R7, R63, R65, R68, for a phase other than HALTED: a goal in GRACE or JAMMED keeps its state; a COUNTING goal whose
phase has ended goes to GRACE with that phase as its credited phase, or to DORMANT when its grace is 0. -/
def goalNotice (s : State) (f : FixtureNo) (c : FixtureConfig) (grace : Nat) (old new : Phase) : State :=
  let x := s.fixture f
  match x.state, inMask c.liveMask new with
  | .dormant, true => (s.setFixtureState f .counting).raiseChange
  | .counting, false =>
    if grace = 0 then (s.setFixtureState f .dormant).raiseChange
    else (s.setFixture f { x with
      state := .grace
      scoring := { x.scoring with graceLeft := grace * Config.tenth, credited := some old } }).raiseChange
  | _, _ => s

/-- One fixture takes a phase-change notice, and its indicator state is determined afresh (R2, R18). -/
def fixtureNotice (old new : Phase) (s : State) (f : FixtureNo) : State :=
  let x := s.fixture f
  let s1 :=
    match x.config with
    | none => s
    | some c =>
      if new = Phase.halted ∨ x.state = FixtureState.dead then s
      else
        match c.params with
        | .gate _ _ | .dispenser _ _ _ _ => claimNotice s f c new
        | .zone _ _ => zoneNotice s f c new
        | .goal _ _ grace _ => goalNotice s f c grace old new
  s1.refreshIndicator f

/-! ## The runners' part (R150, R151) -/

/-- One runner stops its patterns, empties its queue and becomes IDLE; its current grant list is reported aborted by
halt and each flushed grant start flushed, oldest first. A unit so freed goes to nobody, also where the other runner,
not yet stopped, waits for it: R147 would give it to that one, R150 says that no runner is left waiting, and the model
takes R150's word (DESIGN CHOICE, log entry 29). -/
def haltRunner (s : State) (r : RunnerId) : State :=
  let x := s.runner r
  let reports := (match x.current with
    | some c => c.start.reportTask .abortedByHalt
    | none => []) ++ x.queue.flatMap fun t => t.reportTask .flushed
  settle (State.setRunner { s with pulse := s.pulse.stop r } r Runner.start) reports

/-- R150, R151: each runner in turn. The manual names no order; the model takes A before B (DESIGN CHOICE, log
entry 29), which orders the RELEASE events of the dispensers whose lists the two were playing. -/
def haltRunners (s : State) : State := haltRunner (haltRunner s .A) .B

/-! ## Notices -/

/-- R96: a phase-change notice, the phase already changed: fixture engine, action runners, pulse units, field picture,
in the order of Table 5-5. -/
def announce (s : State) (old : Phase) : State :=
  let new := s.clock.phase
  let s1 := fixtureNumbers.foldl (fixtureNotice old new) s
  let s2 := if new = Phase.halted then haltRunners s1 else s1
  let s3 := { s2 with pulse := if new = Phase.halted then s2.pulse.enterSafe else s2.pulse.leaveSafe }
  s3.raiseChange

/-- The phase changes, and the change is announced. -/
def changePhase (s : State) (new : Phase) : State :=
  announce { s with clock := { s.clock with phase := new } } s.clock.phase

/-! ## Applying a match command (R92–R95) -/

/-- A DISPENSER's allowances return to A0 and its refill count to 0 (R38, R22). -/
def Fixture.resetAllowance (x : Fixture) : Fixture :=
  match x.config with
  | some c =>
    match c.params with
    | .dispenser _ _ initial _ =>
      if x.state = .dead then x
      else { x with claims := { x.claims with allowance := PerSide.all initial, refillCount := 0 } }
    | .gate _ _ | .zone _ _ | .goal _ _ _ _ => x
  | none => x

/-- R92: the first running phase whose length is above 0. -/
def Clock.firstPhase (c : Clock) : Phase :=
  match runningPhases.find? fun p => c.periods.get p > 0 with
  | some p => p
  | none => .drive

/-- R92, R38. -/
def applyStart (s : State) : State :=
  let s1 := { s with
    clock := { s.clock with tick := 0, tenth := 0, boundaryDue := false, ticking := [] }
    engine := { s.engine with fixtures := Vector.ofFn fun i => s.engine.fixtures[i].resetAllowance } }
  changePhase s1 s.clock.firstPhase

/-- R93. -/
def applyHalt (s : State) : State :=
  changePhase { s with clock := { s.clock with resume := s.clock.phase } } .halted

/-- R94. -/
def applyResume (s : State) : State := changePhase s s.clock.resume

/-- R22, R46, R71: a fixture's match state at CLEAR. -/
def Fixture.cleared (x : Fixture) : Fixture :=
  if x.state = .dead then x
  else
    { x with
      state := .dormant
      claims := { Claims.start with allowance := x.resetAllowance.claims.allowance }
      control := Control.start
      scoring := Scoring.start
      transient := none
      transientLeft := 0 }

/-- R95: CLEAR, with its notice taken by the fixture engine, the runners, the pulse units and the field picture. -/
def applyClear (s : State) : State :=
  let s1 := { s with
    clock := { s.clock with phase := .idle, resume := .idle, tick := 0, tenth := 0, boundaryDue := false, ticking := [] }
    engine := { s.engine with
      fixtures := Vector.ofFn fun i => s.engine.fixtures[i].cleared
      holdOff := []
      points := PerSide.all 0 } }
  let s2 := haltRunners (fixtureNumbers.foldl State.refreshIndicator s1)
  let s3 := { s2 with
    runners := { s2.runners with fault := false }
    pulse := s2.pulse.leaveSafe
    picture := { s2.picture with eventsLost := false } }
  s3.raiseChange

/-- R97, R101, R103: the match clock is given a command, received or delivered back after an own send. Only a configured
station runs its match clock (R106). While a level HALT input is active every RESUME is answered by a HALT frame. A START
given in IDLE under an active level HALT input, as a CLEAR leaves the station until the next sample, is applied: Table 5-3
accepts it there, R102 says that the station cannot be started, and the model takes the table's word (DESIGN CHOICE, log
entry 32). -/
def takeCommand (s : State) (c : Command) : State :=
  if !s.ready then s
  else if c = .resume ∧ s.haltInput then s.queueCommand .halt
  else if !c.accepted s.clock.phase then s
  else
    match c with
    | .start => applyStart s
    | .halt => applyHalt s
    | .resume => applyResume s
    | .clear => applyClear s

/-- R98: a HALT activation of an own input is applied at once and then told to the field; while HALTED only an EDGE
input tells the field again. -/
def localHalt (s : State) (mode : InputMode) : State :=
  if s.clock.phase = .halted then
    match mode with
    | .edge => s.queueCommand .halt
    | .level => s
  else (applyHalt s).queueCommand .halt

/-- R99, R103: a START, RESUME or CLEAR activation queues a frame of the command, unless one already waits. -/
def localCommand (s : State) (c : Command) (mode : InputMode) : State :=
  match c with
  | .halt => localHalt s mode
  | .resume =>
    if s.haltInput then s.queueCommand .halt
    else if s.commandQueued .resume then s else s.queueCommand .resume
  | .start => if s.commandQueued .start then s else s.queueCommand .start
  | .clear => if s.commandQueued .clear then s else s.queueCommand .clear

/-! ## Late join (R104) -/

/-- R104: whether a station adopts what a peer's row shows. -/
def State.adopts (s : State) (row : PeerRow) : Bool :=
  s.ready && s.clock.phase == .idle && !s.commandQueued .start &&
    (row.phase.running || (row.phase == .halted && row.resume != .halted))

/-- R104: the phase, resume phase and tick of a row just replaced are offered to the match clock. -/
def lateJoin (s : State) (row : PeerRow) : State :=
  if s.adopts row then
    let clock :=
      if row.phase.running then { s.clock with tick := row.tick, tenth := 0, boundaryDue := false, ticking := [] }
      else { s.clock with
        resume := row.resume
        tick := if row.resume = .idle then 0 else row.tick
        tenth := 0
        boundaryDue := false
        ticking := [] }
    changePhase { s with clock := clock } row.phase
  else s

/-! ## The zone tick (R49–R55) -/

/-- The sides present, by their rates (R49). -/
def presentSides (rates : PerSide) : List Side := sides.filter fun n => rates.get n != 0

/-- Nobody present (R51, R52). -/
def Control.empty (z : Control) : Control :=
  if z.owner = 0 then
    { z with level := z.level - 1, challenger := if z.level - 1 = 0 then 0 else z.challenger, contested := false }
  else { z with contested := false }

/-- One side present alone (R51, R52). -/
def Control.alone (z : Control) (cmax : Nat) (side : Side) (rate : Nat) : Control :=
  let up := min cmax (z.level + rate)
  let down := z.level - rate
  if z.owner = 0 then
    if z.challenger = 0 ∨ z.challenger = side then
      if up = cmax then ⟨side, up, 0, false⟩ else ⟨0, up, side, false⟩
    else if down = 0 then ⟨0, 0, side, false⟩ else { z with level := down, contested := false }
  else if z.owner = side then { z with level := up, contested := false }
  else if down = 0 then ⟨0, 0, side, false⟩ else { z with level := down, contested := false }

/-- R49–R53, Table 3-1: one zone tick. -/
def Control.tick (z : Control) (cmax : Nat) (rates : PerSide) : Control :=
  match presentSides rates with
  | [] => z.empty
  | [side] => z.alone cmax side (rates.get side)
  | _ => { z with contested := true }

/-- R54, R55: what a zone tick hands on. -/
def zoneTick (s : State) (f : FixtureNo) (c : FixtureConfig) (cmax rateCap : Nat) : State :=
  let x := s.fixture f
  let old := x.control
  let new := old.tick cmax (s.zoneRates c rateCap)
  let s1 := s.setFixture f { x with control := new }
  let s2 := if new.owner = old.owner then s1 else s1.createEvent .owner (some f) 0 new.owner old.owner.val
  let s3 := if new.owner = old.owner ∧ new.level = old.level then s2 else s2.raiseChange
  let s4 := s3.refreshIndicator f
  if new.owner = old.owner then s4 else settle s4 (c.startTask f c.firstList .change)

/-! ## Counted ticks (R90) -/

/-- R30: held tenths rise while a GATE is HELD. -/
def gateTick (s : State) (f : FixtureNo) : State :=
  let x := s.fixture f
  if x.state = .held then
    s.setClaims f { x.claims with holder := x.claims.holder.map fun h => { h with held := h.held + 1 } }
  else s

/-- R39: the refill count rises while the phase is in the live mask; with a refill period of 0 it stays at 0. -/
def dispenserTick (s : State) (f : FixtureNo) (c : FixtureConfig) (period : Nat) : State :=
  let x := s.fixture f
  if inMask c.liveMask s.clock.phase then
    s.setClaims f { x.claims with refillCount := min period (x.claims.refillCount + 1) }
  else s

/-- One fixture takes a counted match tick (R2, R30, R39, R48). A DEAD fixture does not tick (R4). -/
def fixtureTick (s : State) (f : FixtureNo) : State :=
  let x := s.fixture f
  match x.config with
  | none => s
  | some c =>
    if x.state = FixtureState.dead then s
    else
      match c.params with
      | .gate _ _ => gateTick s f
      | .dispenser _ _ _ period => dispenserTick s f c period
      | .zone cmax rateCap => if x.state = .live then zoneTick s f c cmax rateCap else s
      | .goal _ _ _ _ => s

/-- R90: the time still missing to the next counted tick, in a running phase of a configured station. -/
def tickWait (s : State) : Option Nat :=
  if s.ready && s.clock.phase.running then some (Config.tenth - s.clock.tenth) else none

/-- R30: a GATE holder's held tenths have reached a hold limit that is not 0; not while HALTED (R44). -/
def overstayed (f : FixtureNo) (s : State) : Bool :=
  let x := s.fixture f
  match x.config, x.claims.holder with
  | some c, some h =>
    match c.params with
    | .gate limit _ => x.state == .held && s.clock.phase != .halted && limit != 0 && limit ≤ h.held
    | .dispenser _ _ _ _ | .zone _ _ | .goal _ _ _ _ => false
  | _, _ => false

/-- R39: a DISPENSER's refill count has reached a refill period that is not 0. -/
def refillDue (f : FixtureNo) (s : State) : Bool :=
  let x := s.fixture f
  match x.config with
  | some c =>
    match c.params with
    | .dispenser _ _ _ period => x.state != .dead && period != 0 && period ≤ x.claims.refillCount
    | .gate _ _ | .zone _ _ | .goal _ _ _ _ => false
  | none => false

/-- R2: these fixtures take the counted tick in order, each finished before the next. Where the tick calls for a
fixture's OVERSTAY or REFILL, the fixtures after it wait for that command (log entry 11). -/
def tickOn (fs : List FixtureNo) (s : State) : State :=
  match fs with
  | [] => { s with clock := { s.clock with ticking := [] } }
  | f :: rest =>
    let s1 := fixtureTick s f
    if overstayed f s1 || refillDue f s1 then { s1 with clock := { s1.clock with ticking := rest } } else tickOn rest s1

/-- The tick goes on with the fixtures that have still to take it; outside the running phases they wait (R44, R48). -/
def resumeTick (s : State) : State := if s.clock.phase.running then tickOn s.clock.ticking s else s

/-- A tick that still waits for an OVERSTAY or REFILL is ended before the clock goes on (log entry 11). -/
def finishTick (s : State) : State :=
  let s1 := s.clock.ticking.foldl fixtureTick s
  { s1 with clock := { s1.clock with ticking := [] } }

/-- R90: the match tick rises by one. -/
def Clock.count (c : Clock) : Clock :=
  { c with tick := min Config.countMax (c.tick + 1), tenth := 0, boundaryDue := true }

/-- R90, R2: a counted tick under the phase as it stands. Its comparison with the end boundary is PERIOD_END's. -/
def countTick (s : State) : State :=
  let s1 := finishTick s
  tickOn fixtureNumbers { s1 with clock := s1.clock.count }

/-- COUNTED_TICK (R90). -/
def execCountedTick (s : State) : Host.Outcome State Fault Refusal := onExpiry tickWait countTick s

/-- The running phases after a phase, in order (R90). -/
def phasesAfter (p : Phase) : List Phase := runningPhases.filter fun q => p.code < q.code

/-- R90: the first running phase after the current one whose end boundary lies above the tick, else OVER. -/
def Clock.nextPhase (c : Clock) : Phase :=
  match (phasesAfter c.phase).find? fun p => c.tick < c.ends.get p with
  | some p => p
  | none => .over

/-- R90: a counted tick has reached or passed the end boundary of the current phase. -/
def periodOver (s : State) : Bool :=
  s.ready && s.clock.phase.running && s.clock.boundaryDue && s.clock.ends.get s.clock.phase ≤ s.clock.tick

/-- R90, R96. -/
def endPeriod (s : State) : State :=
  let s1 := finishTick s
  changePhase { s1 with clock := { s1.clock with boundaryDue := false } } s1.clock.nextPhase

/-- PERIOD_END (R90). -/
def execPeriodEnd (s : State) : Host.Outcome State Fault Refusal := .next (if periodOver s then endPeriod s else s)

/-- START (R92). -/
def execStart (dt : Nat) (s : State) : Host.Outcome State Fault Refusal := afterTime dt (fun s => takeCommand s .start) s

/-- HALT (R93). -/
def execHalt (dt : Nat) (s : State) : Host.Outcome State Fault Refusal := afterTime dt (fun s => takeCommand s .halt) s

/-- RESUME (R94, R103). -/
def execResume (dt : Nat) (s : State) : Host.Outcome State Fault Refusal :=
  afterTime dt (fun s => takeCommand s .resume) s

/-- CLEAR (R95). -/
def execClear (dt : Nat) (s : State) : Host.Outcome State Fault Refusal := afterTime dt (fun s => takeCommand s .clear) s

end Sys2Proof.Machine
end

