-- ==== Sys2Proof/Machine/Beacons.lean ====
section
/-! DEFINITION. Machine/Beacons.lean: the beacon decoders (R72–R76), sightings (R77–R79), the sight lists (R80–R83), what
a sighting does at the port's claimable fixture (R23, R24, R28, R33), and the meanings of SIGHTING, SIGHT_EXPIRY,
BEACON_LEVEL_CHANGE and BEACON_WINDOW_OVERRUN. -/

namespace Sys2Proof.Machine

/-! ## Sight lists -/

/-- Which of two entries a full list loses first: the older last-seen time, then the lower robot number (R82). -/
def Sight.before (x y : Sight) : Bool :=
  x.lastSeen < y.lastSeen || (x.lastSeen == y.lastSeen && x.robot.val < y.robot.val)

/-- A list with one entry fewer: the one R82 removes. -/
def evictSight (l : List Sight) : List Sight :=
  match l with
  | [] => []
  | x :: rest => (x :: rest).erase (rest.foldl (fun m y => if y.before m then y else m) x)

/-- R81, R82: a sighting updates its robot's entry, or adds one and makes room first when the list is full. -/
def addSight (l : List Sight) (e : Sight) : List Sight :=
  if l.any (·.robot == e.robot) then l.map fun x => if x.robot == e.robot then e else x
  else if l.length < Config.sightRoom then l ++ [e]
  else evictSight l ++ [e]

/-! ## A sighting at the fixture engine -/

/-- R24: a sighting refreshes its robot as holder or queued robot. -/
def Claims.refresh (c : Claims) (r : Robot) (seen : Nat) : Claims :=
  { c with
    holder := c.holder.map fun h => if h.robot = r then { h with lastSeen := seen, age := 0 } else h
    queue := c.queue.map fun w => if w.robot = r then { w with lastSeen := seen, age := 0 } else w }

/-- R13: a refusal makes a hold-off entry and starts the REFUSED transient. -/
def refuse (s : State) (f : FixtureNo) (r : Robot) : State := (s.makeHoldOff r f).startTransient f .refused

/-- R28: a robot joins the tail of the wait queue. -/
def joinQueue (s : State) (f : FixtureNo) (r : Robot) : State :=
  let c := (s.fixture f).claims
  s.setClaims f { c with queue := c.queue ++ [⟨r, s.sideOf r, s.nowMs, 0⟩] }

/-- R23: a REQUEST by the checks of Table 2-1. -/
def takeRequest (s : State) (f : FixtureNo) (c : FixtureConfig) (r : Robot) : State :=
  match s.judgeClaim f c r with
  | .setAside | .refresh => s
  | .refused _ => refuse s f r
  | .granted => settle s [.grant f r (s.sideOf r) s.nowMs 0]
  | .queued => joinQueue s f r

/-- A queued robot leaves the queue with a hold-off entry and no event (R32, R33). -/
def dropQueued (s : State) (f : FixtureNo) (r : Robot) : State :=
  let c := (s.fixture f).claims
  (s.setClaims f { c with queue := c.queue.filter fun w => w.robot != r }).makeHoldOff r f

/-- R33: a RELEASE sighting. -/
def takeRelease (s : State) (f : FixtureNo) (c : FixtureConfig) (r : Robot) : State :=
  let x := s.fixture f
  if x.claims.holds r then
    match c.kind with
    | .gate => settle s [.release f .released]
    | .dispenser | .zone | .goal => s
  else if x.claims.queued r then dropQueued s f r
  else s

/-- R3: the port's claimable fixture, the lowest-numbered GATE or DISPENSER that names it. -/
def State.claimable (s : State) (p : PortNo) : Option FixtureNo :=
  fixtureNumbers.find? fun f =>
    match (s.fixture f).config with
    | some c => c.kind.claimable && c.port == some p
    | none => false

/-- R78 steps 1 and 2: the port's claimable fixture, if it has one that is not DEAD, refreshes the robot and acts on the
intent. -/
def sightingAtFixture (s : State) (p : PortNo) (r : Robot) (i : Intent) : State :=
  match s.claimable p with
  | none => s
  | some f =>
    match (s.fixture f).config with
    | none => s
    | some c =>
      if (s.fixture f).state = .dead then s
      else
        let s1 := s.setClaims f ((s.fixture f).claims.refresh r s.nowMs)
        match i with
        | .present => s1
        | .request => takeRequest s1 f c r
        | .release => takeRelease s1 f c r

/-- R78: a sighting updates the port's sight list, and is then handed to the fixture engine. -/
def takeSighting (s : State) (p : PortNo) (r : Robot) (i : Intent) : State :=
  let port := s.ports[p]
  let s1 := s.setPort p { port with sights := addSight port.sights ⟨r, s.sideOf r, s.nowMs⟩ }
  sightingAtFixture s1 p r i

/-- R76: the decoder judges the twelve bits it holds; a word that passes becomes a sighting. -/
def judgeWord (s : State) (p : PortNo) : State :=
  match readWord s.ports[p].bits with
  | some (r, i) => takeSighting s p r i
  | none => s

/-- A whole beacon word completes on a port: its trailing mark ends, the decoder returns to HUNT holding the word's
bits, and the word is judged. -/
def completeWord (p : PortNo) (robot : Robot) (intent : BitVec 2) (s : State) : State :=
  if s.ready then
    let port := s.ports[p]
    judgeWord (s.setPort p { port with
      active := false, decoder := .hunt, elapsed := 0, bits := beaconWord robot intent }) p
  else s

/-- SIGHTING (R78). -/
def execSighting (dt : Nat) (port : PortNo) (robot : Robot) (intent : BitVec 2) (s : State) :
    Host.Outcome State Fault Refusal :=
  afterTime dt (completeWord port robot intent) s

/-! ## Expiry of a sight-list entry (R83) -/

def sightWait (p : PortNo) (r : Robot) (s : State) : Option Nat :=
  (s.ports[p].sights.find? fun x => x.robot == r).map fun x =>
    (x.lastSeen + s.settings.sightWindow) * Config.ms - s.now

def dropSight (p : PortNo) (r : Robot) (s : State) : State :=
  let port := s.ports[p]
  s.setPort p { port with sights := port.sights.filter fun x => x.robot != r }

/-- SIGHT_EXPIRY (R83). -/
def execSightExpiry (port : PortNo) (robot : Robot) (s : State) : Host.Outcome State Fault Refusal :=
  onExpiry (sightWait port robot) (dropSight port robot) s

/-! ## The decoder (R72–R75) -/

/-- The width of the element in progress, in whole u (R72). -/
def Port.width (p : Port) : Nat := p.elapsed / Config.beaconUnit

/-- The decoder at a change to active: the end of a space, or the beginning of a candidate header mark (R74, R75). -/
def Port.spaceEnds (p : Port) : Port :=
  let w := p.width
  match p.decoder with
  | .hunt => { p with decoder := .headerMark }
  | .headerSpace =>
    if 8 ≤ w ∧ w ≤ 12 then { p with decoder := .bitMark, bits := [] } else { p with decoder := .headerMark }
  | .bitSpace =>
    if (3 ≤ w ∧ w ≤ 7) ∨ (12 ≤ w ∧ w ≤ 18) then
      let bits := p.bits ++ [decide (12 ≤ w)]
      { p with bits := bits, decoder := if bits.length < 12 then .bitMark else .trailMark }
    else { p with decoder := .headerMark }
  | .headerMark | .bitMark | .trailMark | .waitIdle => p

/-- The decoder at a change to inactive: the end of a mark (R74, R75). -/
def Port.markEnds (p : Port) : Port :=
  let w := p.width
  match p.decoder with
  | .headerMark => { p with decoder := if 17 ≤ w ∧ w ≤ 23 then .headerSpace else .hunt }
  | .bitMark => { p with decoder := if 3 ≤ w ∧ w ≤ 7 then .bitSpace else .hunt }
  | .trailMark | .waitIdle => { p with decoder := .hunt }
  | .hunt | .headerSpace | .bitSpace => p

/-- The end of a trailing mark of 3–7 u completes the word (R74). -/
def Port.wordEnds (p : Port) : Bool := p.decoder == .trailMark && 3 ≤ p.width && p.width ≤ 7

/-- A level that the port already stands at is no change. The decoder follows changes once the load has ended READY;
the pin's level is followed always (R86). -/
def changeLevel (p : PortNo) (active : Bool) (s : State) : State :=
  let port := s.ports[p]
  if port.active = active then s
  else if !s.ready then s.setPort p { port with active := active, elapsed := 0 }
  else if active then s.setPort p { port.spaceEnds with active := true, elapsed := 0 }
  else
    let s1 := s.setPort p { port.markEnds with active := false, elapsed := 0 }
    if port.wordEnds then judgeWord s1 p else s1

/-- BEACON_LEVEL_CHANGE (R74, R75). -/
def execBeaconLevelChange (dt : Nat) (port : PortNo) (active : Bool) (s : State) : Host.Outcome State Fault Refusal :=
  afterTime dt (changeLevel port active) s

/-- The width, in u, at which the element in progress has passed the top of its window (R75). -/
def DecoderState.overrunAt (d : DecoderState) : Option Nat :=
  match d with
  | .headerMark => some 24
  | .headerSpace => some 13
  | .bitMark | .trailMark => some 8
  | .bitSpace => some 19
  | .hunt | .waitIdle => none

def overrunWait (p : PortNo) (s : State) : Option Nat :=
  if s.ready then s.ports[p].decoder.overrunAt.map fun w => w * Config.beaconUnit - s.ports[p].elapsed else none

/-- R75: an overrun mark sends the decoder to WAIT_IDLE, an overrun space to HUNT. -/
def overrun (p : PortNo) (s : State) : State :=
  let port := s.ports[p]
  s.setPort p { port with decoder := match port.decoder with
    | .headerMark | .bitMark | .trailMark | .waitIdle => .waitIdle
    | .headerSpace | .bitSpace | .hunt => .hunt }

/-- BEACON_WINDOW_OVERRUN (R75). -/
def execBeaconWindowOverrun (port : PortNo) (s : State) : Host.Outcome State Fault Refusal :=
  onExpiry (overrunWait port) (overrun port) s

end Sys2Proof.Machine
end

