-- ==== Sys2Proof/Machine/Fixtures.lean ====
section
/-! DEFINITION. Machine/Fixtures.lean: what the fixture engine's own timers and counts bring about: the meanings of
HOLD_OFF_EXPIRY (R16), LOST (R31), QUEUED_LOST (R32), OVERSTAY (R30), REFILL (R39), GRACE_END (R64, R68), JAM (R67),
UNJAM (R69) and TRANSIENT_END (R19); and a piece at a goal (R57–R62). -/

namespace Sys2Proof.Machine

/-! ## Hold-off entries -/

def holdOffWait (r : Robot) (f : FixtureNo) (s : State) : Option Nat :=
  (s.engine.holdOff.find? fun x => x.isFor r f).map fun x => x.expiry * Config.ms - s.now

def dropHoldOff (r : Robot) (f : FixtureNo) (s : State) : State :=
  s.setHoldOff (s.engine.holdOff.filter fun x => !x.isFor r f)

/-- HOLD_OFF_EXPIRY (R16). -/
def execHoldOffExpiry (robot : Robot) (fixture : FixtureNo) (s : State) : Host.Outcome State Fault Refusal :=
  onExpiry (holdOffWait robot fixture) (dropHoldOff robot fixture) s

/-! ## Lost times and the hold limit -/

/-- R31: the time still missing to a GATE holder's lost time; it cannot come while HALTED (R44). -/
def lostWait (f : FixtureNo) (s : State) : Option Nat :=
  let x := s.fixture f
  match x.config, x.claims.holder with
  | some c, some h =>
    if c.kind = .gate ∧ x.state = .held ∧ s.clock.phase ≠ .halted then
      some (c.params.lostTime * Config.ms - h.age)
    else none
  | _, _ => none

/-- LOST (R31). -/
def execLost (fixture : FixtureNo) (s : State) : Host.Outcome State Fault Refusal :=
  onExpiry (lostWait fixture) (fun s => settle s [.release fixture .lost]) s

/-- R32: the time still missing to a queued robot's lost time. -/
def queuedLostWait (f : FixtureNo) (r : Robot) (s : State) : Option Nat :=
  let x := s.fixture f
  match x.config, x.claims.queue.find? fun w => w.robot == r with
  | some c, some w =>
    if s.clock.phase ≠ .halted then some (c.params.lostTime * Config.ms - w.age) else none
  | _, _ => none

/-- QUEUED_LOST (R32). -/
def execQueuedLost (fixture : FixtureNo) (robot : Robot) (s : State) : Host.Outcome State Fault Refusal :=
  onExpiry (queuedLostWait fixture robot) (fun s => dropQueued s fixture robot) s

/-- OVERSTAY (R30): the hold is released, and the fixtures after this one go on with the tick that called for it (R2). -/
def execOverstay (fixture : FixtureNo) (s : State) : Host.Outcome State Fault Refusal :=
  .next (if overstayed fixture s then resumeTick (settle s [.release fixture .overstay]) else s)

/-! ## Refill -/

/-- R39: the refill count returns to 0 and every side's allowance rises by 1, saturating at ACAP. -/
def refillFixture (f : FixtureNo) (s : State) : State :=
  let x := s.fixture f
  match x.config with
  | none => s
  | some c =>
    match c.params with
    | .dispenser _ acap _ _ =>
      let a := x.claims.allowance
      s.setClaims f { x.claims with
        refillCount := 0
        allowance := ⟨min acap (a.one + 1), min acap (a.two + 1), min acap (a.three + 1), min acap (a.four + 1)⟩ }
    | .gate _ _ | .zone _ _ | .goal _ _ _ _ => s

/-- REFILL (R39): the allowances rise, and the fixtures after this one go on with the tick that called for it (R2). -/
def execRefill (fixture : FixtureNo) (s : State) : Host.Outcome State Fault Refusal :=
  .next (if refillDue fixture s then resumeTick (refillFixture fixture s) else s)

/-! ## Grace (R64, R68) -/

def graceWait (f : FixtureNo) (s : State) : Option Nat :=
  let x := s.fixture f
  if x.liveGoal && x.graceRuns && s.clock.phase != .halted then some x.scoring.graceLeft else none

/-- R64: grace ends; a goal in GRACE acts by the phase as it then stands. R68: a JAMMED goal stays JAMMED. -/
def endGrace (f : FixtureNo) (s : State) : State :=
  let x := s.fixture f
  match x.config with
  | none => s
  | some c =>
    let ended : Fixture := { x with scoring := { x.scoring with graceLeft := 0, credited := none } }
    if x.state = .jammed then s.setFixture f ended
    else
      let st : FixtureState := if inMask c.liveMask s.clock.phase then .counting else .dormant
      ((s.setFixture f { ended with state := st }).raiseChange).refreshIndicator f

/-- GRACE_END (R64). -/
def execGraceEnd (fixture : FixtureNo) (s : State) : Host.Outcome State Fault Refusal :=
  onExpiry (graceWait fixture) (endGrace fixture) s

/-! ## Jam (R67, R69) -/

def jamTime (p : KindParams) : Nat :=
  match p with
  | .goal _ _ _ t => t
  | .gate _ _ | .dispenser _ _ _ _ | .zone _ _ => 0

/-- R67: the time still missing for the goal's input to have been active for the jam time. -/
def jamWait (f : FixtureNo) (s : State) : Option Nat :=
  let x := s.fixture f
  match x.config with
  | none => none
  | some c =>
    if x.liveGoal && x.state != .jammed && s.goalInput f && s.clock.phase != .halted then
      some (jamTime c.params * Config.tenth - x.scoring.jamTimer)
    else none

/-- R67: the goal becomes JAMMED, keeping piece count, grace remainder and credited phase. -/
def jamGoal (f : FixtureNo) (s : State) : State :=
  let x := s.fixture f
  let y : Fixture := { x with
    state := .jammed, scoring := { x.scoring with jamFromGrace := x.state == .grace } }
  (((s.setFixture f y).createEvent .jam (some f) 0 0 0).raiseChange).refreshIndicator f

/-- JAM (R67). -/
def execJam (fixture : FixtureNo) (s : State) : Host.Outcome State Fault Refusal :=
  onExpiry (jamWait fixture) (jamGoal fixture) s

/-- R69: the time still missing for the goal's input to have been inactive for 1.0 s. -/
def unjamWait (f : FixtureNo) (s : State) : Option Nat :=
  let x := s.fixture f
  if x.liveGoal && x.state == .jammed && !s.goalInput f && s.clock.phase != .halted then
    some (Config.unjamTime - x.scoring.jamTimer)
  else none

/-- R69: the state in which a goal leaves JAMMED. -/
def unjamState (x : Fixture) (mask : LiveMask) (phase : Phase) : FixtureState :=
  if x.scoring.jamFromGrace then
    if x.scoring.credited.isSome ∧ 0 < x.scoring.graceLeft then .grace else .dormant
  else if inMask mask phase then .counting else .dormant

def unjamGoal (f : FixtureNo) (s : State) : State :=
  let x := s.fixture f
  match x.config with
  | none => s
  | some c =>
    let st := unjamState x c.liveMask s.clock.phase
    let scoring := { x.scoring with
      jamFromGrace := false
      graceLeft := if st = .grace then x.scoring.graceLeft else 0
      credited := if st = .grace then x.scoring.credited else none }
    (((s.setFixture f { x with state := st, scoring := scoring }).createEvent .unjam (some f) 0 0 0).raiseChange
      ).refreshIndicator f

/-- UNJAM (R69). -/
def execUnjam (fixture : FixtureNo) (s : State) : Host.Outcome State Fault Refusal :=
  onExpiry (unjamWait fixture) (unjamGoal fixture) s

/-! ## Transient indicators (R19) -/

def transientWait (f : FixtureNo) (s : State) : Option Nat :=
  (s.fixture f).transient.map fun _ => (s.fixture f).transientLeft

def endTransient (f : FixtureNo) (s : State) : State :=
  (s.setFixture f { s.fixture f with transient := none, transientLeft := 0 }).refreshIndicator f

/-- TRANSIENT_END (R19). -/
def execTransientEnd (fixture : FixtureNo) (s : State) : Host.Outcome State Fault Refusal :=
  onExpiry (transientWait fixture) (endTransient fixture) s

/-! ## Pieces (R57–R62) -/

/-- R61: a side's points rise, saturating at 65535; an uncredited piece raises none. -/
def addPoints (p : PerSide) (side : Side) (points : Nat) : PerSide :=
  p.set side (min Config.countMax (p.get side + points))

/-- R58–R62: a piece is counted at a credited phase, credited, and handed on. Its SCORE carries the points of the piece,
also where the side's points saturate and rise by fewer: which of the two R62 means is left open (DESIGN CHOICE, log
entry 30). -/
def countPiece (s : State) (f : FixtureNo) (c : FixtureConfig) (rule : Option CreditRule) (values : PerPhase)
    (phase : Phase) : State :=
  let x := s.fixture f
  let side := s.creditSide c rule
  let robot : Robot := match s.lastSeen c with
    | some e => e.robot
    | none => 0
  let points := values.get phase
  let s1 := s.setFixture f { x with scoring := { x.scoring with pieces := min Config.countMax (x.scoring.pieces + 1) } }
  let s2 := { s1 with engine := { s1.engine with points := addPoints s1.engine.points side points } }
  let s3 := (s2.createEvent (.score phase) (some f) robot side (if side = 0 then 0 else points)).raiseChange
  settle (s3.startTransient f .scored) (c.startTask f c.firstList .change)

/-- R57: a goal that is not DEAD takes a PIECE latch and acts by its state and the phase. -/
def takePiece (s : State) (f : FixtureNo) : State :=
  let x := s.fixture f
  match x.config with
  | none => s
  | some c =>
    match c.params with
    | .goal rule values _ _ =>
      if s.clock.phase = .halted then s
      else
        match x.state with
        | .counting => countPiece s f c rule values s.clock.phase
        | .grace =>
          match x.scoring.credited with
          | some p => countPiece s f c rule values p
          | none => s
        | .dead | .dormant | .free | .held | .live | .jammed => s
    | .gate _ _ | .dispenser _ _ _ _ | .zone _ _ => s

end Sys2Proof.Machine
end

