-- ==== Sys2Proof/Machine/Pulses.lean ====
section
/-! DEFINITION. Machine/Pulses.lean: the timed events of runners and pulse units: the meanings of PATTERN_PHASE_END
(R157, R145), DELAY_END (R144) and LAMP_PHASE_END (R166). -/

namespace Sys2Proof.Machine

/-! ## Patterns (R157) -/

/-- A pattern's time stands while the safe state does, so its phase cannot end then (R162). -/
def patternWait (u : UnitNo) (s : State) : Option Nat :=
  if s.pulse.safe then none else s.pulse.units[u].pattern.map Pattern.left

/-- R157: the next phase of a pattern; none when the phase that ends is its Nth LOW phase. -/
def Pattern.next (t : Pattern) : Option Pattern :=
  if t.isHigh then some { t with isHigh := false, left := (t.low + 1) * t.tick }
  else if 1 < t.repeats then
    some { t with repeats := t.repeats - 1, isHigh := true, left := (t.high + 1) * t.tick }
  else none

/-- R145: what the runner that drove a pattern does at its end, once the unit has gone to the arbiter. -/
def afterPattern (s : State) (u : UnitNo) (r : RunnerId) : List Task :=
  let x := s.runner r
  match x.mode, x.current with
  | .holding v, _ => if v = u then [.moveOn r] else []
  | .draining, some c => if (s.pulse.drivenBy r).all (· == u) then completeTasks r c else []
  | _, _ => []

/-- R145, R147: a pattern ends. The unit is released to the arbiter, and its runner acts by its state. -/
def endPattern (s : State) (u : UnitNo) : State :=
  let x := s.pulse.units[u]
  let s1 := s.setUnit u x.released
  match x.driver with
  | none => s1
  | some r => settle s1 (.unitFreed u :: afterPattern s u r)

/-- R157. -/
def endPatternPhase (u : UnitNo) (s : State) : State :=
  match s.pulse.units[u].pattern with
  | none => s
  | some t =>
    match t.next with
    | some t' => s.setUnit u { s.pulse.units[u] with pattern := some t' }
    | none => endPattern s u

/-- PATTERN_PHASE_END (R157). -/
def execPatternPhaseEnd (unit : UnitNo) (s : State) : Host.Outcome State Fault Refusal :=
  onExpiry (patternWait unit) (endPatternPhase unit) s

/-! ## Delays (R144) -/

def delayWait (r : RunnerId) (s : State) : Option Nat :=
  match (s.runner r).mode with
  | .delay left => some left
  | .idle | .holding _ | .waitingUnit _ | .draining => none

/-- DELAY_END (R144). -/
def execDelayEnd (runner : RunnerId) (s : State) : Host.Outcome State Fault Refusal :=
  onExpiry (delayWait runner) (fun s => settle s [.moveOn runner]) s

/-! ## Lamps (R166) -/

def lampWait (u : UnitNo) (s : State) : Option Nat :=
  let x := s.pulse.units[u]
  if x.binding = .lamp ∧ x.lamp.waits s.pulse = true then some x.lamp.left else none

/-- R166: a phase of a running BLINK ends; a pending pattern becomes the running one, else the BLINK goes on. -/
def Lamp.phaseEnd (l : Lamp) (p : Pulse) : Lamp :=
  match l.pending, l.running with
  | some t, _ => l.run p t
  | none, some t => { l with isHigh := !l.isHigh, left := (p.lampPattern t).phaseTime (!l.isHigh) }
  | none, none => l

def endLampPhase (u : UnitNo) (s : State) : State :=
  let x := s.pulse.units[u]
  s.setUnit u { x with lamp := x.lamp.phaseEnd s.pulse }

/-- LAMP_PHASE_END (R166). -/
def execLampPhaseEnd (unit : UnitNo) (s : State) : Host.Outcome State Fault Refusal :=
  onExpiry (lampWait unit) (endLampPhase unit) s

end Sys2Proof.Machine
end

