-- ==== Sys2Proof/Machine/Sampling.lean ====
section
/-! DEFINITION. Machine/Sampling.lean: the input block (chapter 7): sampling and qualification (R127, R128), latches
(R129–R131), their consumers (R57, R98, R99, R132, R133), and the meaning of INPUT_SAMPLE. -/

namespace Sys2Proof.Machine

/-- R127: a sample is active when the pin stands at the level the polarity names. -/
def Input.sees (x : Input) (high : Bool) : Bool :=
  match x.polarity with
  | .activeHigh => high
  | .activeLow => !high

/-- An input with route NONE is not sampled (R126). -/
def Input.routed (x : Input) : Bool := x.route != .none

/-- R128: the qualified level changes at the second of two consecutive disagreeing samples. -/
def Input.qualify (x : Input) (active : Bool) : Input :=
  if active = x.qualified then { x with disagreeing := 0 }
  else if x.disagreeing = 0 then { x with disagreeing := 1 }
  else { x with qualified := active, disagreeing := 0 }

/-- R129, R130: an EDGE input sets its latch at a rise of its qualified level, a LEVEL input at each sample at which its
qualified level is active. A latch already set stays set. -/
def Input.latched (before x : Input) : Input :=
  let sets :=
    match x.mode with
    | .edge => !before.qualified && x.qualified
    | .level => x.qualified
  { x with latch := before.latch || sets }

/-- One input at a sample instant. -/
def Input.sample (x : Input) (high : Bool) : Input :=
  if x.routed then Input.latched x (x.qualify (x.sees high)) else x

/-- R135: the first sample sets the qualified level directly; it sets the latch of a LEVEL input that is active. -/
def Input.firstSample (x : Input) (high : Bool) : Input :=
  if x.routed then
    let active := x.sees high
    { x with qualified := active, disagreeing := 0, latch := active && x.mode == .level }
  else x

/-- R66: a goal's jam timer returns to 0 when the level of the goal's input has changed. -/
def Fixture.inputChanged (x : Fixture) (changed : Bool) : Fixture :=
  if changed && x.liveGoal then { x with scoring := { x.scoring with jamTimer := 0 } } else x

/-- The input records of one sample instant, with what the changes of qualified level bring about: jam timers (R66) and
the CHANGE request of the HALT_INPUT flag (R102). All twelve inputs are sampled at the same instant, so the goals see
the combined level before and after it (log entry 8). -/
def sampleRecords (s : State) (pins : BitVec 12) (sample : Input → Bool → Input) : State :=
  let old := s.inputs.records
  let new := Vector.ofFn fun i => sample old[i] (pins.getLsbD i.val)
  let s1 := { s with
    inputs := ⟨new, 0, pins⟩
    engine := { s.engine with fixtures := Vector.ofFn fun i =>
      s.engine.fixtures[i].inputChanged (goalInput old i != goalInput new i) } }
  if haltInput old = haltInput new then s1 else s1.raiseChange

/-- R131: the consumer takes a set latch, which is then clear. A PIECE latch of a DEAD goal stays set (R57). -/
def takeLatch (s : State) (i : InputNo) : State :=
  let x := s.inputs.records[i]
  if !x.latch then s
  else
    match x.route with
    | .none => s
    | .piece f =>
      if (s.fixture f).state = .dead then s else takePiece (s.setInput i { x with latch := false }) f
    | .command c => localCommand (s.setInput i { x with latch := false }) c x.mode

/-- The consumers take the latches, in ascending order of input (log entry 8). -/
def takeLatches (s : State) : State := inputNumbers.foldl takeLatch s

/-- R127: the time still missing to the next sample instant of a configured station. -/
def sampleWait (s : State) : Option Nat := if s.ready then some (Config.ms - s.inputs.sampleTimer) else none

/-- INPUT_SAMPLE (R127). -/
def execInputSample (pins : BitVec 12) (s : State) : Host.Outcome State Fault Refusal :=
  onExpiry sampleWait (fun s => takeLatches (sampleRecords s pins Input.sample)) s

end Sys2Proof.Machine
end

