-- ==== Sys2Proof/Machine/Receive.lean ====
section
/-! DEFINITION. Machine/Receive.lean: the receiving side of the arena line (R174, R175, R182–R184) and the field picture
(R110, R111, R115, R116): the meanings of STATUS_RECEIVED, EVENT_FRAME_RECEIVED, MATCH_FRAME_RECEIVED, FRAME_DISCARD,
FRAME_ABANDON, NON_SYNC_CHARACTER, RECEIVER_RETURN_TO_HUNT, MUTE_TIMER_EXPIRY, STATUS_TIMER_EXPIRY and
CHANGE_ELIGIBLE. -/

namespace Sys2Proof.Machine

/-! ## Muting (R182, R183) -/

/-- R183: on entering MUTED the transmit queue is emptied, EVENTS_LOST is set, the aborted-attempt count becomes 0, and
the mute timer starts. -/
def enterMuted (s : State) (cause : MuteCause) : State :=
  State.setEventsLost { s with line := { s.line with
    queue := [], aborts := 0, muted := some cause, muteTimer := Config.muteTime } }

/-- R182: a twin mutes the station, or restarts its mute timer with cause twin. -/
def meetTwin (s : State) : State :=
  match s.line.muted with
  | none => enterMuted s .twin
  | some _ => { s with line := { s.line with muted := some .twin, muteTimer := Config.muteTime } }

/-! ## Taking in a status (R43, R110) -/

/-- R43: a pair of stamp and station number is lower than another. -/
def pairLower (stamp station stamp' station' : Nat) : Bool :=
  stamp < stamp' || (stamp == stamp' && station < station')

/-- R43: a status from peer p shows the holder of an own GATE holding a GATE there by a lower pair. -/
def State.yields (s : State) (p : StationNo) (entries : List SummaryEntry) (f : FixtureNo) : Bool :=
  let x := s.fixture f
  match x.claims.holder with
  | some h =>
    x.kind? == some .gate && x.state == .held &&
      entries.any fun e => e.holdsGate h.robot && pairLower e.stamp p.val h.stamp s.loader.station.val
  | none => false

/-- R43: each own GATE that is HELD is compared, in ascending order of fixture number (R2). -/
def dualHold (s : State) (p : StationNo) (entries : List SummaryEntry) : State :=
  if s.settings.singleHold then
    fixtureNumbers.foldl (fun s f => if s.yields p entries f then settle s [.release f .yield] else s) s
  else s

/-- R110: a valid STATUS frame. One bearing the own number is not taken in; one with an undefined code is set aside
whole; otherwise the row is replaced whole, and a configured station hands it on. -/
def takeStatus (s : State) (p : StationNo) (payload : List Byte) : State :=
  if p = s.loader.station then s
  else
    match readStatus payload with
    | none => s
    | some r =>
      let row : PeerRow := ⟨true, 0, r.phase, r.resume, r.tick, r.entries⟩
      let s1 := s.setPeer p row
      if s.ready then lateJoin (dualHold s1 p r.entries) row else s1

/-! ## Valid frames (R175) -/

/-- R175: a valid frame: last sender, twin, and the frame handed on by its kind. -/
def takeFrame (s : State) (kind : FrameKind) (sender : StationNo) (payload : List Byte) : State :=
  let s1 := { s with line := { s.line with lastSender := sender } }
  let s2 := if sender = s.loader.station then meetTwin s1 else s1
  match kind with
  | .command =>
    match payloadCommand payload with
    | some c => takeCommand s2 c
    | none => s2
  | .status => takeStatus s2 sender payload
  | .event => s2

/-- The receiver enters SKIP. The line has been quiet for `idle`, or stands dominant for `dominant` yet (R174, R178). -/
def Line.skip (l : Line) (dominant idle : Nat) : Line :=
  { l.fallen dominant with receiver := .skip, received := [], idle := idle }

def State.skip (s : State) (dominant idle : Nat) : State := { s with line := s.line.skip dominant idle }

/-- A character that an abort left in progress is still to be given by a command: it may have ended since (R180). -/
def Line.unheard (l : Line) : Bool :=
  match l.standing with
  | .character _ | .undriven => true
  | .recessive | .dominant | .released => false

/-- The time that is left of a time that begins when what stands on the line is over. What of it has already passed since
the line fell quiet is not waited for again (log entry 4). -/
def Line.remaining (l : Line) (time : Nat) : Nat := l.busy + (time - l.idle)

/-- The time that `n` further characters take from the end of what stands on the line (R169, R174). Within a frame they
follow the last one, otherwise the silence before SYNC comes first, which has passed already where an abort in SYNC's
start bit began a new idle time (R180); a character that an abort left in progress is the first of them, and has ended by
then. -/
def Line.span (l : Line) (n : Nat) : Nat :=
  match l.receiver with
  | .skip => Config.silence + Config.characterTime * n
  | .hunt =>
    match l.standing with
    | .recessive | .dominant => Config.silence + Config.characterTime * n
    | .released => Config.characterTime * n
    | .character _ | .undriven => Config.characterTime * (n - 1)
  | .frame => if l.unheard then Config.characterTime * (n - 1) else Config.characterTime * n

/-- The least time until `n` further characters have ended. -/
def Line.leastTime (l : Line) (n : Nat) : Nat := l.remaining (l.span n)

/-- Of a frame in progress the characters already received are the frame's first (R174). -/
def Line.continues (l : Line) (frame : List Byte) : Bool :=
  l.receiver != .frame || (l.received.isPrefixOf frame && l.received.length < frame.length)

/-- The least time until one further character has ended. In SKIP it needs no silence before it, but the line's return
from a dominant level: only then does the next change to dominant begin a character (R169, R174). -/
def Line.characterWait (l : Line) : Nat :=
  match l.receiver with
  | .skip => l.remaining Config.characterTime
  | .hunt | .frame => l.leastTime 1

/-- The characters of a frame that are still to come. -/
def Line.missing (l : Line) (frame : List Byte) : Nat :=
  match l.receiver with
  | .frame => frame.length - l.received.length
  | .hunt | .skip => frame.length

/-- The receiver hears frames of other devices: the load has ended, and no attempt of the station's own is under way,
in which the line carries the station's own frame (R174, R180, R186). -/
def State.hears (s : State) : Bool := s.running && s.line.attempt.isNone

/-- A complete frame of another device. `wanted` says whether its judgement is the occurrence the command names. The
frame completes `dt` after the command before, or as soon as its reception takes (log entry 4); the receiver enters
SKIP. -/
def receiveFrame (wanted : Judgement → Bool) (dt : Nat) (frame : List Byte) (s : State) :
    Host.Outcome State Fault Refusal :=
  if s.hears && s.line.continues frame && wanted (judge frame) then
    let s1 := (s.advance (max dt (s.line.leastTime (s.line.missing frame)))).skip 0 0
    match judge frame with
    | .valid kind sender payload => .next (takeFrame s1 kind sender payload)
    | .discarded | .incomplete => .next s1
  else .next (s.advance dt)

def Judgement.isValid (k : FrameKind) (j : Judgement) : Bool :=
  match j with
  | .valid kind _ _ => kind == k
  | .discarded | .incomplete => false

/-- STATUS_RECEIVED (R110). -/
def execStatusReceived (dt : Nat) (frame : List Byte) (s : State) : Host.Outcome State Fault Refusal :=
  receiveFrame (Judgement.isValid .status) dt frame s

/-- EVENT_FRAME_RECEIVED (R111). -/
def execEventFrameReceived (dt : Nat) (frame : List Byte) (s : State) : Host.Outcome State Fault Refusal :=
  receiveFrame (Judgement.isValid .event) dt frame s

/-- MATCH_FRAME_RECEIVED (R97). -/
def execMatchFrameReceived (dt : Nat) (frame : List Byte) (s : State) : Host.Outcome State Fault Refusal :=
  receiveFrame (Judgement.isValid .command) dt frame s

/-- FRAME_DISCARD (R175): a discard of any kind is silent. -/
def execFrameDiscard (dt : Nat) (frame : List Byte) (s : State) : Host.Outcome State Fault Refusal :=
  receiveFrame (· == .discarded) dt frame s

/-! ## Abandoned frames and stray characters (R174) -/

/-- The least time until a frame in progress is abandoned, none where it cannot be. A gap comes more than 6 bit times
after the last character, SYNC at least; a framing error at the middle of the stop bit of a character after SYNC; LEN is
the second character. -/
def Line.abandonTime (l : Line) (cause : Sys2Proof.AbandonCause) : Option Nat :=
  let within := l.receiver == .frame
  match cause with
  | .gap => some (l.remaining (if within then Config.silence else l.span 1 + Config.silence))
  | .framingError line =>
    match readCharacter line with
    | some (.framingError _) => some (l.leastTime (if within then 1 else 2) - Config.bitTime / 2)
    | some (.byte _) | none => none
  | .lenAbove64 =>
    if !within then some (l.leastTime 2)
    else if l.received.length = 1 then some (l.leastTime 1)
    else none

/-- The line at an abandonment: after a gap it has been quiet for more than 6 bit times, after a framing error it stands
dominant for the time its levels show, and after LEN the character has just ended (R178). -/
def State.abandon (cause : Sys2Proof.AbandonCause) (s : State) : State :=
  match cause with
  | .gap => s.skip 0 Config.silence
  | .lenAbove64 => s.skip 0 0
  | .framingError line =>
    match readCharacter line with
    | some (.framingError dominant) => s.skip dominant 0
    | some (.byte _) | none => s

/-- FRAME_ABANDON (R174): the frame in progress is discarded unjudged and the receiver enters SKIP. -/
def execFrameAbandon (dt : Nat) (cause : Sys2Proof.AbandonCause) (s : State) : Host.Outcome State Fault Refusal :=
  match s.hears, s.line.abandonTime cause with
  | true, some least => .next (State.abandon cause (s.advance (max dt least)))
  | _, _ => .next (s.advance dt)

/-- A character joins the frame in progress. LEN above 64 abandons it; the character that would complete it comes with
the frame's own command (log entry 18). -/
def Line.append (l : Line) (c : Byte) : Line :=
  let frame := l.received ++ [c]
  if frame.length = 2 ∧ c.toNat > Config.frameLenMax then l.skip 0 0
  else if judge frame = .incomplete then { l.fallen 0 with received := frame, idle := 0 }
  else l

/-- R169, R174: one character as LINE_RXD gives it. In HUNT one that holds C3 hex is SYNC and any other begins no frame;
in FRAME it joins the frame in progress; in SKIP it is ignored, and the silence begins anew. One with a framing error
ends a frame in progress, and leaves the line dominant until it returns to recessive. -/
def Line.hear (l : Line) (heard : Heard) : Line :=
  match heard with
  | .framingError dominant => l.skip dominant 0
  | .byte c =>
    match l.receiver with
    | .hunt => if c = syncByte then { l.fallen 0 with receiver := .frame, received := [c], idle := 0 } else l.skip 0 0
    | .frame => l.append c
    | .skip => l.skip 0 0

def State.hear (s : State) (heard : Heard) : State := { s with line := s.line.hear heard }

/-- R169: a character is taken as it ends, and one with a framing error at the middle of its stop bit, where it is
judged. -/
def Heard.early (heard : Heard) : Nat :=
  match heard with
  | .byte _ => 0
  | .framingError _ => Config.bitTime / 2

/-- NON_SYNC_CHARACTER (R169, R174): the character is taken `dt` after the command before, or as soon as its ten bit
times after the line's return to recessive allow (log entry 4). -/
def execNonSyncCharacter (dt : Nat) (line : List LineRun) (s : State) : Host.Outcome State Fault Refusal :=
  match s.hears, readCharacter line with
  | true, some heard => .next ((s.advance (max dt (s.line.characterWait - heard.early))).hear heard)
  | _, _ => .next (s.advance dt)

/-- R174: the silence still missing in SKIP. -/
def huntWait (s : State) : Option Nat :=
  if s.hears && s.line.receiver == .skip then some (s.line.remaining Config.silence) else none

def returnToHunt (s : State) : State := { s with line := { s.line with receiver := .hunt } }

/-- RECEIVER_RETURN_TO_HUNT (R174). -/
def execReceiverReturnToHunt (s : State) : Host.Outcome State Fault Refusal := onExpiry huntWait returnToHunt s

/-! ## The mute timer (R184) -/

def muteWait (s : State) : Option Nat := s.line.muted.map fun _ => s.line.muteTimer

/-- The request raised on leaving MUTED: a CHANGE, which an UNCONFIGURED station takes as a PERIODIC one (R184, R195). -/
def raiseUnmuted (s : State) : State :=
  if s.loader.load = .unconfigured then { s with picture := s.picture.raisePeriodic s.now } else s.raiseChange

/-- R184: the line controller leaves MUTED, raises a CHANGE request and hands over a FAULT LINE_MUTED event. -/
def leaveMuted (s : State) : State :=
  match s.line.muted with
  | none => s
  | some cause =>
    (raiseUnmuted { s with line := { s.line with muted := none, muteTimer := 0 } }).createEvent
      (.fault .lineMuted) none 0 0 cause.value

/-- MUTE_TIMER_EXPIRY (R184). -/
def execMuteTimerExpiry (s : State) : Host.Outcome State Fault Refusal := onExpiry muteWait leaveMuted s

/-! ## Status requests (R115, R116) -/

/-- The status interval in ms: the setting, or 1000 ms at an UNCONFIGURED station (R115, R195). -/
def State.statusInterval (s : State) : Nat :=
  if s.loader.load = .unconfigured then Config.unconfiguredInterval else s.settings.statusInterval

/-- R115, R118: the time still missing to the status interval; once reached, nothing more until the timer is set to 0. -/
def statusWait (s : State) : Option Nat :=
  if s.running && s.loader.station != 0 && !s.picture.statusRaised then
    some (s.statusInterval * Config.ms - s.picture.statusTimer)
  else none

def raiseStatus (s : State) : State :=
  let p := s.picture.raisePeriodic s.now
  { s with picture := { p with statusRaised := true } }

/-- STATUS_TIMER_EXPIRY (R115). -/
def execStatusTimerExpiry (s : State) : Host.Outcome State Fault Refusal := onExpiry statusWait raiseStatus s

/-- R116: the time still missing until the pending CHANGE request is eligible. -/
def changeWait (s : State) : Option Nat :=
  match s.picture.request with
  | some ⟨.change, t⟩ => some (t - s.now)
  | some ⟨.periodic, _⟩ | none => none

/-- CHANGE_ELIGIBLE (R116): eligibility is read from the request's moment (Request.eligible), and the head is chosen
afresh whenever it is looked for (R177), so nothing else changes. -/
def execChangeEligible (s : State) : Host.Outcome State Fault Refusal := onExpiry changeWait id s

end Sys2Proof.Machine
end

