-- ==== Sys2Proof/Machine/Script.lean ====
section
/-! DEFINITION. Machine/Script.lean: the field script (R188–R193): reading the serial memory, walking the records,
judging the image whole, and the values each record gives, clamped (Table 11-4) or defaulted (Table 11-5). -/

namespace Sys2Proof.Machine

/-! ## The script image (R188) -/

/-- The bytes from address 0 that the loader reads, by the header's total length. -/
def imageLength (miso : List Bool) : Nat :=
  let header := spiBytes miso 5
  let total := word16 (header.getD 3 0) (header.getD 4 0)
  if total ≤ Config.imageMax then max 5 total else Config.imageMax

/-- The script image: the bytes clocked in after the read command. -/
def scriptImage (miso : List Bool) : List Byte := spiBytes miso (imageLength miso)

/-! ## Walking and judging (R189, R190) -/

/-- A record of the script. -/
structure Record where
  type : Nat
  body : List Byte
  deriving DecidableEq, Repr

/-- R189: the records up to END, and the bytes that follow END's length byte; none when no END lies within the bytes.
Every record takes at least two bytes, so the image's length bounds the walk. -/
def walk (fuel : Nat) (bytes : List Byte) : Option (List Record × List Byte) :=
  match fuel, bytes with
  | n + 1, type :: len :: rest =>
    if type = 0 then some ([], rest)
    else if rest.length < len.toNat then none
    else
      match walk n (rest.drop len.toNat) with
      | some (records, tail) => some (⟨type.toNat, rest.take len.toNat⟩ :: records, tail)
      | none => none
  | _, _ => none

/-- The faults of R190, in its order. -/
inductive ScriptFault where
  | magic
  | version
  | noEnd
  | badCrc
  | missing
  deriving DecidableEq, Repr

inductive Verdict where
  | unusable (f : ScriptFault)
  | good (records : List Record)
  deriving DecidableEq, Repr

/-- R189: the record of a type that is taken: the first whose body is as long as its type requires. -/
def taken (records : List Record) (type least : Nat) : Option (List Byte) :=
  (records.find? fun r => r.type == type && least ≤ r.body.length).map Record.body

def settingsRecord (records : List Record) : Option (List Byte) := taken records 1 9
def sidesRecord (records : List Record) : Option (List Byte) := taken records 2 63
def periodsRecord (records : List Record) : Option (List Byte) := taken records 3 8
def patternsRecord (records : List Record) : Option (List Byte) := taken records 6 0
def unitsRecord (records : List Record) : Option (List Byte) := taken records 7 112
def inputsRecord (records : List Record) : Option (List Byte) := taken records 8 36

/-- R190: the image judged whole. -/
def judgeScript (image : List Byte) : Verdict :=
  if image.take 2 ≠ [0x4A#8, 0x4B#8] then .unusable .magic
  else if image.getD 2 0 ≠ 1#8 then .unusable .version
  else
    match walk image.length (image.drop 5) with
    | none => .unusable .noEnd
    | some (records, tail) =>
      if tail.length < 2 then .unusable .noEnd
      else if tail.take 2 ≠ crcBytes (image.take (image.length - tail.length)) then .unusable .badCrc
      else if (settingsRecord records).isNone || (periodsRecord records).isNone then .unusable .missing
      else .good records

/-! ## Fields -/

def byteAt (body : List Byte) (k : Nat) : Nat := (body.getD k 0).toNat

def wordAt (body : List Byte) (k : Nat) : Nat := word16 (body.getD k 0) (body.getD (k + 1) 0)

/-- R191: a value below the range takes its lower end, one above it the upper end. -/
def clamp (low high n : Nat) : Nat := max low (min high n)

/-- A side of 1–4 by clamping. -/
def clampSide (n : Nat) : Side := ⟨clamp 1 4 n, by unfold clamp; omega⟩

/-- Whole pieces of `size` bytes; a trailing part of fewer bytes is passed over. -/
def pieces (size fuel : Nat) (bytes : List Byte) : List (List Byte) :=
  match fuel with
  | 0 => []
  | n + 1 => if bytes.length < size then [] else bytes.take size :: pieces size n (bytes.drop size)

/-! ## Settings, side table, periods -/

/-- Table 11-2, type 1. -/
def readSettings (body : List Byte) : Settings :=
  { statusInterval := clamp 200 2000 (wordAt body 0)
    staleTime := clamp 500 5000 (wordAt body 2)
    sightWindow := clamp 100 2000 (wordAt body 4)
    holdOffTime := clamp 0 5000 (wordAt body 6)
    singleHold := byteAt body 8 != 0 }

/-- R8, type 2: entry 0 is "no robot"; without the record every robot is of side 0. -/
def readSides (body : Option (List Byte)) : Vector Side 64 :=
  Vector.ofFn fun r =>
    match body with
    | none => 0
    | some b => if r.val = 0 then 0 else ⟨clamp 0 4 (byteAt b (r.val - 1)), by unfold clamp; omega⟩

/-- Table 11-2, type 3, in tenths. -/
def readPeriods (body : List Byte) : PerPhase :=
  { auto := clamp 0 600 (wordAt body 0)
    transit := clamp 0 300 (wordAt body 2)
    drive := clamp 1 3000 (wordAt body 4)
    endgame := clamp 0 600 (wordAt body 6) }

/-- R89: the end ticks of the running phases. -/
def boundaries (p : PerPhase) : PerPhase :=
  { auto := p.auto
    transit := p.auto + p.transit
    drive := p.auto + p.transit + p.drive
    endgame := p.auto + p.transit + p.drive + p.endgame }

/-! ## Steps, patterns, units, inputs -/

/-- A unit number, or a list reference: a value above its range is none. -/
def unitRef (n : Nat) : Option UnitNo := if h : n < 8 then some ⟨n, h⟩ else none
def portRef (n : Nat) : Option PortNo := if h : n < 4 then some ⟨n, h⟩ else none
def listRef (n : Nat) : Option StepNo := if h : n < 64 then some ⟨n, h⟩ else none

/-- Seven bytes of a STEPS record. -/
def readStep (b : List Byte) : Step :=
  let flags := byteAt b 6
  ⟨unitRef (byteAt b 0), wordAt b 1, wordAt b 3, byteAt b 5, TickClock.ofCode flags, flags.testBit 2, flags.testBit 3⟩

/-- Steps from an index upward; one whose index would be above 63 is passed over. -/
def placeSteps (store : Vector Step 64) (index : Nat) (steps : List Step) : Vector Step 64 :=
  match steps with
  | [] => store
  | t :: rest => placeSteps (if h : index < 64 then put store ⟨index, h⟩ t else store) (index + 1) rest

/-- R189, R138: the STEPS records in order, a later one overwriting; one without a start index is skipped. -/
def readStore (records : List Record) : Vector Step 64 :=
  records.foldl (fun store r =>
    match r.type == 5, r.body with
    | true, start :: rest => placeSteps store start.toNat ((pieces 7 rest.length rest).map readStep)
    | _, _ => store) (Vector.replicate 64 Step.empty)

/-- A pattern form above 2 takes OFF. -/
def readPattern (b : List Byte) : LampPattern :=
  match byteAt b 1 with
  | 1 => .steady
  | 2 => .blink (byteAt b 2) (byteAt b 3) (TickClock.ofCode (byteAt b 4))
  | _ => .off

/-- Table 11-2, type 6; an index above 15 is passed over. -/
def readPatterns (body : Option (List Byte)) : Vector LampPattern 16 :=
  match body with
  | none => Vector.replicate 16 .off
  | some b =>
    (pieces 5 b.length b).foldl (fun table e =>
      if h : byteAt e 0 < 16 then put table ⟨byteAt e 0, h⟩ (readPattern e) else table) (Vector.replicate 16 .off)

/-- A pair mode above the table takes SINGLE. -/
def readMode (n : Nat) : PairMode :=
  match n with
  | 1 => .cascade
  | 2 => .prescale
  | _ => .single

/-- A binding code above the table takes OFF. -/
def readBinding (n : Nat) : Binding :=
  match n with
  | 1 => .actuator
  | 2 => .lamp
  | _ => .off

/-- Table 11-2, type 7: the pairs. Every prescaler starts its first period at the end of the load (R167). -/
def readPairs (body : Option (List Byte)) : Vector Pair 4 :=
  Vector.ofFn fun i =>
    match body with
    | none => Pair.start
    | some b =>
      let k := 4 * i.val
      ⟨readMode (byteAt b k), byteAt b (k + 1), byteAt b (k + 2), TickClock.ofCode (byteAt b (k + 3)), 0⟩

/-- R155: the binding a unit keeps by its pair's mode. -/
def keptBinding (mode : PairMode) (odd : Bool) (b : Binding) : Binding :=
  match mode with
  | .single => b
  | .cascade => if odd || b == .lamp then .off else b
  | .prescale => if !odd || b == .lamp then .off else b

/-- Table 11-2, type 7: the units, each idle, with its binding settled and its state map clamped. -/
def readUnits (body : Option (List Byte)) (pairs : Vector Pair 4) : Vector PulseUnit 8 :=
  Vector.ofFn fun i =>
    match body with
    | none => PulseUnit.start
    | some b =>
      let k := 16 + 12 * i.val
      let mode := (pairs[i.val / 2]'(by have := i.isLt; omega)).mode
      { PulseUnit.start with
        binding := keptBinding mode (i.val % 2 == 1) (readBinding (byteAt b k))
        lamp := { Lamp.start with
          map := Vector.ofFn fun j => ⟨clamp 0 15 (byteAt b (k + 1 + j.val)), by unfold clamp; omega⟩ } }

/-- The command of an input route code of 2–5. -/
def routeCommand (n : Nat) : Option Command :=
  match n with
  | 2 => some .start
  | 3 => some .halt
  | 4 => some .resume
  | 5 => some .clear
  | _ => none

/-- Table 11-2, type 8: an input as its entry gives it. A route PIECE whose target is above 7 and a route above 5 take
NONE; `isGoal` says which targets are goals (R192). -/
def readInput (isGoal : FixtureNo → Bool) (flags route target : Nat) : Input :=
  { Input.start with
    polarity := if flags.testBit 0 then .activeLow else .activeHigh
    mode := if flags.testBit 1 then .level else .edge
    route :=
      if route = 1 then
        if h : target < 8 then if isGoal ⟨target, h⟩ then .piece ⟨target, h⟩ else .none else .none
      else
        match routeCommand route with
        | some c => .command c
        | none => .none }

def readInputs (body : Option (List Byte)) (isGoal : FixtureNo → Bool) : Vector Input 12 :=
  Vector.ofFn fun i =>
    match body with
    | none => Input.start
    | some b => readInput isGoal (byteAt b (3 * i.val)) (byteAt b (3 * i.val + 1)) (byteAt b (3 * i.val + 2))

/-! ## Fixtures (Table 11-3) -/

/-- R192: the fixture number and kind of a FIXTURE record, none when it configures nothing. -/
def fixtureHead (r : Record) : Option (FixtureNo × Kind) :=
  if r.type = 4 ∧ 27 ≤ r.body.length then
    if h : byteAt r.body 0 < 8 then (Kind.ofCode? (byteAt r.body 1)).map fun k => (⟨byteAt r.body 0, h⟩, k) else none
  else none

/-- R1, R189: the kind and body of the first FIXTURE record that configures a number. -/
def fixtureRecord (records : List Record) (f : FixtureNo) : Option (Kind × List Byte) :=
  records.findSome? fun r =>
    match fixtureHead r with
    | some (g, k) => if g = f then some (k, r.body) else none
    | none => none

/-- A station of 1–31; 0 and those above 31 are none. -/
def stationRef (n : Nat) : Option StationNo := if h : n < 32 then if n = 0 then none else some ⟨n, h⟩ else none

def fixtureRef (n : Nat) : FixtureNo := ⟨clamp 0 7 n, by unfold clamp; omega⟩

/-- The credit rule of a GOAL; none for a code that is not 1–3, or a ZONE station of 0 or above 31. -/
def readCredit (b : List Byte) : Option CreditRule :=
  match byteAt b 18 with
  | 1 => some (.fixed (clampSide (byteAt b 19)))
  | 2 => (stationRef (byteAt b 19)).map fun n => .zone n (fixtureRef (byteAt b 20))
  | 3 => some .lastSeen
  | _ => none

/-- Bytes 18–26, by kind. -/
def readParams (k : Kind) (b : List Byte) : KindParams :=
  match k with
  | .gate => .gate (clamp 0 3000 (wordAt b 18)) (clamp 200 5000 (wordAt b 20))
  | .dispenser =>
    let acap := clamp 1 15 (byteAt b 20)
    .dispenser (clamp 200 5000 (wordAt b 18)) acap (clamp 0 acap (byteAt b 21)) (clamp 0 600 (wordAt b 22))
  | .zone => .zone (clamp 1 255 (byteAt b 18)) (clamp 1 3 (byteAt b 19))
  | .goal =>
    .goal (readCredit b)
      ⟨clamp 0 15 (byteAt b 21), clamp 0 15 (byteAt b 22), clamp 0 15 (byteAt b 23), clamp 0 15 (byteAt b 24)⟩
      (clamp 0 30 (byteAt b 25)) (clamp 5 100 (byteAt b 26))

/-- The test of a link test code of 1–4. -/
def readTest (code side : Nat) : Option LinkTest :=
  match code with
  | 1 => some .ownerMine
  | 2 => some (.ownerSide (clampSide side))
  | 3 => some .peerFree
  | 4 => some .sideHolds
  | _ => none

/-- The link of a fixture: none for code 0, and none for one that R192 makes its fixture DEAD for. -/
def readLink (b : List Byte) : Option Link :=
  match stationRef (byteAt b 11), readTest (byteAt b 10) (byteAt b 13) with
  | some n, some t => some ⟨n, fixtureRef (byteAt b 12), t⟩
  | _, _ => none

/-- R192: a link test of 1–4 whose station is 0 or above 31, or a link test above 4 (log entry 9). -/
def badLink (b : List Byte) : Bool := byteAt b 10 != 0 && (readLink b).isNone

/-- Table 11-3, all but the lamp unit's settling. -/
def readFixture (k : Kind) (b : List Byte) : FixtureConfig :=
  { params := readParams k b
    port := portRef (byteAt b 2)
    liveMask := BitVec.ofNat 4 (byteAt b 3 / 2)
    sideSet := BitVec.ofNat 4 (byteAt b 4)
    range := if (byteAt b 5).testBit 0 then some ⟨clamp 1 63 (byteAt b 6), clamp 1 63 (byteAt b 7)⟩ else none
    digits := if (byteAt b 5).testBit 1 then some ⟨byteAt b 8 % 64, byteAt b 9 % 64⟩ else none
    link := readLink b
    lamp := unitRef (byteAt b 14)
    runner := if byteAt b 15 = 0 then .A else .B
    firstList := listRef (byteAt b 16)
    secondList := if k.claimable then listRef (byteAt b 17) else none }

/-- The lower-numbered fixtures. -/
def below (f : FixtureNo) : List FixtureNo := fixtureNumbers.filter fun g => g.val < f.val

/-- R192: the faults of a fixture's own record that make it DEAD. -/
def deadByRecord (c : FixtureConfig) (b : List Byte) : Bool :=
  badLink b ||
    match c.params with
    | .gate _ _ | .zone _ _ => c.port.isNone
    | .dispenser _ _ _ _ => c.port.isNone || c.firstList.isNone
    | .goal credit _ _ _ =>
      match credit with
      | none => true
      | some (.fixed _) => false
      | some (.zone _ _) | some .lastSeen => c.port.isNone

/-- R3: a claimable fixture on a port that a lower-numbered GATE or DISPENSER names. -/
def laterOnPort (configs : Vector (Option FixtureConfig) 8) (f : FixtureNo) (c : FixtureConfig) : Bool :=
  c.kind.claimable && c.port.isSome &&
    (below f).any fun g =>
      match configs[g] with
      | some d => d.kind.claimable && d.port == c.port
      | none => false

/-- R192: a GOAL with no input routed PIECE to it. -/
def withoutInput (inputs : Vector Input 12) (f : FixtureNo) (c : FixtureConfig) : Bool :=
  c.kind == .goal && !(inputNumbers.any fun i => inputs[i].route == .piece f)

/-- R20: the lamp unit that is kept: one bound LAMP that no lower-numbered fixture has kept. -/
def keptLamp (configs : Vector (Option FixtureConfig) 8) (units : Vector PulseUnit 8) (f : FixtureNo)
    (c : FixtureConfig) : Option UnitNo :=
  match c.lamp with
  | none => none
  | some u =>
    if units[u].binding = .lamp ∧ !((below f).any fun g => (configs[g].bind FixtureConfig.lamp) == some u) then some u
    else none

/-- R21, Table 1-12: a configured fixture at the end of the load: DORMANT or DEAD, with its start-up values. -/
def Fixture.loaded (c : FixtureConfig) (dead : Bool) : Fixture :=
  { config := some c
    state := if dead then .dead else .dormant
    claims := { Claims.start with
      allowance := match c.params with
        | .dispenser _ _ initial _ => PerSide.all initial
        | .gate _ _ | .zone _ _ | .goal _ _ _ _ => PerSide.all 0 }
    control := Control.start
    scoring := Scoring.start
    transient := none
    transientLeft := 0
    indicator := if dead then .dead else .dormant }

/-- What a script configures. -/
structure Script where
  settings : Settings
  sideTable : Vector Side 64
  periods : PerPhase
  fixtures : Vector Fixture 8
  store : Vector Step 64
  patterns : Vector LampPattern 16
  pairs : Vector Pair 4
  units : Vector PulseUnit 8
  inputs : Vector Input 12
  deriving DecidableEq, Repr

/-- R191–R193: a good script's records, clamped, settled and defaulted. -/
def readScript (records : List Record) : Script :=
  let bodies : Vector (Option (Kind × List Byte)) 8 := Vector.ofFn fun i => fixtureRecord records i
  let configs : Vector (Option FixtureConfig) 8 := Vector.ofFn fun i => bodies[i].map fun x => readFixture x.1 x.2
  let pairs := readPairs (unitsRecord records)
  let units := readUnits (unitsRecord records) pairs
  let inputs := readInputs (inputsRecord records) fun f =>
    match configs[f] with
    | some c => c.kind == .goal
    | none => false
  let fixtures : Vector Fixture 8 := Vector.ofFn fun i =>
    match configs[i], bodies[i] with
    | some c, some (_, b) =>
      Fixture.loaded { c with lamp := keptLamp configs units i c }
        (deadByRecord c b || laterOnPort configs i c || withoutInput inputs i c)
    | _, _ => Fixture.absent
  { settings := readSettings ((settingsRecord records).getD [])
    sideTable := readSides (sidesRecord records)
    periods := readPeriods ((periodsRecord records).getD [])
    fixtures := fixtures
    store := readStore records
    patterns := readPatterns (patternsRecord records)
    pairs := pairs
    units := units
    inputs := inputs }

end Sys2Proof.Machine
end

