-- ==== Sys2Proof/Machine/StartUp.lean ====
section
/-! DEFINITION. Machine/StartUp.lean: reset and the end of the load (R187, R194, R195): the meanings of RESET,
RESET_ASSERTED and LOAD_END. -/

namespace Sys2Proof.Machine

/-! ## Reset (R187) -/

/-- Every block at its start-up state. The commands still waiting and the levels at the beacon pins are the outside's
and stand. -/
def State.restart (s : State) (loader : Loader) : State :=
  { State.reset with
    loader := loader
    ports := Vector.ofFn fun i => { Port.start with active := s.ports[i].active }
    pending := s.pending }

/-- R187: the station number that the straps give; STRAP0 is the least significant digit. -/
def strapNumber (straps : BitVec 5) : StationNo := ⟨straps.toNat, straps.isLt⟩

/-- RESET (R187): the straps are read once, and the loader enters LOADING, where it reads the serial memory. -/
def execReset (straps : BitVec 5) (s : State) : Host.Outcome State Fault Refusal :=
  .next (s.restart ⟨.loading, straps, strapNumber straps, true⟩)

/-- RESET_ASSERTED (R187): while RESET is held active the station drives nothing and takes nothing. R187 gives the blocks'
start-up state for LOADING and the straps' reading at the release alone: that the blocks hold that state already while
RESET is held, and that the strap register and the station number keep their former values until the release, is the
model's choice (log entry 5). -/
def execResetAsserted (s : State) : Host.Outcome State Fault Refusal :=
  .next (s.restart { s.loader with load := .held, spiSelected := false })

/-! ## The end of the load -/

/-- R86: a decoder begins in HUNT if its port is inactive, or in WAIT_IDLE if it is active. That it begins with no bits is
the model's choice (log entry 5): the manual gives none, and the header space's end clears them; so is an elapsed time of
0, since beacon pins are not timed during the load. -/
def Port.begin (p : Port) : Port :=
  { Port.start with active := p.active, decoder := if p.active then .waitIdle else .hunt }

/-- R186: the receiver is in SKIP, and the idle time counts from the end of the load, or from the line's return to
recessive. -/
def Line.begin (dominant : Nat) : Line := Line.start.fallen dominant

/-- R194: every block takes its configuration and its start-up values together. -/
def State.configure (s : State) (script : Script) (dominant : Nat) : State :=
  { loader := { s.loader with load := .ready, spiSelected := false }
    settings := script.settings
    now := 0
    engine := ⟨script.fixtures, [], PerSide.all 0, script.sideTable⟩
    ports := Vector.ofFn fun i => s.ports[i].begin
    clock := { Clock.start with periods := script.periods, ends := boundaries script.periods }
    picture := Picture.start
    inputs := ⟨script.inputs, 0, 0⟩
    runners := { Runners.start with store := script.store }
    pulse := ⟨script.units, script.pairs, script.patterns, false⟩
    line := Line.begin dominant
    pending := s.pending }

/-- R167: each fixture hands its indicator state to the lamp unit it keeps. -/
def showIndicators (s : State) : State :=
  fixtureNumbers.foldl (fun s f => s.handOver f (s.fixture f).indicator) s

/-- R194: a good load. The lamps show DORMANT or DEAD, the inputs take their first sample (R135), the first CHANGE
request is raised (R123), and what the first samples bring then acts. -/
def loadReady (script : Script) (pins : LoadPins) (s : State) : State :=
  takeLatches (sampleRecords (showIndicators (s.configure script pins.dominant)) pins.inputs Input.firstSample).raiseChange

/-- R195: an unusable script leaves every block at its start-up state, and the line controller runs (R186). -/
def loadUnconfigured (dominant : Nat) (s : State) : State :=
  { s.restart { s.loader with load := .unconfigured, spiSelected := false } with line := Line.begin dominant }

/-- LOAD_END (R190): the script image is judged whole. It comes only while LOADING (log entry 3). -/
def execLoadEnd (miso : List Bool) (pins : LoadPins) (s : State) : Host.Outcome State Fault Refusal :=
  if s.loader.load = .loading then
    match judgeScript (scriptImage miso) with
    | .good records => .next (loadReady (readScript records) pins s)
    | .unusable _ => .next (loadUnconfigured pins.dominant s)
  else .next s

end Sys2Proof.Machine
end

