-- ==== Sys2Proof/Machine/Transmit.lean ====
section
/-! DEFINITION. Machine/Transmit.lean: the sending side of the arena line (R100, R101, R112, R117, R177–R181): the
meanings of ATTEMPT_BEGIN, ATTEMPT_SUCCESS and ATTEMPT_ABORT. -/

namespace Sys2Proof.Machine

/-! ## The head (R177) -/

/-- What the line controller may send next. -/
inductive Head where
  | command (c : Command)
  | event (e : Event)
  | status
  deriving DecidableEq, Repr

/-- Table 10-7. -/
def Head.cls (h : Head) (r : Option Request) : Nat :=
  match h with
  | .command _ => 0
  | .event _ => 1
  | .status =>
    match r with
    | some ⟨.periodic, _⟩ => 2
    | some ⟨.change, _⟩ | none => 1

def QueuedFrame.command? (q : QueuedFrame) : Option Command :=
  match q.body with
  | .command c => some c
  | .event _ => none

def QueuedFrame.event? (q : QueuedFrame) : Option (Event × Nat) :=
  match q.body with
  | .event e => some (e, q.age)
  | .command _ => none

/-- R177: the pending status request, if it is eligible. -/
def State.eligibleRequest (s : State) : Option Request := s.picture.request.filter fun r => r.eligible s.now

/-- R177: the head, by class and then by age. The queue is in the order joined, so its oldest frame of a class is its
first; at equal ages a status request goes before an EVENT frame. -/
def State.head (s : State) : Option Head :=
  match s.line.queue.findSome? QueuedFrame.command? with
  | some c => some (.command c)
  | none =>
    match s.line.queue.findSome? QueuedFrame.event?, s.eligibleRequest with
    | some (e, _), none => some (.event e)
    | none, some _ => some .status
    | some (e, age), some ⟨.change, t⟩ => if t ≤ age then some .status else some (.event e)
    | some (e, _), some ⟨.periodic, _⟩ => some (.event e)
    | none, none => none

/-! ## Hold-off (R178, R179) -/

/-- R178: the station's slot, from the sender it last heard. -/
def slot (station last : StationNo) : Nat := (station.val + 32 - last.val + 31) % 32

/-- R178, Table 10-8: the hold-off in bit times. -/
def holdOffBits (cls slot : Nat) : Nat := 10 + 64 * cls + 2 * slot

/-- R179: the time from an idle time to the next moment at which it equals the hold-off, or the hold-off plus a whole
multiple of 200 bit times. -/
def momentWait (idle bits : Nat) : Nat :=
  let h := bits * Config.bitTime
  let round := Config.roundBits * Config.bitTime
  if idle ≤ h then h - idle else (round - (idle - h) % round) % round

/-- R179: the time to the moment of the head; no attempt begins at station 0 (R185), while MUTED (R184), within a frame
or an attempt, or without a head. -/
def attemptWait (s : State) : Option Nat :=
  if s.running && s.loader.station != 0 && s.line.muted.isNone && s.line.isIdle then
    s.head.map fun h =>
      s.line.busy + momentWait s.line.idle (holdOffBits (h.cls s.picture.request) (slot s.loader.station s.line.lastSender))
  else none

/-! ## Beginning an attempt (R100, R117, R179) -/

/-- R100: a HALT frame is not checked; a RESUME counts as not accepted while a level HALT input is active. -/
def State.passesHead (s : State) (c : Command) : Bool :=
  c == .halt || (c.accepted s.clock.phase && !(c == .resume && s.haltInput))

/-- The queue without the MATCH frames, oldest first, that are removed unsent before one passes the check (R100, R179). -/
def dropRefused (ok : Command → Bool) (queue : List QueuedFrame) : List QueuedFrame :=
  match queue with
  | [] => []
  | q :: rest =>
    match q.body with
    | .event _ => q :: dropRefused ok rest
    | .command c => if ok c then q :: rest else dropRefused ok rest

/-- The first frame of the queue that `is` marks is being sent. -/
def markSending (is : FrameBody → Bool) (queue : List QueuedFrame) : List QueuedFrame :=
  match queue with
  | [] => []
  | q :: rest => if is q.body then { q with sending := true } :: rest else q :: markSending is rest

/-- An attempt begins with the start bit of SYNC. The station's own receiver, in HUNT after so long a silence, is within
the frame once SYNC has been sent (R174, R179, Line.hearOwn). -/
def beginAttempt (s : State) (item : Item) (bytes : List Byte) : State :=
  { s with line := { s.line.fallen 0 with
      attempt := some ⟨item, bytes, Config.characterTime * bytes.length⟩
      receiver := .hunt
      received := [] } }

/-- R117: a status transmission begins: the snapshot is taken, the status timer set to 0, the moment noted, and the
request taken out as the request in flight. -/
def beginStatus (s : State) (r : Request) : State :=
  let bytes := frameBytes .status s.loader.station.val 0 (statusPayload s.snapshot)
  beginAttempt { s with picture := { s.picture with
    request := none
    inFlight := some ⟨r, s.picture.eventsLost, false⟩
    statusTimer := 0
    statusRaised := false
    lastStatus := some s.now } } .status bytes

/-- R172: a MATCH frame carries the match tick at the moment its transmission begins. -/
def beginCommand (s : State) (c : Command) : State :=
  beginAttempt { s with line := { s.line with queue := markSending (· == .command c) s.line.queue } } (.command c)
    (frameBytes .command s.loader.station.val 0 (commandPayload c s.clock.tick))

def beginEvent (s : State) (e : Event) : State :=
  beginAttempt { s with line := { s.line with queue := markSending (· == .event e) s.line.queue } } .event
    (frameBytes .event s.loader.station.val e.seq.val (eventPayload e))

/-- The attempt to send a head that has passed its check. -/
def beginHead (s : State) (h : Head) : State :=
  match h with
  | .command c => beginCommand s c
  | .event e => beginEvent s e
  | .status =>
    match s.picture.request with
    | some r => beginStatus s r
    | none => s

/-- R179: at its moment the head is checked. A MATCH frame that the phase would not accept is removed unsent and the
head chosen again: one of class 0 begins at once, one of a higher class at its own later moment. -/
def checkHead (s : State) : State :=
  match s.head with
  | none => s
  | some (.command c) =>
    if s.passesHead c then beginCommand s c
    else
      let s1 := { s with line := { s.line with queue := dropRefused s.passesHead s.line.queue } }
      match s1.head with
      | some (.command c') => beginCommand s1 c'
      | some (.event _) | some .status | none => s1
  | some (.event e) => beginHead s (.event e)
  | some .status => beginHead s .status

/-- ATTEMPT_BEGIN (R179): it comes only on a line that is still idle at the moment (log entry 4). -/
def execAttemptBegin (s : State) : Host.Outcome State Fault Refusal := onExpiry attemptWait checkHead s

/-! ## The end of an attempt (R180, R181) -/

/-- R117, R122: a status has been sent successfully: the request in flight is gone, and EVENTS_LOST is cleared if the
snapshot carried it and it has not been set again since. -/
def Picture.statusSent (p : Picture) : Picture :=
  match p.inFlight with
  | some x => { p with inFlight := none, eventsLost := p.eventsLost && !(x.carriedLost && !x.lostAgain) }
  | none => p

def attemptLeft (s : State) : Option Nat := s.line.attempt.map Attempt.left

/-- R181: the frame leaves the queue, the aborted-attempt count becomes 0, the last sender the own number, and the frame
is delivered to the station's own blocks. Its own receiver completes the same frame at that moment. -/
def succeed (s : State) : State :=
  match s.line.attempt with
  | none => s
  | some a =>
    let s1 : State := { s with
      line := { s.line with
        queue := s.line.queue.filter fun q => !q.sending
        attempt := none
        aborts := 0
        lastSender := s.loader.station
        receiver := .skip
        received := []
        busy := 0
        standing := .recessive
        idle := 0 }
      picture := if a.item = .status then s.picture.statusSent else s.picture }
    match a.item with
    | .command c => takeCommand s1 c
    | .event | .status => s1

/-- ATTEMPT_SUCCESS (R181). -/
def execAttemptSuccess (s : State) : Host.Outcome State Fault Refusal := onExpiry attemptLeft succeed s

/-- R117: the merged class: CHANGE if either was CHANGE. -/
def RequestClass.merge (x y : RequestClass) : RequestClass :=
  match x, y with
  | .periodic, .periodic => .periodic
  | .change, _ | _, .change => .change

/-- R117: a restored or merged request. A CHANGE is eligible 50 ms after the aborted attempt began, or at once if that
moment has passed; a PERIODIC one keeps the moment it was raised. -/
def Picture.putBack (p : Picture) (now : Nat) : Picture :=
  match p.inFlight with
  | none => p
  | some x =>
    let cls := match p.request with
      | some r => x.request.cls.merge r.cls
      | none => x.request.cls
    let time := match cls with
      | .change => max now p.spacingEnd
      | .periodic => x.request.time
    { p with inFlight := none, request := some ⟨cls, time⟩ }

/-- What stands on the line at an abort. A mismatch in a start bit can only be the fault in which the line reads
recessive, so no character has begun: the line is quiet. Its next idle time, for which the station waits, counts from the
end of the last character sent (R178), and where SYNC itself had not begun, from the abort, with which the station leaves
the line recessive (log entry 33). In any other bit the character in progress goes on: against a recessive bit of the
station's own another device drives it, dominant in the rest of that bit; against a dominant one the line reads
recessive and nobody does (R169, R178, R180). -/
def Line.leaveAttempt (l : Line) (a : Attempt) : Line :=
  let inCharacter := a.elapsed % Config.characterTime
  if inCharacter < Config.bitTime then
    { l with
      attempt := none
      busy := 0
      standing := if a.sent = 0 then .released else .recessive
      idle := if a.sent = 0 then 0 else inCharacter }
  else
    { l with
      attempt := none
      busy := Config.characterTime - inCharacter
      standing := if a.bit then .character (Config.bitTime - a.elapsed % Config.bitTime) else .undriven
      idle := 0 }

/-- R180: the attempt is aborted; the 16th consecutive abort mutes the station. The receiver never stopped listening: it
is in HUNT before the end of SYNC, and within the frame with the characters heard so far after it (Line.hearOwn). -/
def abortAttempt (s : State) : State :=
  match s.line.attempt with
  | none => s
  | some a =>
    let s1 : State := { s with
      line := { s.line.leaveAttempt a with
        queue := s.line.queue.map fun q => { q with sending := false }
        aborts := s.line.aborts + 1 }
      picture := if a.item = .status then s.picture.putBack s.now else s.picture }
    if Config.abortLimit ≤ s1.line.aborts then enterMuted s1 .collisions else s1

/-- R180: the time to the first read-back of an attempt that is not sooner than `dt`. Each bit is read back at the middle
of its time; after the last stop bit's nothing is read back any more. -/
def Attempt.readBack (a : Attempt) (dt : Nat) : Option Nat :=
  let middle := Config.bitTime / 2
  let late := (a.elapsed + dt + middle) % Config.bitTime
  let d := if late = 0 then dt else dt + (Config.bitTime - late)
  if a.elapsed + d < Config.characterTime * a.bytes.length then some d else none

/-- ATTEMPT_ABORT (R180): the mismatch is read at the first read-back from `dt` on (log entry 33); without one the command
is no occurrence (log entry 3). -/
def execAttemptAbort (dt : Nat) (s : State) : Host.Outcome State Fault Refusal :=
  match s.line.attempt.bind fun a => a.readBack dt with
  | some d => .next (abortAttempt (s.advance d))
  | none => .next (s.advance dt)

end Sys2Proof.Machine
end

