-- ==== Sys2Proof/Machine/Dispatch.lean ====
section
/-! DEFINITION. Machine/Dispatch.lean: exec, one arm per command. -/

namespace Sys2Proof.Machine

def exec (i : Instr) (s : State) : Host.Outcome State Fault Refusal :=
  match i with
  | .reset straps => Sys2Proof.Machine.execReset straps s
  | .loadEnd miso pins => Sys2Proof.Machine.execLoadEnd miso pins s
  | .sighting dt port robot intent => Sys2Proof.Machine.execSighting dt port robot intent s
  | .holdOffExpiry robot fixture => Sys2Proof.Machine.execHoldOffExpiry robot fixture s
  | .sightExpiry port robot => Sys2Proof.Machine.execSightExpiry port robot s
  | .lost fixture => Sys2Proof.Machine.execLost fixture s
  | .queuedLost fixture robot => Sys2Proof.Machine.execQueuedLost fixture robot s
  | .overstay fixture => Sys2Proof.Machine.execOverstay fixture s
  | .countedTick => Sys2Proof.Machine.execCountedTick s
  | .refill fixture => Sys2Proof.Machine.execRefill fixture s
  | .periodEnd => Sys2Proof.Machine.execPeriodEnd s
  | .graceEnd fixture => Sys2Proof.Machine.execGraceEnd fixture s
  | .jam fixture => Sys2Proof.Machine.execJam fixture s
  | .unjam fixture => Sys2Proof.Machine.execUnjam fixture s
  | .transientEnd fixture => Sys2Proof.Machine.execTransientEnd fixture s
  | .inputSample pins => Sys2Proof.Machine.execInputSample pins s
  | .start dt => Sys2Proof.Machine.execStart dt s
  | .halt dt => Sys2Proof.Machine.execHalt dt s
  | .resume dt => Sys2Proof.Machine.execResume dt s
  | .clear dt => Sys2Proof.Machine.execClear dt s
  | .statusReceived dt frame => Sys2Proof.Machine.execStatusReceived dt frame s
  | .eventFrameReceived dt frame => Sys2Proof.Machine.execEventFrameReceived dt frame s
  | .frameDiscard dt frame => Sys2Proof.Machine.execFrameDiscard dt frame s
  | .frameAbandon dt cause => Sys2Proof.Machine.execFrameAbandon dt cause s
  | .statusTimerExpiry => Sys2Proof.Machine.execStatusTimerExpiry s
  | .changeEligible => Sys2Proof.Machine.execChangeEligible s
  | .attemptBegin => Sys2Proof.Machine.execAttemptBegin s
  | .attemptSuccess => Sys2Proof.Machine.execAttemptSuccess s
  | .attemptAbort dt => Sys2Proof.Machine.execAttemptAbort dt s
  | .muteTimerExpiry => Sys2Proof.Machine.execMuteTimerExpiry s
  | .patternPhaseEnd unit => Sys2Proof.Machine.execPatternPhaseEnd unit s
  | .delayEnd runner => Sys2Proof.Machine.execDelayEnd runner s
  | .lampPhaseEnd unit => Sys2Proof.Machine.execLampPhaseEnd unit s
  | .matchFrameReceived dt frame => Sys2Proof.Machine.execMatchFrameReceived dt frame s
  | .beaconLevelChange dt port active => Sys2Proof.Machine.execBeaconLevelChange dt port active s
  | .beaconWindowOverrun port => Sys2Proof.Machine.execBeaconWindowOverrun port s
  | .nonSyncCharacter dt line => Sys2Proof.Machine.execNonSyncCharacter dt line s
  | .receiverReturnToHunt => Sys2Proof.Machine.execReceiverReturnToHunt s
  | .resetAsserted => Sys2Proof.Machine.execResetAsserted s

end Sys2Proof.Machine
end

