-- ==== Sys2Proof/Safety.lean ====
section
/-! DEFINITION. Safety.lean: the properties of a state that the manual says always hold, each as one predicate, and the
configuration that it says nothing but a reset changes. -/

namespace Sys2Proof.Machine

/-! ## Lists and queues -/

/-- R17: at most 8 hold-off entries, and at most one for any robot and fixture. -/
def HoldOffsBounded (s : State) : Prop :=
  s.engine.holdOff.length ≤ 8 ∧
    s.engine.holdOff.Pairwise fun x y => ¬(x.robot = y.robot ∧ x.fixture = y.fixture)

/-- R80: at most 8 entries in each sight list, never a robot twice, each with the side table's side, none older than the
sight window. The window of a configured station is at least 100 ms (Table 11-4). -/
def SightsBounded (s : State) : Prop :=
  (s.ready = true → 100 ≤ s.settings.sightWindow) ∧
    ∀ p : PortNo, (s.ports[p]).sights.length ≤ 8 ∧
      ((s.ports[p]).sights.Pairwise fun x y => x.robot ≠ y.robot) ∧
      ∀ e ∈ (s.ports[p]).sights,
        e.robot ≠ 0 ∧ e.side = s.sideOf e.robot ∧ s.now ≤ (e.lastSeen + s.settings.sightWindow) * 1000

/-- R28, R140, R176: 4 robots in a wait queue, 4 starts behind a runner, 8 frames in the transmit queue. -/
def QueuesBounded (s : State) : Prop :=
  s.line.queue.length ≤ 8 ∧ s.runners.a.queue.length ≤ 4 ∧ s.runners.b.queue.length ≤ 4 ∧
    ∀ f : FixtureNo, (s.fixture f).claims.queue.length ≤ 4

/-! ## Fixtures -/

/-- R53, R52: a zone's level is at most its CMAX; with neither owner nor challenger it is 0; an owned zone has no
challenger. -/
def ZonesSound (s : State) : Prop :=
  ∀ f : FixtureNo,
    (∀ c cmax rate, (s.fixture f).config = some c → c.params = .zone cmax rate → (s.fixture f).control.level ≤ cmax) ∧
    ((s.fixture f).control.owner = 0 → (s.fixture f).control.challenger = 0 → (s.fixture f).control.level = 0) ∧
    ((s.fixture f).control.owner ≠ 0 → (s.fixture f).control.challenger = 0)

/-- R37: each side's allowance at a dispenser is at most that dispenser's ACAP, and so is A0. -/
def AllowancesSound (s : State) : Prop :=
  ∀ (f : FixtureNo) (c : FixtureConfig) (lost acap initial period : Nat),
    (s.fixture f).config = some c → c.params = .dispenser lost acap initial period →
      initial ≤ acap ∧ (s.fixture f).claims.allowance.one ≤ acap ∧ (s.fixture f).claims.allowance.two ≤ acap ∧
        (s.fixture f).claims.allowance.three ≤ acap ∧ (s.fixture f).claims.allowance.four ≤ acap

/-- R61, R90: match tick, side points and piece counts saturate at 65535. -/
def CountsSaturate (s : State) : Prop :=
  s.clock.tick ≤ 65535 ∧ s.engine.points.one ≤ 65535 ∧ s.engine.points.two ≤ 65535 ∧ s.engine.points.three ≤ 65535 ∧
    s.engine.points.four ≤ 65535 ∧ ∀ f : FixtureNo, (s.fixture f).scoring.pieces ≤ 65535

/-- The phase of the match: the phase, or while HALTED the one that stood before (R5, R93). -/
def Clock.matchPhase (c : Clock) : Phase := if c.phase = .halted then c.resume else c.phase

/-- R28, R5: of one GATE or DISPENSER: HELD exactly with a holder, and only in its live mask; no queue unless HELD, no
robot queued twice, the holder not queued; DORMANT only outside its live mask. -/
def ClaimSound (clock : Clock) (x : Fixture) (c : FixtureConfig) : Prop :=
  (x.state = .held ↔ x.claims.holder.isSome = true) ∧
    (x.state = .held → inMask c.liveMask clock.matchPhase = true) ∧
    (x.state ≠ .held → x.claims.queue = []) ∧
    (x.claims.queue.Pairwise fun v w => v.robot ≠ w.robot) ∧
    (∀ h, x.claims.holder = some h → ∀ w ∈ x.claims.queue, w.robot ≠ h.robot) ∧
    (x.state = .dormant → inMask c.liveMask clock.phase = false) ∧
    (x.state = .dead ∨ x.state = .dormant ∨ x.state = .free ∨ x.state = .held)

def ClaimsSound (s : State) : Prop :=
  ∀ (f : FixtureNo) (c : FixtureConfig), (s.fixture f).config = some c → c.kind.claimable = true →
    ClaimSound s.clock (s.fixture f) c

/-- A fixture is a GATE. -/
def State.isGate (s : State) (f : FixtureNo) : Prop := (s.fixture f).kind? = some .gate

/-- R25: with single hold set, no robot is holder of two of the station's GATE fixtures. -/
def SingleHold (s : State) : Prop :=
  s.settings.singleHold = true → ∀ f g : FixtureNo, f ≠ g → s.isGate f → s.isGate g →
    ∀ h k, (s.fixture f).claims.holder = some h → (s.fixture g).claims.holder = some k → h.robot ≠ k.robot

/-! ## Phase, runners and pulse units -/

/-- R162, R163, R150: the safe state stands exactly while HALTED, and then both runners are IDLE with empty queues and no
unit has a pattern; a unit has a pattern exactly when it has a driver (R147, R156). -/
def HaltSound (s : State) : Prop :=
  (s.pulse.safe = true ↔ s.clock.phase = .halted) ∧
    (s.clock.phase = .halted → s.runners.a = Runner.start ∧ s.runners.b = Runner.start ∧
      ∀ u : UnitNo, s.pulse.units[u].pattern = none) ∧
    ∀ u : UnitNo, s.pulse.units[u].pattern.isSome = s.pulse.units[u].driver.isSome

/-- Table 5-1: the resume phase is never HALTED. -/
def ResumeSound (s : State) : Prop := s.clock.resume ≠ .halted

/-! ## Line controller and field picture -/

/-- R183, R184: while MUTED the transmit queue is empty and no attempt is under way; fewer than 16 aborts are counted. -/
def MuteSound (s : State) : Prop :=
  (s.line.muted.isSome = true → s.line.queue = [] ∧ s.line.attempt = none) ∧ s.line.aborts < 16

/-- R185, R118, R121: what station 0 never has. -/
def StationZeroSilent (s : State) : Prop :=
  s.loader.station = 0 → s.line.queue = [] ∧ s.line.attempt = none ∧ s.line.muted = none ∧ s.picture.request = none ∧
    s.picture.inFlight = none ∧ s.picture.eventSeq = 0 ∧ s.picture.eventsLost = false

/-- R195: what an UNCONFIGURED station holds: no fixtures, its match clock not run, empty sight lists, unconfigured
inputs, idle runners, dark outputs, no queued frame, no event, and no request but a PERIODIC one. -/
def UnconfiguredInert (s : State) : Prop :=
  s.loader.load = .unconfigured →
    s.engine = Engine.start ∧ s.clock = Clock.start ∧ (∀ p : PortNo, (s.ports[p]).sights = []) ∧
      s.inputs = Inputs.start ∧ s.runners = Runners.start ∧ (∀ u : UnitNo, s.pulse.output u = false) ∧
      s.pulse.safe = false ∧ (∀ u : UnitNo, s.pulse.units[u].binding = .off ∧ s.pulse.units[u].pattern = none) ∧
      (∀ p : PairNo, s.pulse.pairs[p].mode = .single) ∧
      s.line.queue = [] ∧ s.picture.eventSeq = 0 ∧ s.picture.eventsLost = false ∧
      (∀ r, s.picture.request = some r → r.cls = .periodic) ∧
      (∀ x, s.picture.inFlight = some x → x.request.cls = .periodic)

/-! ## Blocks at start-up, and what a release leaves -/

/-- R187: every block at its start-up state: fixtures absent, sight lists empty, peer rows not heard, event sequence 0,
transmit queue empty, last sender 0, not muted, runners IDLE, no safe state, outputs low, LINE_DE disabled. The values
the manual leaves open there are log entry 5's. -/
def StartUp (s : State) : Prop :=
  s.settings = Settings.start ∧ s.now = 0 ∧ s.engine = Engine.start ∧
    (∀ p : PortNo, s.ports[p] = { Port.start with active := (s.ports[p]).active }) ∧
    s.clock = Clock.start ∧ s.picture = Picture.start ∧ s.inputs = Inputs.start ∧ s.runners = Runners.start ∧
    s.line = Line.start ∧ s.line.driverEnabled = false ∧ s.pulse = Pulse.start ∧
    ∀ u : UnitNo, s.pulse.output u = false

/-- The rest of the part as it was: everything but fixture f, the hold-off list, the field picture and the line. -/
def RestAs (u t : State) (f : FixtureNo) : Prop :=
  (∀ g, g ≠ f → t.fixture g = u.fixture g) ∧ t.engine.points = u.engine.points ∧
    t.engine.sideTable = u.engine.sideTable ∧ t.loader = u.loader ∧ t.settings = u.settings ∧ t.now = u.now ∧
    t.clock = u.clock ∧ t.inputs = u.inputs ∧ t.runners = u.runners ∧ t.pending = u.pending

/-- What the outside gave and the match leaves as it is: the load, the settings, the running time, the beacon ports with
their sight lists, the inputs, the side table, and the commands still waiting. -/
def OutsideAs (u t : State) : Prop :=
  t.loader = u.loader ∧ t.settings = u.settings ∧ t.now = u.now ∧ t.ports = u.ports ∧ t.inputs = u.inputs ∧
    t.engine.sideTable = u.engine.sideTable ∧ t.pending = u.pending

/-- R34, R35: a GATE's hold, released in u with nobody waiting and no on-release list, as t shows it: FREE with no
holder, the RELEASE event and then the CHANGE request, and a hold-off entry where the cause calls for one. -/
def ReleasedInto (u t : State) (f : FixtureNo) (h : Holder) (cause : ReleaseCause) : Prop :=
  (t.fixture f).state = .free ∧ (t.fixture f).claims.holder = none ∧ (t.fixture f).claims.queue = [] ∧
    (t.fixture f).indicator = indicatorOf t.clock.phase (t.fixture f) ∧
    t.line = (u.createEvent (.release cause) (some f) h.robot h.side 0).line ∧
    t.picture = ((u.createEvent (.release cause) (some f) h.robot h.side 0).raiseChange).picture ∧
    t.engine.holdOff = (if cause.makesEntry then (u.makeHoldOff h.robot f).engine.holdOff else u.engine.holdOff) ∧
    RestAs u t f

/-! ## The checks of a claim -/

/-- Table 2-1, checks 3 to 9: the check whose failure gives a refusal this reason fails for robot r at fixture f. -/
def failsCheck (s : State) (f : FixtureNo) (c : FixtureConfig) (r : Robot) (reason : Reason) : Bool :=
  match reason with
  | .phase => !inMask c.liveMask s.clock.phase
  | .side => !c.sideTest (s.sideOf r)
  | .window => !c.windowTest r
  | .link => c.link.any fun l => !s.linkMet l (s.sideOf r)
  | .elsewhere => c.kind == .gate && s.settings.singleHold && s.holdsElsewhere f r
  | .allowance => c.kind == .dispenser && (s.fixture f).claims.allowance.get (s.sideOf r) == 0
  | .full => (s.fixture f).state == .held && 4 ≤ (s.fixture f).claims.queue.length

/-- The first of the checks 3 to 9, in the order of Table 2-1 and Table 1-9, that fails. -/
def firstFailure (s : State) (f : FixtureNo) (c : FixtureConfig) (r : Robot) : Option Reason :=
  [Reason.phase, .side, .window, .link, .elsewhere, .allowance, .full].find? (failsCheck s f c r)

/-! ## What a start, a grant and a release come to

Each is written from its rules, apart from the meanings, and answers `none` where it goes on into steps that it does not
follow: a step error, a step that does not wait for its pattern, or a DISPENSER's grant whose start is dropped. -/

/-- R142, R144, R147: the list that an idle runner begins, up to its first step: a delay, a unit that is free, or the wait
for one that is not. -/
def listBegun (u : State) (r : RunnerId) (t : Start) (queue : List Start) : Option State :=
  let step := u.runners.store[t.list]
  let playing (m : RunnerMode) (v : State) : State := v.setRunner r ⟨m, some ⟨t, t.list⟩, queue⟩
  match step.unit with
  | none => some (playing (.delay (step.count * ((step.high + 1) + (step.low + 1)) * step.clock.time)) u)
  | some unit =>
    if u.pulse.stepError step then none
    else if (u.pulse.units[unit]).driver ≠ none then some (playing (.waitingUnit unit) u)
    else if step.goOn then none
    else some (playing (.holding unit) { u with pulse := u.pulse.drive unit r step })

/-- R146 step 2: a runner whose list has ended takes up its oldest start, or is IDLE. -/
def nextTaken (u : State) (r : RunnerId) : Option State :=
  match (u.runner r).queue with
  | [] => some (u.setRunner r Runner.start)
  | t :: rest => listBegun u r t rest

/-- R141, R152: a start is dropped while HALTED, queued behind a busy runner with room, lost at a full one with FAULT
ACTION_OVERFLOW, and begun at an idle one. -/
def startTaken (u : State) (r : RunnerId) (t : Start) : Option State :=
  let x := u.runner r
  if u.clock.phase = .halted then some u
  else if x.mode = .idle then listBegun u r t x.queue
  else if x.queue.length < 4 then some (u.setRunner r { x with queue := x.queue ++ [t] })
  else some (u.createEvent (.fault .actionOverflow) (some t.fixture) 0 0 0)

/-- R34: a hold is released, any cause but PHASE. The holder is removed and an ABORTED dispense refunded, the on-release
list is handed over, RELEASE is sent and CHANGE raised, and the causes that call for it make a hold-off entry. -/
def holdReleased (u : State) (f : FixtureNo) (c : FixtureConfig) (h : Holder) (cause : ReleaseCause) : Option State :=
  let x := u.fixture f
  let a := x.claims.allowance
  let allowance := match c.params, cause with
    | .dispenser _ acap _ _, .aborted => a.set h.side (min acap (a.get h.side + 1))
    | _, _ => a
  let freed := u.setFixture f { x with
    state := .free, claims := { x.claims with holder := none, allowance := allowance } }
  let handed := match c.secondList with
    | none => some freed
    | some i => startTaken freed c.runner ⟨i, f, .release⟩
  handed.map fun v =>
    let sent := (v.createEvent (.release cause) (some f) h.robot h.side
      (if c.kind = .dispenser then allowance.get h.side else 0)).raiseChange
    if cause = .done ∨ cause = .lost ∨ cause = .overstay ∨ cause = .yield then sent.makeHoldOff h.robot f else sent

/-- R27, R35 step 4: a waiting robot becomes holder with the current tick as its stamp, the others keeping their order; a
DISPENSER takes one from its side's allowance; GRANT is sent and CHANGE raised; the on-grant list is handed over, and a
DISPENSER counts it in flight. -/
def waiterGranted (u : State) (f : FixtureNo) (c : FixtureConfig) (w : Waiter) (rest : List Waiter) : Option State :=
  let x := u.fixture f
  let a := x.claims.allowance
  let allowance := if c.kind = .dispenser then a.set w.side (a.get w.side - 1) else a
  let held := u.setFixture f { x with
    state := .held
    claims := { x.claims with
      holder := some ⟨w.robot, w.side, u.clock.tick, w.lastSeen, w.age, 0⟩, queue := rest, allowance := allowance } }
  let sent := ((held.createEvent .grant (some f) w.robot w.side
    (if c.kind = .dispenser then allowance.get w.side else 0)).raiseChange).refreshIndicator f
  match c.firstList with
  | none => some sent
  | some i =>
    let y := sent.runner c.runner
    if c.kind ≠ .dispenser then startTaken sent c.runner ⟨i, f, .grant⟩
    else if u.clock.phase ≠ .halted ∧ (y.mode = .idle ∨ y.queue.length < 4) then
      (startTaken sent c.runner ⟨i, f, .grant⟩).map fun v =>
        v.setClaims f { (v.fixture f).claims with inFlight := x.claims.inFlight + 1 }
    else none

/-- R35: promotion works through the wait queue from the head. A robot that fails one of checks 3 to 8 is dropped with a
hold-off entry, the first that passes is granted, and with none left the fixture is FREE. -/
def promoted (u : State) (f : FixtureNo) (c : FixtureConfig) (queue : List Waiter) : Option State :=
  match queue with
  | [] =>
    let x := u.fixture f
    some ((u.setFixture f { x with state := .free, claims := { x.claims with queue := [] } }).refreshIndicator f)
  | w :: rest =>
    if firstFailure u f c w.robot = none then waiterGranted u f c w rest
    else promoted (u.makeHoldOff w.robot f) f c rest

/-- R34, R35: a hold that ends for any cause but PHASE, to the end of promotion. -/
def holdEnded (u : State) (f : FixtureNo) (c : FixtureConfig) (h : Holder) (cause : ReleaseCause) : Option State :=
  (holdReleased u f c h cause).bind fun v => promoted v f c (u.fixture f).claims.queue

/-! ## The tables of claims, sight lists and zones -/

/-- Check 1 of Table 2-1: the pair has a hold-off entry that has not expired. -/
abbrev IsHeldOff (s : State) (f : FixtureNo) (r : Robot) : Prop :=
  ∃ e ∈ s.engine.holdOff, e.robot = r ∧ e.fixture = f ∧ s.now ≤ e.expiry * 1000

/-- Check 2 of Table 2-1: the robot is the fixture's holder, or in its wait queue. -/
abbrev IsPresentAt (s : State) (f : FixtureNo) (r : Robot) : Prop :=
  (s.fixture f).claims.holder.map Holder.robot = some r ∨ ∃ w ∈ (s.fixture f).claims.queue, w.robot = r

/-- R81, R82: a sighting's entry is the robot's only one; every other entry stays, but that a full list without the robot
loses the entry last seen longest ago, of the lowest robot among several. -/
def SightUpdated (old new : List Sight) (e : Sight) : Prop :=
  (∀ x, x.robot = e.robot → (x ∈ new ↔ x = e)) ∧
    ((∃ x ∈ old, x.robot = e.robot) ∨ old.length < 8 → ∀ x, x.robot ≠ e.robot → (x ∈ new ↔ x ∈ old)) ∧
    ((∀ x ∈ old, x.robot ≠ e.robot) → old.length = 8 →
      ∃ y ∈ old, (∀ x ∈ old, y.lastSeen < x.lastSeen ∨ (y.lastSeen = x.lastSeen ∧ y.robot ≤ x.robot)) ∧
        ∀ x, x.robot ≠ e.robot → (x ∈ new ↔ x ∈ old ∧ x ≠ y))

/-- Table 3-1: a zone's control before (z) and after (w) one zone tick, by the rates of the sides, a side being present
when its rate is not 0. -/
def ZoneTickTable (z w : Control) (cmax : Nat) (rates : PerSide) : Prop :=
  ((∃ m n : Side, m ≠ n ∧ rates.get m ≠ 0 ∧ rates.get n ≠ 0) → w = { z with contested := true }) ∧
    ((∀ n : Side, rates.get n = 0) → w.contested = false ∧ w.owner = z.owner ∧
      if z.owner = 0 then w.level = z.level - 1 ∧ w.challenger = (if w.level = 0 then 0 else z.challenger)
      else w.level = z.level ∧ w.challenger = z.challenger) ∧
    ∀ n : Side, rates.get n ≠ 0 → (∀ m : Side, m ≠ n → rates.get m = 0) → w.contested = false ∧
      if z.owner = 0 then
        if z.challenger = 0 ∨ z.challenger = n then
          w.level = min cmax (z.level + rates.get n) ∧
            (if w.level = cmax then w.owner = n ∧ w.challenger = 0 else w.owner = 0 ∧ w.challenger = n)
        else w.level = z.level - rates.get n ∧ w.owner = 0 ∧
          w.challenger = (if w.level = 0 then n else z.challenger)
      else if z.owner = n then
        w.level = min cmax (z.level + rates.get n) ∧ w.owner = z.owner ∧ w.challenger = z.challenger
      else w.level = z.level - rates.get n ∧
        (if w.level = 0 then w.owner = 0 ∧ w.challenger = n else w.owner = z.owner ∧ w.challenger = z.challenger)

/-- R180: `m`, counted from the attempt's beginning, is the first middle of a bit that is not sooner than `dt` from now. -/
abbrev ReadBackAt (a : Attempt) (dt m : Nat) : Prop :=
  40 * a.bytes.length - a.left + dt ≤ m ∧ m < 40 * a.bytes.length - a.left + dt + 4 ∧ m % 4 = 2

/-- R54, R55: what a zone tick that took a zone's control from z to w in u hands on: at an owner change the OWNER event
with the new owner as its side and the previous one as its value, and CHANGE at every change of owner or level. -/
def zoneHandsOn (u : State) (f : FixtureNo) (z w : Control) : State :=
  if w.owner ≠ z.owner then (u.createEvent .owner (some f) 0 w.owner z.owner.val).raiseChange
  else if w.level ≠ z.level then u.raiseChange
  else u

/-! ## Configuration -/

/-- What the straps and the script set (R194). -/
structure Configuration where
  loader : Loader
  settings : Settings
  fixtures : List (Option FixtureConfig)
  sideTable : Vector Side 64
  periods : PerPhase
  ends : PerPhase
  inputs : List (Polarity × InputMode × Route)
  store : Vector Step 64
  bindings : List (Binding × Vector PatternNo 11)
  pairs : List (PairMode × Nat × Nat × TickClock)
  patterns : Vector LampPattern 16
  deriving DecidableEq, Repr

/-- The configuration a state holds. -/
def State.configuration (s : State) : Configuration :=
  { loader := s.loader
    settings := s.settings
    fixtures := s.engine.fixtures.toList.map Fixture.config
    sideTable := s.engine.sideTable
    periods := s.clock.periods
    ends := s.clock.ends
    inputs := s.inputs.records.toList.map fun x => (x.polarity, x.mode, x.route)
    store := s.runners.store
    bindings := s.pulse.units.toList.map fun x => (x.binding, x.lamp.map)
    pairs := s.pulse.pairs.toList.map fun x => (x.mode, x.high, x.low, x.clock)
    patterns := s.pulse.patterns }

end Sys2Proof.Machine

namespace Sys2Proof

/-- The commands that begin, hold or end a load. -/
def Instr.reconfigures (c : Instr) : Bool :=
  match c with
  | .reset _ | .loadEnd _ _ | .resetAsserted => true
  | .sighting _ _ _ _ | .holdOffExpiry _ _ | .sightExpiry _ _ | .lost _ | .queuedLost _ _ | .overstay _ | .countedTick
  | .refill _ | .periodEnd | .graceEnd _ | .jam _ | .unjam _ | .transientEnd _ | .inputSample _ | .start _ | .halt _
  | .resume _ | .clear _ | .statusReceived _ _ | .eventFrameReceived _ _ | .frameDiscard _ _ | .frameAbandon _ _
  | .statusTimerExpiry | .changeEligible | .attemptBegin | .attemptSuccess | .attemptAbort _ | .muteTimerExpiry
  | .patternPhaseEnd _ | .delayEnd _ | .lampPhaseEnd _ | .matchFrameReceived _ _ | .beaconLevelChange _ _ _
  | .beaconWindowOverrun _ | .nonSyncCharacter _ _ | .receiverReturnToHunt => false

/-- The commands in which a change of phase can come about (R96): a match command, from any source, a counted tick that
meets its boundary, a status taken in, and the load. -/
def Instr.changesPhase (c : Instr) : Bool :=
  match c with
  | .reset _ | .loadEnd _ _ | .resetAsserted | .periodEnd | .inputSample _ | .start _ | .halt _ | .resume _ | .clear _
  | .statusReceived _ _ | .attemptSuccess | .matchFrameReceived _ _ => true
  | .sighting _ _ _ _ | .holdOffExpiry _ _ | .sightExpiry _ _ | .lost _ | .queuedLost _ _ | .overstay _ | .countedTick
  | .refill _ | .graceEnd _ | .jam _ | .unjam _ | .transientEnd _ | .eventFrameReceived _ _ | .frameDiscard _ _
  | .frameAbandon _ _ | .statusTimerExpiry | .changeEligible | .attemptBegin | .attemptAbort _ | .muteTimerExpiry
  | .patternPhaseEnd _ | .delayEnd _ | .lampPhaseEnd _ | .beaconLevelChange _ _ _ | .beaconWindowOverrun _
  | .nonSyncCharacter _ _ | .receiverReturnToHunt => false

/-- CLEAR is accepted: a configured station outside the running phases (R95, Table 5-3). -/
def clearAccepted (s : Machine.State) : Bool := s.ready && Machine.Command.accepted .clear s.clock.phase

/-- A CLEAR or a reset is applied by this command in this state: the two that may lower a side's points or a goal's
pieces (R61). A CLEAR comes from its own command, in another device's MATCH frame (R97), or delivered back once the
station has sent its own (R101). -/
def Instr.bringsClear (c : Instr) (s : Machine.State) : Bool :=
  match c with
  | .reset _ | .resetAsserted => true
  | .loadEnd _ _ => s.loader.load == .loading
  | .clear _ => clearAccepted s
  | .matchFrameReceived _ frame =>
    match Machine.judge frame with
    | .valid kind _ payload => kind == .command && Machine.payloadCommand payload == some .clear && clearAccepted s
    | .discarded | .incomplete => false
  | .attemptSuccess =>
    match s.line.attempt with
    | some a => a.item == .command .clear && clearAccepted s
    | none => false
  | .sighting _ _ _ _ | .holdOffExpiry _ _ | .sightExpiry _ _ | .lost _ | .queuedLost _ _ | .overstay _ | .countedTick
  | .refill _ | .periodEnd | .graceEnd _ | .jam _ | .unjam _ | .transientEnd _ | .inputSample _ | .start _ | .halt _
  | .resume _ | .statusReceived _ _ | .eventFrameReceived _ _ | .frameDiscard _ _ | .frameAbandon _ _
  | .statusTimerExpiry | .changeEligible | .attemptBegin | .attemptAbort _ | .muteTimerExpiry | .patternPhaseEnd _
  | .delayEnd _ | .lampPhaseEnd _ | .beaconLevelChange _ _ _ | .beaconWindowOverrun _ | .nonSyncCharacter _ _
  | .receiverReturnToHunt => false

end Sys2Proof
end

