-- ==== Sys2Proof/Certificates/Slice0/Obligations.lean ====
section
/-! DEFINITION. Certificates/Slice0/Obligations.lean: the statements for the provers. -/

open Sys2Proof Sys2Proof.Machine

/-! ## The machine -/

/-- A step takes the command at the front of the queue and runs exec on it with the queue's rest. -/
def Obligations.StepRunsTheFrontCommand : Prop :=
  ∀ (c : Instr) (rest : List Instr) (s : State), s.pending = c :: rest → step s = exec c { s with pending := rest }

/-- R187, R86, R106, R123, R135, R153, R167, R186: after reset every block stands at its start-up state in LOADING, and
every invariant stated below holds. Where the manual leaves a value open, it is log entry 5's. -/
def Obligations.ResetStateIsStartUp : Prop :=
  State.reset.loader.load = .loading ∧ StartUp State.reset ∧ HoldOffsBounded State.reset ∧ SightsBounded State.reset ∧
    QueuesBounded State.reset ∧ ZonesSound State.reset ∧ AllowancesSound State.reset ∧ CountsSaturate State.reset ∧
    ClaimsSound State.reset ∧ SingleHold State.reset ∧ HaltSound State.reset ∧ ResumeSound State.reset ∧
    MuteSound State.reset ∧ StationZeroSilent State.reset ∧ UnconfiguredInert State.reset

/-! ## What every step keeps -/

/-- R17: every step keeps the hold-off list within 8 entries, at most one for any robot and fixture. -/
def Obligations.HoldOffListStaysBounded : Prop :=
  ∀ s t : State, HoldOffsBounded s → step s = .next t → HoldOffsBounded t

/-- R80: every step keeps the sight lists within 8 entries, no robot twice, sides from the side table, none older than
the sight window. -/
def Obligations.SightListsStayBounded : Prop :=
  ∀ s t : State, SightsBounded s → step s = .next t → SightsBounded t

/-- R28, R140, R176: every step keeps wait queues, start queues and the transmit queue within their room. -/
def Obligations.QueuesStayBounded : Prop :=
  ∀ s t : State, QueuesBounded s → step s = .next t → QueuesBounded t

/-- R53: every step keeps each zone's level between 0 and its CMAX, and at 0 with neither owner nor challenger. -/
def Obligations.ZonesStaySound : Prop :=
  ∀ s t : State, ZonesSound s → step s = .next t → ZonesSound t

/-- R37: every step keeps each side's allowance at a dispenser within that dispenser's ACAP. -/
def Obligations.AllowancesStaySound : Prop :=
  ∀ s t : State, AllowancesSound s → step s = .next t → AllowancesSound t

/-- R61, R90: every step keeps the match tick, the side points and the piece counts at 65535 or less. -/
def Obligations.CountsStaySaturated : Prop :=
  ∀ s t : State, CountsSaturate s → step s = .next t → CountsSaturate t

/-- R28, R5: every step keeps a GATE or DISPENSER HELD exactly with a holder and only in its live mask, its queue empty
unless HELD and without repeats, its holder out of its own queue, and DORMANT outside its live mask. -/
def Obligations.ClaimsStaySound : Prop :=
  ∀ s t : State, ClaimsSound s → step s = .next t → ClaimsSound t

/-- R25: with single hold set, every step keeps each robot holder of at most one GATE of the station. -/
def Obligations.SingleHoldIsKept : Prop :=
  ∀ s t : State, SingleHold s → step s = .next t → SingleHold t

/-- R150, R162, R163: every step keeps the safe state standing exactly while HALTED, with both runners IDLE and no pattern
in progress there. -/
def Obligations.HaltStaysSafe : Prop :=
  ∀ s t : State, HaltSound s → step s = .next t → HaltSound t

/-- Table 5-1, R183, R184: every step keeps the resume phase other than HALTED, and a muted station without queued frame
or attempt. -/
def Obligations.ResumeAndMuteStaySound : Prop :=
  ∀ s t : State, ResumeSound s → MuteSound s → step s = .next t → ResumeSound t ∧ MuteSound t

/-- R185, R118, R121: every step keeps station 0 without queued frame, attempt, request, event or muting. -/
def Obligations.StationZeroStaysSilent : Prop :=
  ∀ s t : State, StationZeroSilent s → step s = .next t → StationZeroSilent t

/-- R195: every step keeps an UNCONFIGURED station inert. Its settings, periods and boundaries at 0, the modes and
polarities of its inputs and the modes of its pairs are log entry 5's, the manual giving none. -/
def Obligations.UnconfiguredStaysInert : Prop :=
  ∀ s t : State, UnconfiguredInert s → step s = .next t → UnconfiguredInert t

/-- R1, R8, R126, R138, R154: no command but those of a reset and a load changes the configuration. -/
def Obligations.ConfigurationStaysUntilReset : Prop :=
  ∀ (c : Instr) (s t : State), c.reconfigures = false → exec c s = .next t → t.configuration = s.configuration

/-- R88, R96, R107: no command but those in which R96 gives a notice, CLEAR and the load changes phase or resume phase, and
of the others only a counted tick changes the match tick. That COUNTED_TICK itself leaves the phase, which R90 moves at that
tick, is the model's split of R90 into COUNTED_TICK and PERIOD_END (log entry 11). -/
def Obligations.PhaseChangesOnlyAtItsCommands : Prop :=
  ∀ (c : Instr) (s t : State), c.changesPhase = false → exec c s = .next t →
    t.clock.phase = s.clock.phase ∧ t.clock.resume = s.clock.resume ∧
      (c ≠ .countedTick → t.clock.tick = s.clock.tick)

/-- R61: side points and piece counts never fall but where a CLEAR or a reset is applied: by CLEAR's own command, by a MATCH
frame that brings it, or by the station's own CLEAR frame delivered back, in a phase that accepts it. -/
def Obligations.PointsFallOnlyAtClear : Prop :=
  ∀ (c : Instr) (s t : State), c.bringsClear s = false → CountsSaturate s → exec c s = .next t →
    s.engine.points.one ≤ t.engine.points.one ∧ s.engine.points.two ≤ t.engine.points.two ∧
      s.engine.points.three ≤ t.engine.points.three ∧ s.engine.points.four ≤ t.engine.points.four ∧
      ∀ f : FixtureNo, (s.fixture f).scoring.pieces ≤ (t.fixture f).scoring.pieces

/-! ## Reset and load -/

/-- R187, R188: RESET reads the straps and puts every block at its start-up state in LOADING, where the loader selects the
serial memory and sends the read command 03 00 00 00, most significant bit first; RESET_ASSERTED does so with nothing
driven. The commands still waiting are the outside's and stand (log entry 26); the clock in IDLE, the receiver in SKIP, the
side table, side points, hold-off list, inputs, pairs, patterns and decoders as they stand there are log entry 5's, and so
is what stands while RESET is held: the blocks as in LOADING, the straps and the station number as before. -/
def Obligations.ResetPutsEveryBlockAtStart : Prop :=
  (∀ (straps : BitVec 5) (s : State), ∃ t : State, exec (.reset straps) s = .next t ∧ t.loader.load = .loading ∧
    t.loader.straps = straps ∧ t.loader.station.val = straps.toNat ∧ StartUp t ∧ t.pending = s.pending ∧ t.loader.spiSelected = true ∧
    t.loader.spiSends.map (·.2) =
      ([0x03#8, 0x00#8, 0x00#8, 0x00#8].flatMap fun b : Byte => [7, 6, 5, 4, 3, 2, 1, 0].map b.getLsbD).flatMap fun x => [x, x]) ∧
  (∀ s : State, ∃ t : State, exec .resetAsserted s = .next t ∧ t.loader.load = .held ∧ t.loader.spiSelected = false ∧
    t.loader.spiSends = [] ∧ t.loader.straps = s.loader.straps ∧ t.loader.station = s.loader.station ∧ StartUp t ∧
    t.pending = s.pending)

/-- R190, R195: a script that fails as a whole leaves the station UNCONFIGURED, every block at its start-up state, the line
counted idle once it stands recessive (R186), and its status reports IDLE, IDLE, tick 0, the UNCONFIGURED flag alone, no
points and no fixtures. The clock, the side table, the side points, the hold-off list, the inputs, the units and the pairs
as they stand there are log entry 5's. -/
def Obligations.UnusableScriptLeavesUnconfigured : Prop :=
  ∀ (miso : List Bool) (pins : LoadPins) (s : State) (f : ScriptFault),
    s.loader.load = .loading → judgeScript (scriptImage miso) = .unusable f →
    ∃ t : State, exec (.loadEnd miso pins) s = .next t ∧ t.loader.load = .unconfigured ∧
      t.loader.station = s.loader.station ∧ StartUp { t with line := Line.start } ∧
      t.line = { Line.start with
        busy := pins.dominant, standing := if pins.dominant = 0 then .recessive else .dominant } ∧
      t.line.reads = some (pins.dominant != 0) ∧ t.pending = s.pending ∧
      t.snapshot = ⟨.idle, .idle, 0, ⟨true, false, false, false, false⟩, PerSide.all 0, []⟩

/-- R194, R21, R89, R106, R123, R135, R167, R186: a good script's values are taken by every block, the phase is IDLE unless
an active level HALT input halts the station there, each kept lamp shows its fixture's indicator state, every routed
input's first sample is its qualified level, the receiver is in SKIP, and a station 1–31 has a CHANGE request. -/
def Obligations.GoodScriptConfiguresEveryBlock : Prop :=
  ∀ (miso : List Bool) (pins : LoadPins) (s : State) (records : List Record),
    s.loader.load = .loading → judgeScript (scriptImage miso) = .good records →
    ∃ t : State, exec (.loadEnd miso pins) s = .next t ∧ t.loader.load = .ready ∧
      t.loader.station = s.loader.station ∧ t.settings = (readScript records).settings ∧ t.now = 0 ∧
      t.engine.sideTable = (readScript records).sideTable ∧ t.engine.holdOff = [] ∧
      t.engine.points = PerSide.all 0 ∧
      (∀ f : FixtureNo, t.fixture f = { (readScript records).fixtures[f] with
        indicator := if t.haltInput then .halted else ((readScript records).fixtures[f]).indicator }) ∧
      (∀ p : PortNo, (t.ports[p]).sights = [] ∧
        (t.ports[p]).decoder = if (s.ports[p]).active then .waitIdle else .hunt) ∧
      t.clock.periods = (readScript records).periods ∧
      t.clock.ends = boundaries (readScript records).periods ∧ t.clock.resume = .idle ∧ t.clock.tick = 0 ∧
      t.clock.phase = (if t.haltInput then .halted else .idle) ∧
      (s.loader.station ≠ 0 → ∃ time, t.picture.request = some ⟨.change, time⟩) ∧
      t.runners = { Runners.start with store := (readScript records).store } ∧
      (∀ i : InputNo, (t.inputs.records[i]).polarity = ((readScript records).inputs[i]).polarity ∧
        (t.inputs.records[i]).mode = ((readScript records).inputs[i]).mode ∧
        (t.inputs.records[i]).route = ((readScript records).inputs[i]).route) ∧
      t.inputs.pins = pins.inputs ∧ t.inputs.sampleTimer = 0 ∧
      (∀ i : InputNo, ((readScript records).inputs[i]).route = .none →
        t.inputs.records[i] = (readScript records).inputs[i]) ∧
      (∀ i : InputNo, ((readScript records).inputs[i]).route ≠ .none →
        (let active := (pins.inputs.getLsbD i.val) != (((readScript records).inputs[i]).polarity == .activeLow)
         (t.inputs.records[i]).qualified = active ∧ (t.inputs.records[i]).disagreeing = 0 ∧
          (((readScript records).inputs[i]).mode = .edge ∨ active = false → (t.inputs.records[i]).latch = false)) ∧
        ((∀ f, ((readScript records).inputs[i]).route = .piece f → ((readScript records).fixtures[f]).state ≠ .dead) →
          (t.inputs.records[i]).latch = false)) ∧
      t.pulse.pairs = (readScript records).pairs ∧ t.pulse.patterns = (readScript records).patterns ∧
      t.pulse.safe = t.haltInput ∧
      (∀ u : UnitNo, (t.pulse.units[u]).binding = ((readScript records).units[u]).binding ∧
        (t.pulse.units[u]).lamp.map = ((readScript records).units[u]).lamp.map ∧
        (t.pulse.units[u]).pattern = none ∧ (t.pulse.units[u]).driver = none ∧
        (t.pulse.units[u]).lastDriver = none ∧
        ∀ f : FixtureNo, (t.fixture f).lamp? = some u →
          (t.pulse.units[u]).lamp.running =
            some (.index ((t.pulse.units[u]).lamp.map[(t.fixture f).indicator.index]))) ∧
      t.line = { Line.start with
        busy := pins.dominant
        standing := if pins.dominant = 0 then .recessive else .dominant
        queue := t.line.queue } ∧
      t.line.receiver = .skip ∧ t.line.reads = some (pins.dominant != 0)

/-! ## Frames of other devices -/

/-- The state in which a frame of another device has just completed: its time has passed, the receiver is in SKIP on a
line that has just fallen quiet, and its SENDER is the last sender (R174, R175, log entry 4). -/
def heardFrame (s : State) (dt : Nat) (frame : List Byte) (sender : StationNo) : State :=
  let u := s.advance (max dt (s.line.leastTime (s.line.missing frame)))
  { u with line := { u.line with
      receiver := .skip, received := [], busy := 0, standing := .recessive, idle := 0, lastSender := sender } }

/-- The same, with what R182 and R183 bring where the SENDER is the own number: a twin mutes the station for 10,000 ms
and empties its queue, or restarts the mute timer of a station already MUTED. -/
def heardFrom (s : State) (dt : Nat) (frame : List Byte) (sender : StationNo) : State :=
  let u := heardFrame s dt frame sender
  if sender ≠ s.loader.station then u
  else if s.line.muted.isSome then { u with line := { u.line with muted := some .twin, muteTimer := 10000000 } }
  else State.setEventsLost
    { u with line := { u.line with muted := some .twin, muteTimer := 10000000, queue := [], aborts := 0 } }

/-! ## Claims -/

/-- R16, R83: an expiry removes its own entry at its own moment and nothing more. -/
def Obligations.ExpiriesRemoveTheirEntry : Prop :=
  (∀ (s : State) (r : Robot) (f : FixtureNo) (e : HoldOff), s.running = true →
    s.engine.holdOff.find? (fun x => x.isFor r f) = some e → s.now ≤ e.expiry * 1000 →
    ∃ t : State, exec (.holdOffExpiry r f) s = .next t ∧ t.now = e.expiry * 1000 ∧
      (∀ x, x ∈ t.engine.holdOff ↔ x ∈ s.engine.holdOff ∧ ¬(x.robot = r ∧ x.fixture = f) ∧ t.now ≤ x.expiry * 1000) ∧
      t = (s.advance (t.now - s.now)).setHoldOff t.engine.holdOff) ∧
  (∀ (s : State) (p : PortNo) (r : Robot) (e : Sight), s.running = true →
    (s.ports[p]).sights.find? (fun x => x.robot == r) = some e →
    s.now ≤ (e.lastSeen + s.settings.sightWindow) * 1000 →
    ∃ t : State, exec (.sightExpiry p r) s = .next t ∧ t.now = (e.lastSeen + s.settings.sightWindow) * 1000 ∧
      (∀ x, x ∈ (t.ports[p]).sights ↔
        x ∈ (s.ports[p]).sights ∧ x.robot ≠ r ∧ t.now ≤ (x.lastSeen + s.settings.sightWindow) * 1000) ∧
      t = (s.advance (t.now - s.now)).setPort p t.ports[p])

/-- R23, R27, R81, R82: a REQUEST that passes checks 1 to 8 on a FREE GATE without an on-grant list makes the robot holder
with the current tick as its stamp, sends GRANT with value 0, raises CHANGE, and lists the robot on the port. -/
def Obligations.RequestIsGranted : Prop :=
  ∀ (s : State) (dt : Nat) (p : PortNo) (r : Robot) (f : FixtureNo) (c : FixtureConfig), s.ready = true → r ≠ 0 →
    s.claimable p = some f → (s.fixture f).config = some c → c.kind = .gate → c.firstList = none →
    ¬IsHeldOff (s.advance dt) f r → ¬IsPresentAt s f r → firstFailure (s.advance dt) f c r = none →
    (s.fixture f).state = .free →
    ∃ t : State, exec (.sighting dt p r 1) s = .next t ∧
      (t.fixture f).state = .held ∧
      (t.fixture f).claims.holder = some ⟨r, s.sideOf r, s.clock.tick, (s.advance dt).nowMs, 0, 0⟩ ∧
      (t.fixture f).claims.queue = ((s.advance dt).fixture f).claims.queue ∧
      (t.fixture f).indicator = indicatorOf t.clock.phase (t.fixture f) ∧
      t.line = ((s.advance dt).createEvent .grant (some f) r (s.sideOf r) 0).line ∧
      t.picture = (((s.advance dt).createEvent .grant (some f) r (s.sideOf r) 0).raiseChange).picture ∧
      t.engine.holdOff = (s.advance dt).engine.holdOff ∧
      (t.ports[p]).sights = addSight ((s.advance dt).ports[p]).sights ⟨r, s.sideOf r, (s.advance dt).nowMs⟩ ∧
      (∀ q, q ≠ p → t.ports[q] = (s.advance dt).ports[q]) ∧ RestAs (s.advance dt) t f

/-- R23, R13: the checks of Table 2-1 in their order give a REQUEST its outcome, in any state: a hold-off entry sets it
aside; a holder's or queued robot's is a refresh; of checks 3 to 8 and of the full queue the first that fails gives the
reason of the refusal; one that fails none is granted where the fixture is FREE and queued where it is HELD. A refused
REQUEST leaves state, holder, wait queue and allowances, makes a hold-off entry, starts REFUSED for 1.0 s, and sends and
requests nothing. -/
def Obligations.RequestIsRefused : Prop :=
  (∀ (s : State) (f : FixtureNo) (c : FixtureConfig) (r : Robot),
    (IsHeldOff s f r → s.judgeClaim f c r = .setAside) ∧
    (¬IsHeldOff s f r → IsPresentAt s f r → s.judgeClaim f c r = .refresh) ∧
    (¬IsHeldOff s f r → ¬IsPresentAt s f r →
      (∀ reason, firstFailure s f c r = some reason → s.judgeClaim f c r = .refused reason) ∧
      (firstFailure s f c r = none →
        ((s.fixture f).state = .free → s.judgeClaim f c r = .granted) ∧
        ((s.fixture f).state = .held → s.judgeClaim f c r = .queued)))) ∧
  ∀ (s : State) (dt : Nat) (p : PortNo) (r : Robot) (f : FixtureNo) (c : FixtureConfig) (reason : Reason),
    s.ready = true → r ≠ 0 → s.claimable p = some f → (s.fixture f).config = some c → (s.fixture f).state ≠ .dead →
    ¬IsHeldOff (s.advance dt) f r → ¬IsPresentAt s f r → firstFailure (s.advance dt) f c r = some reason →
    ∃ t : State, exec (.sighting dt p r 1) s = .next t ∧
      (t.fixture f).state = (s.fixture f).state ∧ (t.fixture f).claims = ((s.advance dt).fixture f).claims ∧
      (t.fixture f).transient = some .refused ∧ (t.fixture f).transientLeft = 1000000 ∧
      (t.fixture f).indicator = indicatorOf t.clock.phase (t.fixture f) ∧
      t.engine.holdOff = ((s.advance dt).makeHoldOff r f).engine.holdOff ∧
      t.line = (s.advance dt).line ∧ t.picture = (s.advance dt).picture ∧ RestAs (s.advance dt) t f

/-- R16, R24, R28, R33, R81, R82: what a sighting does that neither grants, refuses nor releases. A PRESENT sighting, a
REQUEST set aside or made by a holder or queued robot, and a RELEASE by a DISPENSER's holder or by a robot that is neither
holder nor queued refresh their robot's last-seen time and age, and nothing more at the fixture; a REQUEST that is queued
appends its robot at the tail; a RELEASE by a queued robot takes it out of the queue with a hold-off entry. None of them
sends or requests anything, and each updates its port's sight list. -/
def Obligations.RequestIsSetAsideOrQueued : Prop :=
  ∀ (s : State) (dt : Nat) (p : PortNo) (r : Robot) (i : BitVec 2) (f : FixtureNo) (c : FixtureConfig),
    s.ready = true → r ≠ 0 → s.claimable p = some f → (s.fixture f).config = some c → (s.fixture f).state ≠ .dead →
    let u := s.advance dt
    let x := u.fixture f
    let onlySeen := i = 0 ∨ i = 3 ∨ (i = 1 ∧ (IsHeldOff u f r ∨ IsPresentAt s f r)) ∨
      (i = 2 ∧ (¬IsPresentAt s f r ∨
        (c.kind = .dispenser ∧ (s.fixture f).claims.holder.map Holder.robot = some r)))
    let joins := i = 1 ∧ ¬IsHeldOff u f r ∧ ¬IsPresentAt s f r ∧ firstFailure u f c r = none ∧
      (s.fixture f).state = .held
    let leaves := i = 2 ∧ (s.fixture f).claims.holder.map Holder.robot ≠ some r ∧
      ∃ w ∈ (s.fixture f).claims.queue, w.robot = r
    onlySeen ∨ joins ∨ leaves →
    ∃ t : State, exec (.sighting dt p r i) s = .next t ∧
      (onlySeen → t.fixture f = { x with claims := { x.claims with
          holder := x.claims.holder.map fun h => if h.robot = r then { h with lastSeen := u.nowMs, age := 0 } else h
          queue := x.claims.queue.map fun w =>
            if w.robot = r then { w with lastSeen := u.nowMs, age := 0 } else w } } ∧
        t.engine.holdOff = u.engine.holdOff) ∧
      (joins → t.fixture f = { x with claims := { x.claims with
          queue := x.claims.queue ++ [⟨r, s.sideOf r, u.nowMs, 0⟩] } } ∧
        t.engine.holdOff = u.engine.holdOff) ∧
      (leaves → t.fixture f = { x with claims := { x.claims with queue := x.claims.queue.filter fun w => w.robot != r } } ∧
        t.engine.holdOff = (u.makeHoldOff r f).engine.holdOff) ∧
      t.line = u.line ∧ t.picture = u.picture ∧ RestAs u t f ∧ (∀ q, q ≠ p → t.ports[q] = u.ports[q]) ∧
      (SightsBounded s → SightUpdated (u.ports[p]).sights (t.ports[p]).sights ⟨r, s.sideOf r, u.nowMs⟩)

/-- R30, R31, R33, R34, R35, R43, R141: a RELEASE sighting of its holder, its lost time, its hold limit, and, with single
hold set, a peer's status that shows the holder holding a GATE by a lower pair each end a GATE's hold, with the causes
RELEASED, LOST, OVERSTAY and YIELD: the on-release list goes to the fixture's runner, busy, full or idle, RELEASE is sent,
and the waiting robots are promoted (holdEnded); with nobody waiting and no on-release list the GATE is FREE. After
OVERSTAY the counted tick that called for it goes on (R2). -/
def Obligations.GateHoldEnds : Prop :=
  ∀ (s : State) (f : FixtureNo) (c : FixtureConfig) (h : Holder) (limit lost : Nat), s.ready = true →
    (s.fixture f).config = some c → c.params = .gate limit lost →
    (s.fixture f).state = .held → (s.fixture f).claims.holder = some h →
    let ends (u t : State) (cause : ReleaseCause) : Prop :=
      (∀ e, holdEnded u f c h cause = some e → t = e) ∧
        (c.secondList = none → (s.fixture f).claims.queue = [] → ReleasedInto u t f h cause)
    (∀ (dt : Nat) (p : PortNo), s.claimable p = some f → h.robot ≠ 0 →
      let u := s.advance dt
      let v := u.setPort p { u.ports[p] with
        active := false, decoder := .hunt, elapsed := 0, bits := beaconWord h.robot 2
        sights := addSight (u.ports[p]).sights ⟨h.robot, s.sideOf h.robot, u.nowMs⟩ }
      ∃ t : State, exec (.sighting dt p h.robot 2) s = .next t ∧
        ends (v.setClaims f ((v.fixture f).claims.refresh h.robot u.nowMs)) t .released) ∧
    (s.clock.phase ≠ .halted → h.age ≤ lost * 1000 →
      ∃ t : State, exec (.lost f) s = .next t ∧ ends (s.advance (lost * 1000 - h.age)) t .lost) ∧
    (s.clock.phase ≠ .halted → limit ≠ 0 → limit ≤ h.held →
      ∃ t : State, exec (.overstay f) s = .next (resumeTick t) ∧ ends s t .overstay) ∧
    (∀ (dt : Nat) (frame payload : List Byte) (p : StationNo) (report : PeerReport) (e : SummaryEntry),
      s.hears = true → s.line.continues frame = true → judge frame = .valid .status p payload →
      p ≠ s.loader.station → readStatus payload = some report → s.settings.singleHold = true →
      s.clock.phase ≠ .idle → e ∈ report.entries → e.kind = .gate → e.state = .held → e.who = h.robot.val →
      (e.stamp < h.stamp ∨ (e.stamp = h.stamp ∧ p.val < s.loader.station.val)) →
      (∀ g, g ≠ f → s.yields p report.entries g = false) →
      ∃ t : State, exec (.statusReceived dt frame) s = .next t ∧
        ends ((heardFrom s dt frame p).setPeer p ⟨true, 0, report.phase, report.resume, report.tick,
          report.entries⟩) t .yield)

/-- R34, R35, R27, R40, R41, R42, R149: a release of any cause but PHASE, of a GATE or a DISPENSER, ends as holdEnded gives:
the on-release list handed over, RELEASE sent, and the waiting robots re-checked from the head. Those that fail checks 3
to 8 are dropped, each with a hold-off entry and no event; the first that passes is granted with the current tick as its
stamp, its on-grant list handed over, and the robots behind it keep their order; when all are dropped the fixture is FREE.
So it is at a DISPENSER whose holder's list completes with its last delay (DONE) or meets a step in error after a delay
(ABORTED), whose runner then takes up its next start; and, spelt out, at a GATE without link and lists at its hold limit. -/
def Obligations.PromotionGrantsTheHead : Prop :=
  (∀ (s t : State) (f : FixtureNo) (c : FixtureConfig) (h : Holder) (cause : ReleaseCause) (rest : List Task),
    (s.fixture f).config = some c → (s.fixture f).claims.holder = some h → cause ≠ .phase →
    holdEnded s f c h cause = some t → settle s (.release f cause :: rest) = settle t rest) ∧
  (∀ (s : State) (r : RunnerId) (left : Nat) (x : Current) (f : FixtureNo) (c : FixtureConfig) (h : Holder),
    s.running = true → (s.runner r).mode = .delay left → (s.runner r).current = some x → s.pulse.drivenBy r = [] →
    x.start.purpose = .grant → x.start.fixture = f → (s.fixture f).config = some c → c.kind = .dispenser →
    (s.fixture f).state = .held → (s.fixture f).claims.holder = some h → (s.fixture f).claims.inFlight = 1 →
    let u := s.advance left
    let claims := { (u.fixture f).claims with inFlight := 0 }
    ((s.runners.store[x.index]).last = true →
      ∃ t : State, exec (.delayEnd r) s = .next t ∧
        ∀ e n, holdEnded ((u.setRunner r ⟨.draining, some x, (s.runner r).queue⟩).setClaims f claims) f c h .done
          = some e → nextTaken e r = some n → t = n) ∧
    (∀ i : StepNo, (s.runners.store[x.index]).last = false → i.val = x.index.val + 1 →
      s.pulse.stepError s.runners.store[i] = true →
      let v := (u.setRunner r ⟨.draining, some ⟨x.start, i⟩, (s.runner r).queue⟩).createEvent (.fault .actionError)
        (some f) 0 0 i.val
      let w : State := { v with runners := { v.runners with fault := true } }
      ∃ t : State, exec (.delayEnd r) s = .next t ∧
        ∀ e n, holdEnded ((if s.runners.fault then w else w.raiseChange).setClaims f claims) f c h .aborted = some e →
          nextTaken e r = some n → t = n)) ∧
  ∀ (s : State) (f : FixtureNo) (c : FixtureConfig) (h : Holder) (dropped : List Waiter) (limit lost : Nat),
    s.ready = true → (s.fixture f).config = some c → c.params = .gate limit lost → c.firstList = none →
    c.secondList = none → c.link = none → (s.fixture f).state = .held → (s.fixture f).claims.holder = some h →
    s.clock.phase ≠ .halted → limit ≠ 0 → limit ≤ h.held → (∀ w ∈ dropped, s.claimFault f c w.robot ≠ none) →
    (∀ (w : Waiter) (rest : List Waiter), (s.fixture f).claims.queue = dropped ++ w :: rest →
      s.claimFault f c w.robot = none →
      ∃ t : State, exec (.overstay f) s = .next (resumeTick t) ∧ (t.fixture f).state = .held ∧
        (t.fixture f).claims.holder = some ⟨w.robot, w.side, s.clock.tick, w.lastSeen, w.age, 0⟩ ∧
        (t.fixture f).claims.queue = rest ∧
        t.engine.holdOff =
          (dropped.foldl (fun x d => x.makeHoldOff d.robot f) (s.makeHoldOff h.robot f)).engine.holdOff ∧
        t.line = ((s.createEvent (.release .overstay) (some f) h.robot h.side 0).createEvent .grant (some f) w.robot
          w.side 0).line ∧
        t.picture = (((s.createEvent (.release .overstay) (some f) h.robot h.side 0).raiseChange.createEvent .grant
          (some f) w.robot w.side 0).raiseChange).picture ∧ RestAs s t f) ∧
    ((s.fixture f).claims.queue = dropped →
      ∃ t : State, exec (.overstay f) s = .next (resumeTick t) ∧ (t.fixture f).state = .free ∧
        (t.fixture f).claims.holder = none ∧ (t.fixture f).claims.queue = [] ∧
        t.engine.holdOff =
          (dropped.foldl (fun x d => x.makeHoldOff d.robot f) (s.makeHoldOff h.robot f)).engine.holdOff ∧
        t.line = (s.createEvent (.release .overstay) (some f) h.robot h.side 0).line ∧
        t.picture = (s.createEvent (.release .overstay) (some f) h.robot h.side 0).raiseChange.picture ∧ RestAs s t f)

/-- A robot granted at a DISPENSER in u, as t shows it: holder with the current tick as its stamp, one taken from the
side's allowance, one dispense more in flight, GRANT with the allowance as it then stands, and CHANGE; all but the
fixture's runner stands otherwise. -/
def DispenseGranted (u t : State) (r : Robot) (f : FixtureNo) (c : FixtureConfig) : Prop :=
  (t.fixture f).state = .held ∧
    (t.fixture f).claims.holder = some ⟨r, u.sideOf r, u.clock.tick, u.nowMs, 0, 0⟩ ∧
    (t.fixture f).claims.allowance =
      (u.fixture f).claims.allowance.set (u.sideOf r) ((u.fixture f).claims.allowance.get (u.sideOf r) - 1) ∧
    (t.fixture f).claims.inFlight = (u.fixture f).claims.inFlight + 1 ∧
    (∀ g, g ≠ f → t.fixture g = u.fixture g) ∧ t.clock = u.clock ∧
    (∀ q, q ≠ c.runner → t.runner q = u.runner q) ∧
    t.line = (u.createEvent .grant (some f) r (u.sideOf r)
      ((u.fixture f).claims.allowance.get (u.sideOf r) - 1)).line ∧
    t.picture = ((u.createEvent .grant (some f) r (u.sideOf r)
      ((u.fixture f).claims.allowance.get (u.sideOf r) - 1)).raiseChange).picture ∧
    t.pulse.safe = u.pulse.safe ∧ t.engine.holdOff = u.engine.holdOff ∧ t.engine.points = u.engine.points ∧
    t.loader = u.loader ∧ t.settings = u.settings ∧ t.now = u.now ∧ t.inputs = u.inputs ∧ t.pending = u.pending

/-- R26, R27, R40, R141, R142: a REQUEST granted at a FREE DISPENSER takes one from the side's allowance, counts the
dispense in flight, sends GRANT with the allowance as it then stands, and raises CHANGE. Its grant list queues behind the
starts of a busy runner with room; an idle runner begins it, and times its first step where that is a delay. With nobody
waiting and no on-release list, a start dropped for a full start queue releases the hold at once with cause ABORTED, the
allowance given back before the RELEASE event, after FAULT ACTION_OVERFLOW; and a first step in error, of a unit not bound
ACTUATOR or of the half of a pair that no step may name, aborts the list: FAULT ACTION_ERROR with the step's index,
RUNNER_FAULT, and the ABORTED release with its refund. -/
def Obligations.DispenserGrantQueuesItsList : Prop :=
  ∀ (s : State) (dt : Nat) (p : PortNo) (r : Robot) (f : FixtureNo) (c : FixtureConfig) (i : StepNo), s.ready = true →
    r ≠ 0 → s.claimable p = some f → (s.fixture f).config = some c → c.kind = .dispenser → c.firstList = some i →
    ¬IsHeldOff (s.advance dt) f r → ¬IsPresentAt s f r → firstFailure (s.advance dt) f c r = none →
    (s.fixture f).state = .free →
    ((s.runner c.runner).mode ≠ .idle → (s.runner c.runner).queue.length < 4 →
      ∃ t : State, exec (.sighting dt p r 1) s = .next t ∧ DispenseGranted (s.advance dt) t r f c ∧
        t.runner c.runner = { (s.advance dt).runner c.runner with
          queue := (s.runner c.runner).queue ++ [⟨i, f, .grant⟩] }) ∧
    ((s.runner c.runner).mode = .idle → (s.runners.store[i]).unit = none →
      ∃ t : State, exec (.sighting dt p r 1) s = .next t ∧ DispenseGranted (s.advance dt) t r f c ∧
        t.runner c.runner = ⟨.delay ((s.runners.store[i]).count *
          (((s.runners.store[i]).high + 1) + ((s.runners.store[i]).low + 1)) * (s.runners.store[i]).clock.time),
          some ⟨⟨i, f, .grant⟩, i⟩, (s.runner c.runner).queue⟩) ∧
    (AllowancesSound s → c.secondList = none → (s.fixture f).claims.queue = [] → (s.fixture f).claims.holder = none →
      let u := s.advance dt
      let side := s.sideOf r
      let left := (s.fixture f).claims.allowance.get side
      let granted := (u.createEvent .grant (some f) r side (left - 1)).raiseChange
      ((s.runner c.runner).mode ≠ .idle → 4 ≤ (s.runner c.runner).queue.length →
        ∃ t : State, exec (.sighting dt p r 1) s = .next t ∧ (t.fixture f).state = .free ∧
          (t.fixture f).claims = (u.fixture f).claims ∧ t.engine.holdOff = u.engine.holdOff ∧ RestAs u t f ∧
          (let e := (granted.createEvent (.fault .actionOverflow) (some f) 0 0 0).createEvent (.release .aborted)
            (some f) r side left
           t.line = e.line ∧ t.picture = e.raiseChange.picture)) ∧
      (∀ unit : UnitNo, (s.runner c.runner).mode = .idle → (s.runner c.runner).queue = [] →
        s.pulse.drivenBy c.runner = [] → (s.fixture f).claims.inFlight = 0 → (s.runners.store[i]).unit = some unit →
        (s.pulse.units[unit]).binding ≠ .actuator ∨
          ((s.pulse.pairs[pairOf unit]).mode = .cascade ∧ unit.val % 2 = 1) ∨
          ((s.pulse.pairs[pairOf unit]).mode = .prescale ∧ unit.val % 2 = 0) →
        ∃ t : State, exec (.sighting dt p r 1) s = .next t ∧ (t.fixture f).state = .free ∧
          (t.fixture f).claims = (u.fixture f).claims ∧ t.engine.holdOff = u.engine.holdOff ∧
          t.runners.fault = true ∧ t.runner c.runner = Runner.start ∧
          (∀ q, q ≠ c.runner → t.runner q = u.runner q) ∧ (∀ g, g ≠ f → t.fixture g = u.fixture g) ∧
          t.clock = u.clock ∧ t.engine.points = u.engine.points ∧ t.loader = u.loader ∧ t.settings = u.settings ∧
          t.now = u.now ∧ t.inputs = u.inputs ∧ t.pending = u.pending ∧
          (let e := granted.createEvent (.fault .actionError) (some f) 0 0 i.val
           let e' := (if s.runners.fault then e else e.raiseChange).createEvent (.release .aborted) (some f) r side left
           t.line = e'.line ∧ t.picture = e'.raiseChange.picture)))

/-- R32: a queued robot whose age reaches the lost time leaves the queue, the others keeping their order, with a hold-off
entry, no event and no status request. -/
def Obligations.QueuedRobotIsLost : Prop :=
  ∀ (s : State) (f : FixtureNo) (r : Robot) (c : FixtureConfig) (w : Waiter), s.ready = true →
    (s.fixture f).config = some c → (s.fixture f).claims.queue.find? (fun x => x.robot == r) = some w →
    s.clock.phase ≠ .halted → w.age ≤ c.params.lostTime * 1000 →
    ∃ t : State, exec (.queuedLost f r) s = .next t ∧
      (t.fixture f) = { (s.advance (c.params.lostTime * 1000 - w.age)).fixture f with
        claims := { ((s.advance (c.params.lostTime * 1000 - w.age)).fixture f).claims with
          queue := ((s.advance (c.params.lostTime * 1000 - w.age)).fixture f).claims.queue.filter
            fun x => x.robot != r } } ∧
      t.engine.holdOff = ((s.advance (c.params.lostTime * 1000 - w.age)).makeHoldOff r f).engine.holdOff ∧
      t.line = (s.advance (c.params.lostTime * 1000 - w.age)).line ∧
      t.picture = (s.advance (c.params.lostTime * 1000 - w.age)).picture ∧
      RestAs (s.advance (c.params.lostTime * 1000 - w.age)) t f

/-! ## The match -/

/-- R90, R2, R30, R39, R48: a counted tick raises the match tick by 1 under the phase as it stands; fixture by fixture it
raises a GATE holder's held tenths by 1 and a DISPENSER's refill count by 1 in its mask, and takes a LIVE zone one zone
tick on. At the first fixture whose hold limit or refill period is so reached, the fixtures above it wait for that
command, still as they were (log entry 11). No zone of the station has an on-change list here. -/
def Obligations.CountedTickCounts : Prop :=
  ∀ s : State, s.ready = true → s.clock.phase.running = true → s.clock.ticking = [] →
    (∀ f c cmax rate, (s.fixture f).config = some c → c.params = .zone cmax rate → c.firstList = none) →
    ∃ (t : State) (k : Nat), exec .countedTick s = .next t ∧ 1 ≤ k ∧ k ≤ 8 ∧
      t.clock.ticking = fixtureNumbers.drop k ∧ t.clock.phase = s.clock.phase ∧
      t.clock.tick = min 65535 (s.clock.tick + 1) ∧ t.clock.tenth = 0 ∧ t.now = s.now + (100000 - s.clock.tenth) ∧
      t.engine.points = s.engine.points ∧ t.runners = (s.advance (100000 - s.clock.tenth)).runners ∧
      t.engine.holdOff = (s.advance (100000 - s.clock.tenth)).engine.holdOff ∧
      OutsideAs (s.advance (100000 - s.clock.tenth)) t ∧
      (∀ f : FixtureNo, k ≤ f.val → t.fixture f = (s.advance (100000 - s.clock.tenth)).fixture f) ∧
      (∀ f : FixtureNo, f.val + 1 < k → overstayed f t = false ∧ refillDue f t = false) ∧
      (∀ f : FixtureNo, f.val + 1 = k → k < 8 → overstayed f t = true ∨ refillDue f t = true) ∧
      ∀ (f : FixtureNo) (c : FixtureConfig), f.val < k → (s.fixture f).config = some c → (s.fixture f).state ≠ .dead →
        (∀ limit lost h, c.params = .gate limit lost → (s.fixture f).state = .held →
          (s.fixture f).claims.holder = some h →
          ∃ j, (t.fixture f).claims.holder = some j ∧ j.robot = h.robot ∧ j.stamp = h.stamp ∧ j.held = h.held + 1) ∧
        (∀ lost acap initial period, c.params = .dispenser lost acap initial period →
          (t.fixture f).claims.refillCount =
            (if inMask c.liveMask s.clock.phase then min period ((s.fixture f).claims.refillCount + 1)
              else (s.fixture f).claims.refillCount) ∧
          (t.fixture f).claims.allowance = (s.fixture f).claims.allowance) ∧
        (∀ cmax rate, c.params = .zone cmax rate → (s.fixture f).state = .live →
          (t.fixture f).control = (s.fixture f).control.tick cmax
            ((s.advance (100000 - s.clock.tenth)).zoneRates c rate)) ∧
        (t.fixture f).scoring.pieces = (s.fixture f).scoring.pieces ∧ (t.fixture f).state = (s.fixture f).state

/-- R39: when the refill count has reached the period, it returns to 0 and every side's allowance rises by 1, saturating
at ACAP, with no event and no request, and the counted tick that called for it goes on (R2); below the period, and
with a period of 0, nothing happens. -/
def Obligations.RefillRaisesEverySide : Prop :=
  ∀ (s : State) (f : FixtureNo) (c : FixtureConfig) (lost acap initial period : Nat),
    (s.fixture f).config = some c → c.params = .dispenser lost acap initial period → (s.fixture f).state ≠ .dead →
    exec (.refill f) s = .next
      (if period ≠ 0 ∧ period ≤ (s.fixture f).claims.refillCount then
        resumeTick (s.setClaims f { (s.fixture f).claims with
          refillCount := 0
          allowance := ⟨min acap ((s.fixture f).claims.allowance.one + 1),
            min acap ((s.fixture f).claims.allowance.two + 1), min acap ((s.fixture f).claims.allowance.three + 1),
            min acap ((s.fixture f).claims.allowance.four + 1)⟩ })
      else s)

/-- R90, R36, R63, Table 1-4: at a counted tick that has reached the end boundary, the phase becomes the first running
phase after it whose end boundary lies above the tick, or OVER; tick and resume phase stand. The fixtures follow by their
live masks: a HELD GATE or DISPENSER without an on-release list is released with cause PHASE, its queue flushed, nothing
refunded and no hold-off entry made; a COUNTING goal goes to GRACE with the phase that ended as its credited phase, or to
DORMANT where its grace is 0; a DORMANT fixture in whose mask the new phase is becomes active. -/
def Obligations.PeriodEndMovesThePhaseOn : Prop :=
  ∀ s : State, s.ready = true → s.clock.phase.running = true → s.clock.boundaryDue = true →
    s.clock.ends.get s.clock.phase ≤ s.clock.tick →
    ∃ t : State, exec .periodEnd s = .next t ∧ t.clock.tick = s.clock.tick ∧ t.clock.resume = s.clock.resume ∧
      t.clock.boundaryDue = false ∧ t.clock.tenth = s.clock.tenth ∧ t.engine.points = s.engine.points ∧
      OutsideAs s t ∧
      (t.clock.phase = .over ∨
        (t.clock.phase.running = true ∧ s.clock.phase.code < t.clock.phase.code ∧
          s.clock.tick < s.clock.ends.get t.clock.phase)) ∧
      (∀ p : Phase, p.running = true → s.clock.phase.code < p.code → p.code < t.clock.phase.code →
        s.clock.ends.get p ≤ s.clock.tick) ∧
      (s.loader.station ≠ 0 → ∃ time, t.picture.request = some ⟨.change, time⟩) ∧
      (s.clock.ticking = [] → ClaimsSound s →
        (∀ f c, (s.fixture f).config = some c → c.kind.claimable = true → c.secondList = none) →
        t.engine.holdOff = s.engine.holdOff ∧
        (∀ (f : FixtureNo) (c : FixtureConfig), (s.fixture f).config = some c → (s.fixture f).state ≠ .dead →
          (c.kind.claimable = true →
            (inMask c.liveMask t.clock.phase = true → (t.fixture f).claims = (s.fixture f).claims ∧
              (t.fixture f).state = if (s.fixture f).state = .dormant then .free else (s.fixture f).state) ∧
            (inMask c.liveMask t.clock.phase = false → (t.fixture f).state = .dormant ∧
              (t.fixture f).claims = { (s.fixture f).claims with holder := none, queue := [] })) ∧
          (c.kind = .zone → (s.fixture f).state = .dormant ∨ (s.fixture f).state = .live →
            (t.fixture f).state = (if inMask c.liveMask t.clock.phase then .live else .dormant) ∧
            (t.fixture f).control.owner = (s.fixture f).control.owner ∧
            (t.fixture f).control.level = (s.fixture f).control.level ∧
            (t.fixture f).control.challenger = (s.fixture f).control.challenger) ∧
          (∀ credit values grace jamT, c.params = .goal credit values grace jamT →
            (t.fixture f).scoring.pieces = (s.fixture f).scoring.pieces ∧
            ((s.fixture f).state = .counting → inMask c.liveMask t.clock.phase = false →
              if grace = 0 then (t.fixture f).state = .dormant
              else (t.fixture f).state = .grace ∧ (t.fixture f).scoring.graceLeft = grace * 100000 ∧
                (t.fixture f).scoring.credited = some s.clock.phase) ∧
            ((s.fixture f).state = .counting → inMask c.liveMask t.clock.phase = true →
              (t.fixture f).state = .counting) ∧
            ((s.fixture f).state = .dormant →
              (t.fixture f).state = if inMask c.liveMask t.clock.phase then .counting else .dormant) ∧
            ((s.fixture f).state = .grace ∨ (s.fixture f).state = .jammed →
              (t.fixture f).state = (s.fixture f).state ∧ (t.fixture f).scoring = (s.fixture f).scoring))) ∧
        (∀ (f : FixtureNo) (c : FixtureConfig) (h : Holder), (s.fixture f).config = some c →
          c.kind.claimable = true → (s.fixture f).state = .held → (s.fixture f).claims.holder = some h →
          inMask c.liveMask t.clock.phase = false →
          (∀ g d, g ≠ f → (s.fixture g).config = some d → d.kind.claimable = true →
            (s.fixture g).state ≠ .held ∨ inMask d.liveMask t.clock.phase = true) →
          t.line = (s.createEvent (.release .phase) (some f) h.robot h.side
            (if c.kind = .dispenser then (s.fixture f).claims.allowance.get h.side else 0)).line))

/-- R64, R68: grace ends: a goal in GRACE becomes COUNTING or DORMANT by the phase as it stands, a JAMMED one stays
JAMMED; the credited phase is none, and no event is sent. -/
def Obligations.GraceEnds : Prop :=
  ∀ (s : State) (f : FixtureNo) (c : FixtureConfig), s.ready = true → (s.fixture f).config = some c →
    c.kind = .goal → s.clock.phase ≠ .halted →
    ((s.fixture f).state = .grace ∨
      ((s.fixture f).state = .jammed ∧ (s.fixture f).scoring.jamFromGrace = true ∧
        (s.fixture f).scoring.credited ≠ none)) →
    ∃ t : State, exec (.graceEnd f) s = .next t ∧ t.now = s.now + (s.fixture f).scoring.graceLeft ∧
      (t.fixture f).state = (if (s.fixture f).state = .jammed then .jammed
        else if inMask c.liveMask s.clock.phase then .counting else .dormant) ∧
      (t.fixture f).scoring.credited = none ∧ (t.fixture f).scoring.graceLeft = 0 ∧
      (t.fixture f).scoring.pieces = (s.fixture f).scoring.pieces ∧
      t.line = (s.advance (s.fixture f).scoring.graceLeft).line ∧
      t.picture = (if (s.fixture f).state = .jammed then (s.advance (s.fixture f).scoring.graceLeft).picture
        else (s.advance (s.fixture f).scoring.graceLeft).raiseChange.picture) ∧
      t.engine.holdOff = (s.advance (s.fixture f).scoring.graceLeft).engine.holdOff ∧
      RestAs (s.advance (s.fixture f).scoring.graceLeft) t f

/-- R67, R69: a goal whose input has been active for the jam time becomes JAMMED, keeping its counts and noting whether it
came from GRACE; a JAMMED goal whose input has been inactive for 1.0 s leaves JAMMED by the four cases of R69. Each sends
its event and raises CHANGE. -/
def Obligations.GoalsJamAndUnjam : Prop :=
  ∀ (s : State) (f : FixtureNo) (c : FixtureConfig) (credit : Option CreditRule) (values : PerPhase) (grace jamT : Nat),
    s.ready = true → (s.fixture f).config = some c → c.params = .goal credit values grace jamT →
    (s.fixture f).state ≠ .dead → s.clock.phase ≠ .halted →
    ((s.fixture f).state ≠ .jammed → s.goalInput f = true → (s.fixture f).scoring.jamTimer ≤ jamT * 100000 →
      ∃ t : State, exec (.jam f) s = .next t ∧ (t.fixture f).state = .jammed ∧ t.jamFlag = true ∧
        (t.fixture f).scoring = { ((s.advance (jamT * 100000 - (s.fixture f).scoring.jamTimer)).fixture f).scoring with
          jamFromGrace := (s.fixture f).state == .grace } ∧
        t.line = ((s.advance (jamT * 100000 - (s.fixture f).scoring.jamTimer)).createEvent .jam (some f) 0 0 0).line ∧
        t.picture = ((s.advance (jamT * 100000 - (s.fixture f).scoring.jamTimer)).createEvent .jam (some f) 0 0
          0).raiseChange.picture ∧
        t.engine.holdOff = (s.advance (jamT * 100000 - (s.fixture f).scoring.jamTimer)).engine.holdOff ∧
        RestAs (s.advance (jamT * 100000 - (s.fixture f).scoring.jamTimer)) t f) ∧
    ((s.fixture f).state = .jammed → s.goalInput f = false → (s.fixture f).scoring.jamTimer ≤ 1000000 →
      ∃ t : State, exec (.unjam f) s = .next t ∧
        (t.fixture f).scoring.pieces = (s.fixture f).scoring.pieces ∧ (t.fixture f).scoring.jamFromGrace = false ∧
        (t.fixture f).state =
          (let x := (s.advance (1000000 - (s.fixture f).scoring.jamTimer)).fixture f
           if x.scoring.jamFromGrace then
             if x.scoring.credited ≠ none ∧ 0 < x.scoring.graceLeft then .grace else .dormant
           else if inMask c.liveMask s.clock.phase then .counting else .dormant) ∧
        t.line = ((s.advance (1000000 - (s.fixture f).scoring.jamTimer)).createEvent .unjam (some f) 0 0 0).line ∧
        t.picture = ((s.advance (1000000 - (s.fixture f).scoring.jamTimer)).createEvent .unjam (some f) 0 0
          0).raiseChange.picture ∧
        t.engine.holdOff = (s.advance (1000000 - (s.fixture f).scoring.jamTimer)).engine.holdOff ∧
        RestAs (s.advance (1000000 - (s.fixture f).scoring.jamTimer)) t f)

/-- R19: when a transient's time runs out, the transient returns to none and the indicator to the one the state gives. -/
def Obligations.TransientEnds : Prop :=
  ∀ (s : State) (f : FixtureNo) (x : Transient), s.running = true → (s.fixture f).transient = some x →
    ∃ t : State, exec (.transientEnd f) s = .next t ∧ t.now = s.now + (s.fixture f).transientLeft ∧
      (t.fixture f).transient = none ∧ (t.fixture f).state = (s.fixture f).state ∧
      (t.fixture f).indicator =
        (if s.clock.phase = .halted then .halted else stateIndicator (t.fixture f)) ∧
      (t.fixture f).claims = ((s.advance (s.fixture f).transientLeft).fixture f).claims ∧
      t.line = (s.advance (s.fixture f).transientLeft).line ∧
      t.picture = (s.advance (s.fixture f).transientLeft).picture ∧
      t.engine.holdOff = (s.advance (s.fixture f).transientLeft).engine.holdOff ∧
      RestAs (s.advance (s.fixture f).transientLeft) t f

/-- R127, R128, R129, R130, R131, R98, R99: at the sample instant, which comes when the time still missing to it has passed
(log entry 1), every routed input changes its qualified level only at
its second disagreeing sample; an EDGE input sets its latch where that level rises, a LEVEL input where it is active; every
latch is taken but that of a PIECE input to a DEAD goal, and an unrouted input stays as it is. The one latch set, its
taker acts: a goal takes its piece; HALT is applied at once, and told to the field, again while HALTED only by an EDGE
input; START, RESUME and CLEAR queue a frame unless one of theirs waits or is being sent (log entry 14), and a RESUME is
answered by a HALT frame while a level HALT input is active (log entry 17). All inputs are sampled before any latch is
taken (log entry 8). -/
def Obligations.SampleQualifiesEveryInput : Prop :=
  ∀ (s : State) (pins : BitVec 12), s.ready = true →
    ∃ t : State, exec (.inputSample pins) s = .next t ∧ t.now = s.now + (1000 - s.inputs.sampleTimer) ∧
      t.inputs.sampleTimer = 0 ∧ t.inputs.pins = pins ∧
      (∀ i : InputNo,
        ((s.inputs.records[i]).route = .none → t.inputs.records[i] = s.inputs.records[i]) ∧
        ((s.inputs.records[i]).route ≠ .none →
          (let active := (pins.getLsbD i.val) != ((s.inputs.records[i]).polarity == .activeLow)
           (t.inputs.records[i]).qualified =
              (if active ≠ (s.inputs.records[i]).qualified ∧ (s.inputs.records[i]).disagreeing ≠ 0 then active
                else (s.inputs.records[i]).qualified) ∧
            (t.inputs.records[i]).disagreeing =
              (if active ≠ (s.inputs.records[i]).qualified ∧ (s.inputs.records[i]).disagreeing = 0 then 1 else 0)) ∧
          ((∀ f, (s.inputs.records[i]).route = .piece f → (s.fixture f).state ≠ .dead) →
            (t.inputs.records[i]).latch = false))) ∧
      let u := sampleRecords (s.advance (1000 - s.inputs.sampleTimer)) pins Input.sample
      (∀ i : InputNo, (s.inputs.records[i]).route ≠ .none →
        (u.inputs.records[i]).latch = ((s.inputs.records[i]).latch ||
          match (s.inputs.records[i]).mode with
          | .edge => !(s.inputs.records[i]).qualified && (t.inputs.records[i]).qualified
          | .level => (t.inputs.records[i]).qualified)) ∧
      ∀ i : InputNo, (u.inputs.records[i]).latch = true → (∀ j, j ≠ i → (u.inputs.records[j]).latch = false) →
        let v := u.setInput i { u.inputs.records[i] with latch := false }
        match (s.inputs.records[i]).route with
        | .none => t = u
        | .piece f => t = if (s.fixture f).state = .dead then u else takePiece v f
        | .command .halt =>
          if s.clock.phase = .halted then
            t = if (s.inputs.records[i]).mode = .edge then v.queueCommand .halt else v
          else t.clock.phase = .halted ∧ t.clock.resume = s.clock.phase ∧ t = (applyHalt v).queueCommand .halt
        | .command .resume =>
          t = if u.haltInput then v.queueCommand .halt
            else if s.commandQueued .resume then v else v.queueCommand .resume
        | .command .start => t = if s.commandQueued .start then v else v.queueCommand .start
        | .command .clear => t = if s.commandQueued .clear then v else v.queueCommand .clear

/-- R57, R58, R59, R60, R61, R62: a piece at a COUNTING goal without an on-change list, or at one in GRACE, raises the
piece count by 1 and the credited side's points by the credited phase's value, both saturating, sends SCORE with the
LAST_SEEN robot, the side and the piece's points (also where the side's points saturate: log entry 30), raises CHANGE and
starts SCORED for 1.0 s; a DORMANT or JAMMED goal and a HALTED station ignore it. -/
def Obligations.PieceIsCounted : Prop :=
  ∀ (s : State) (f : FixtureNo) (c : FixtureConfig) (credit : Option CreditRule) (values : PerPhase) (grace jamT : Nat),
    (s.fixture f).config = some c → c.params = .goal credit values grace jamT → c.firstList = none →
    (∀ phase : Phase, s.clock.phase ≠ .halted →
      ((s.fixture f).state = .counting ∧ phase = s.clock.phase) ∨
        ((s.fixture f).state = .grace ∧ (s.fixture f).scoring.credited = some phase) →
      let t := takePiece s f
      let side := s.creditSide c credit
      let robot := match s.lastSeen c with
        | some e => e.robot
        | none => 0
      t.engine.points = s.engine.points.set side (min 65535 (s.engine.points.get side + values.get phase)) ∧
        t.fixture f = { s.fixture f with
          scoring := { (s.fixture f).scoring with pieces := min 65535 ((s.fixture f).scoring.pieces + 1) }
          transient := some .scored
          transientLeft := 1000000
          indicator := if s.clock.phase = .halted then .halted else .scored } ∧
        t.line = (s.createEvent (.score phase) (some f) robot side (if side = 0 then 0 else values.get phase)).line ∧
        t.picture =
          (s.createEvent (.score phase) (some f) robot side (if side = 0 then 0 else values.get phase)).raiseChange.picture ∧
        (∀ g, g ≠ f → t.fixture g = s.fixture g) ∧ t.clock = s.clock ∧ t.runners = s.runners ∧
        t.engine.holdOff = s.engine.holdOff ∧ OutsideAs s t) ∧
    (s.clock.phase = .halted ∨ (s.fixture f).state = .dormant ∨ (s.fixture f).state = .jammed → takePiece s f = s)

/-- R91, R92, R38: START, in IDLE with no fixture active, enters the first running phase of a length above 0 with tick and
tenth timer 0, returns every DISPENSER's allowances to A0 and its refill count to 0, and makes each fixture active by its
live mask; in any other phase it changes nothing. In IDLE it does so also under an active level HALT input, which a CLEAR
leaves until the next sample: log entry 32, the model's choice between R102 and Table 5-3. -/
def Obligations.StartBeginsTheMatch : Prop :=
  (∀ (s : State) (dt : Nat), s.ready = true → s.clock.phase = .idle →
    (∀ f, (s.fixture f).state = .dead ∨ (s.fixture f).state = .dormant) →
    (∀ f, (s.fixture f).claims.holder = none) →
    ∃ t : State, exec (.start dt) s = .next t ∧ t.clock.phase.running = true ∧
      (s.clock.periods.get t.clock.phase > 0 ∨ t.clock.phase = .drive) ∧
      (∀ p : Phase, p.running = true → p.code < t.clock.phase.code → s.clock.periods.get p = 0) ∧
      t.clock.tick = 0 ∧ t.clock.tenth = 0 ∧ t.clock.resume = s.clock.resume ∧
      t.engine.points = s.engine.points ∧ t.engine.holdOff = (s.advance dt).engine.holdOff ∧
      t.picture.eventSeq = s.picture.eventSeq ∧ t.line = (s.advance dt).line ∧ OutsideAs (s.advance dt) t ∧
      ∀ (f : FixtureNo) (c : FixtureConfig), (s.fixture f).config = some c → (s.fixture f).state = .dormant →
        (t.fixture f).state = (if inMask c.liveMask t.clock.phase then
          (match c.kind with | .gate | .dispenser => .free | .zone => .live | .goal => .counting) else .dormant) ∧
        (t.fixture f).scoring.pieces = (s.fixture f).scoring.pieces ∧
        ∀ lost acap initial period, c.params = .dispenser lost acap initial period →
          (t.fixture f).claims.allowance = PerSide.all initial ∧ (t.fixture f).claims.refillCount = 0) ∧
  (∀ (s : State) (dt : Nat), s.ready = true → s.clock.phase ≠ .idle → exec (.start dt) s = .next (s.advance dt))

/-- R93, R70, R150, R162, R42: HALT keeps the phase that stood as the resume phase, freezes the tick, stops both runners and
every pattern, drives every ACTUATOR output low, and leaves every fixture but a DISPENSER as it was, showing HALTED. A DISPENSER whose
grant list is so cut short, with nobody waiting, is released with cause ABORTED: FREE, 1 given back to the side before
the RELEASE event, no hold-off entry. -/
def Obligations.HaltFreezesTheStation : Prop :=
  ∀ (s : State) (dt : Nat), s.ready = true → s.clock.phase ≠ .halted → HaltSound s →
    ∃ t : State, exec (.halt dt) s = .next t ∧ t.clock.phase = .halted ∧ t.clock.resume = s.clock.phase ∧
      t.clock.tick = s.clock.tick ∧ t.clock.tenth = (s.advance dt).clock.tenth ∧ t.runners.a = Runner.start ∧
      t.runners.b = Runner.start ∧ t.pulse.safe = true ∧
      (∀ u : UnitNo, (s.pulse.units[u]).binding = .actuator → t.pulse.ownOutput u = false) ∧
      (∀ (f : FixtureNo) (c : FixtureConfig), (s.fixture f).config = some c → c.kind ≠ .dispenser →
        t.fixture f = { (s.advance dt).fixture f with indicator := .halted }) ∧
      t.engine.points = s.engine.points ∧ OutsideAs (s.advance dt) t ∧
      (s.loader.station ≠ 0 → ∃ time, t.picture.request = some ⟨.change, time⟩) ∧
      (∀ (f : FixtureNo) (c : FixtureConfig) (h : Holder) (r : RunnerId) (i k : StepNo)
        (lost acap initial period : Nat), (s.fixture f).config = some c → c.params = .dispenser lost acap initial period →
        (s.fixture f).state = .held → (s.fixture f).claims.holder = some h → (s.fixture f).claims.queue = [] →
        (s.fixture f).claims.inFlight = 1 → (s.runner r).current = some ⟨⟨i, f, .grant⟩, k⟩ → (s.runner r).queue = [] →
        (∀ q, q ≠ r → (∀ x, (s.runner q).current = some x → x.start.purpose ≠ .grant) ∧
          ∀ x ∈ (s.runner q).queue, x.purpose ≠ .grant) →
        (t.fixture f).state = .free ∧ (t.fixture f).indicator = .halted ∧
          (t.fixture f).claims = { ((s.advance dt).fixture f).claims with
            holder := none
            inFlight := 0
            allowance := (s.fixture f).claims.allowance.set h.side
              (min acap ((s.fixture f).claims.allowance.get h.side + 1)) } ∧
          t.engine.holdOff = (s.advance dt).engine.holdOff ∧
          t.line = ((s.advance dt).createEvent (.release .aborted) (some f) h.robot h.side
            (((s.fixture f).claims.allowance.set h.side
              (min acap ((s.fixture f).claims.allowance.get h.side + 1))).get h.side)).line)

/-- R94, R45, R103: RESUME returns to the resume phase with tick and tenth timer as they stood, every hold kept; while a
level HALT input is active it changes no phase and queues a HALT frame instead. -/
def Obligations.ResumeReturns : Prop :=
  ∀ (s : State) (dt : Nat), s.ready = true → s.clock.phase = .halted →
    (s.haltInput = false → ResumeSound s → ClaimsSound s →
      ∃ t : State, exec (.resume dt) s = .next t ∧ t.clock.phase = s.clock.resume ∧ t.clock.resume = s.clock.resume ∧
        t.clock.tick = s.clock.tick ∧ t.clock.tenth = s.clock.tenth ∧ t.pulse.safe = false ∧
        t.engine.points = s.engine.points ∧ t.line = (s.advance dt).line ∧
        t.engine.holdOff = (s.advance dt).engine.holdOff ∧ OutsideAs (s.advance dt) t ∧
        (∀ (f : FixtureNo) (c : FixtureConfig), (s.fixture f).config = some c → c.kind.claimable = true →
          (s.fixture f).state = .held → (t.fixture f).state = .held ∧
            (t.fixture f).claims = (s.fixture f).claims)) ∧
    (s.haltInput = true → exec (.resume dt) s = .next ((s.advance dt).queueCommand .halt))

/-- R95, R22, R124, R151: CLEAR, outside the running phases, returns phase, tick and tenth timer, every fixture's match
state, the points, the hold-off list, the runners and the flags to their start, keeps the sight lists, and sends
nothing. -/
def Obligations.ClearReturnsToTheStart : Prop :=
  ∀ (s : State) (dt : Nat), s.ready = true → s.clock.phase.running = false →
    ∃ t : State, exec (.clear dt) s = .next t ∧
      t.clock = { s.clock with phase := .idle, resume := .idle, tick := 0, tenth := 0, boundaryDue := false, ticking := [] } ∧
      t.engine.points = PerSide.all 0 ∧ t.engine.holdOff = [] ∧ OutsideAs (s.advance dt) t ∧
      t.line = (s.advance dt).line ∧ t.runners.a = Runner.start ∧
      t.runners.b = Runner.start ∧ t.runners.fault = false ∧ t.pulse.safe = false ∧ t.picture.eventsLost = false ∧
      t.picture.eventSeq = s.picture.eventSeq ∧ t.picture.peers = (s.advance dt).picture.peers ∧
      (s.loader.station ≠ 0 → ∃ time, t.picture.request = some ⟨.change, time⟩) ∧
      ∀ (f : FixtureNo) (c : FixtureConfig), (s.fixture f).config = some c → (s.fixture f).state ≠ .dead →
        (t.fixture f).state = .dormant ∧ (t.fixture f).claims.holder = none ∧ (t.fixture f).claims.queue = [] ∧
        (t.fixture f).claims.inFlight = 0 ∧ (t.fixture f).control = Control.start ∧
        (t.fixture f).scoring = Scoring.start ∧ (t.fixture f).transient = none ∧
        ∀ lost acap initial period, c.params = .dispenser lost acap initial period →
          (t.fixture f).claims.allowance = PerSide.all initial ∧ (t.fixture f).claims.refillCount = 0

/-! ## The arena line -/

/-- R110, R182: a valid status of a peer, with every code defined, replaces that peer's row whole and no other row; one
with an undefined code is set aside whole. One that bears the own number is not taken in, whatever it carries: it only
tells of a twin. -/
def Obligations.StatusReplacesItsRow : Prop :=
  ∀ (s : State) (dt : Nat) (frame payload : List Byte) (p : StationNo), s.hears = true →
    s.line.continues frame = true → judge frame = .valid .status p payload →
    (p ≠ s.loader.station →
      ∃ t : State, exec (.statusReceived dt frame) s = .next t ∧ t.line.lastSender = p ∧ t.line.receiver = .skip ∧
        (∀ q : StationNo, q ≠ p → t.peer q = (heardFrom s dt frame p).peer q) ∧
        t.peer p = (match readStatus payload with
          | some r => ⟨true, 0, r.phase, r.resume, r.tick, r.entries⟩
          | none => (heardFrom s dt frame p).peer p) ∧
        (readStatus payload = none → t = heardFrom s dt frame p) ∧
        t.engine.points = s.engine.points ∧ OutsideAs (heardFrom s dt frame p) t) ∧
    (p = s.loader.station → exec (.statusReceived dt frame) s = .next (heardFrom s dt frame p))

/-- R104: a configured station in IDLE without a START of its own waiting or being sent (log entry 14) adopts a peer's running phase and
tick, with its tenth timer at 0 and its resume phase as it was; of a HALTED peer it adopts HALTED, the resume phase, and
the tick, or 0 when that resume phase is IDLE. A status that shows IDLE or OVER is not adopted, and a station in any other
phase takes nothing from a peer: its clock stands as the frame's time leaves it.An active level HALT input hinders no
adoption (log entry 32). -/
def Obligations.LateJoinAdoptsARunningPhase : Prop :=
  ∀ (s : State) (dt : Nat) (frame payload : List Byte) (p : StationNo) (r : PeerReport), s.hears = true →
    s.line.continues frame = true → s.ready = true → judge frame = .valid .status p payload → p ≠ s.loader.station → readStatus payload = some r →
    ∃ t : State, exec (.statusReceived dt frame) s = .next t ∧
      (s.clock.phase = .idle → s.commandQueued .start = false → r.phase.running = true →
        t.clock.phase = r.phase ∧ t.clock.tick = r.tick ∧ t.clock.tenth = 0 ∧ t.clock.resume = s.clock.resume) ∧
      (s.clock.phase = .idle → s.commandQueued .start = false → r.phase = .halted →
        t.clock.phase = .halted ∧ t.clock.resume = r.resume ∧ r.resume ≠ .halted ∧
          t.clock.tick = (if r.resume = .idle then 0 else r.tick) ∧ t.clock.tenth = 0) ∧
      (s.clock.phase ≠ .idle ∨ s.commandQueued .start = true ∨ r.phase = .idle ∨ r.phase = .over →
        t.clock.phase = s.clock.phase ∧ t.clock.tick = s.clock.tick ∧ t.clock = (heardFrom s dt frame p).clock)

/-- R111, R174, R175, R182: a valid EVENT frame moves the last sender, tells of a twin where it bears the own number, and
does nothing else; a discarded frame does not even move the last sender. A frame whose first characters are not those
already received in the frame in progress cannot complete: its time passes (log entries 3 and 4). -/
def Obligations.EventAndDiscardedFramesChangeNothingElse : Prop :=
  (∀ (s : State) (dt : Nat) (frame payload : List Byte) (p : StationNo), s.hears = true →
    s.line.continues frame = true → judge frame = .valid .event p payload →
    exec (.eventFrameReceived dt frame) s = .next (heardFrom s dt frame p)) ∧
  (∀ (s : State) (dt : Nat) (frame : List Byte), s.hears = true → s.line.continues frame = true →
    judge frame = .discarded → exec (.frameDiscard dt frame) s = .next (heardFrame s dt frame s.line.lastSender)) ∧
  (∀ (s : State) (dt : Nat) (frame : List Byte), s.line.continues frame = false →
    exec (.frameDiscard dt frame) s = .next (s.advance dt) ∧
      exec (.eventFrameReceived dt frame) s = .next (s.advance dt))

/-- The match clock's answer to a command in u, as t shows it (R91, R97, R103, Table 5-3): a RESUME under an active level
HALT input is answered by a HALT frame (log entry 17); any other that the phase does not accept is ignored; one that it accepts is
applied as by its own row, and leads to the phase its row gives. -/
def CommandAnswered (u t : State) (c : Command) : Prop :=
  t = takeCommand u c ∧ (∀ (x : State) (dt : Nat), exec (match c with
      | .start => .start dt
      | .halt => .halt dt
      | .resume => .resume dt
      | .clear => .clear dt) x = .next (takeCommand (x.advance dt) c)) ∧
    (c = .resume → u.haltInput = true → t = u.queueCommand .halt) ∧
    (¬(c = .resume ∧ u.haltInput = true) → c.accepted u.clock.phase = false → t = u) ∧
    (¬(c = .resume ∧ u.haltInput = true) → c.accepted u.clock.phase = true →
      t.clock.phase = (match c with
        | .start => u.clock.firstPhase
        | .halt => .halted
        | .resume => u.clock.resume
        | .clear => .idle))

/-- R97, R91, R103, Table 5-3: a match frame's command is applied when the phase accepts it and ignored otherwise, whoever
sent it, and a RESUME under an active level HALT input is answered by a HALT frame (log entry 17); a START in IDLE is
applied there (log entry 32). A command value outside 1–4 is
ignored, and moves the last sender all the same. -/
def Obligations.MatchFrameAppliesItsCommand : Prop :=
  ∀ (s : State) (dt : Nat) (frame payload : List Byte) (p : StationNo), s.hears = true →
    s.line.continues frame = true → judge frame = .valid .command p payload →
    (∀ c : Command, s.ready = true → payloadCommand payload = some c →
      ∃ t : State, exec (.matchFrameReceived dt frame) s = .next t ∧ t.line.lastSender = p ∧
        OutsideAs (heardFrom s dt frame p) t ∧ CommandAnswered (heardFrom s dt frame p) t c) ∧
    ((∃ c, payloadCommand payload = some c) ↔ 1 ≤ (payload.getD 0 0).toNat ∧ (payload.getD 0 0).toNat ≤ 4) ∧
    (¬(1 ≤ (payload.getD 0 0).toNat ∧ (payload.getD 0 0).toNat ≤ 4) →
      exec (.matchFrameReceived dt frame) s = .next (heardFrom s dt frame p))

/-- R97: the tick a match frame carries is not read: two frames of one sender and one command do the same, where both continue the frame in
progress or neither does. -/
def Obligations.MatchFrameTickIsNotRead : Prop :=
  ∀ (s : State) (dt : Nat) (x y payload payload' : List Byte) (p : StationNo),
    judge x = .valid .command p payload → judge y = .valid .command p payload' →
    payloadCommand payload = payloadCommand payload' → s.line.continues x = s.line.continues y →
    exec (.matchFrameReceived dt x) s = exec (.matchFrameReceived dt y) s

/-- R169, R174, R178: an abandonment (a gap, a framing error, a LEN above 64) leaves the receiver in SKIP with the frame
dropped and nothing else changed; after a framing error the line reads dominant, and the quiet counts from its return to
recessive. A character takes its ten bit times, from the line's return to recessive on; one with a framing error is judged
at the middle of its stop bit, half a bit time sooner. One that an abort left in progress ends as it began, and is not
waited for once it has ended (log entry 4), and after an abort in SYNC's start bit no silence is waited for (log entry
33). In HUNT a character that holds C3 hex is taken as SYNC and any other,
or one with a framing error, leads to SKIP; in FRAME a character joins the frame; in SKIP it is ignored. SKIP ends in HUNT
after more than 6 bit times of a recessive line. -/
def Obligations.ReceiverStatesFollow : Prop :=
  (∀ (s : State) (dt least : Nat) (cause : Sys2Proof.AbandonCause), s.hears = true →
    s.line.abandonTime cause = some least →
    ∃ t : State, exec (.frameAbandon dt cause) s = .next t ∧ t = { s.advance (max dt least) with line := t.line } ∧
      t.line = { (s.advance (max dt least)).line with
        receiver := .skip, received := [], busy := t.line.busy, standing := t.line.standing, idle := t.line.idle } ∧
      (match cause with
        | .gap => t.line.busy = 0 ∧ t.line.idle = 25 ∧ t.line.reads = some false
        | .lenAbove64 => t.line.busy = 0 ∧ t.line.idle = 0 ∧ t.line.reads = some false
        | .framingError line => ∃ dominant, readCharacter line = some (.framingError dominant) ∧ 0 < dominant ∧
            t.line.busy = dominant ∧ t.line.idle = 0 ∧ t.line.reads = some true) ∧
      (let first := match s.line.receiver with
        | .frame => if s.line.unheard then 0 else 40
        | .hunt => if s.line.unheard then 0 else if s.line.standing = .released then 40 else 65
        | .skip => 65
       let second := if s.line.receiver = .frame then first else first + 40
       least = (match cause with
        | .gap => s.line.busy + ((if s.line.receiver = .frame then 25 else first + 25) - s.line.idle)
        | .framingError _ => s.line.busy + (second - s.line.idle) - 2
        | .lenAbove64 => s.line.busy + (second - s.line.idle)))) ∧
  (∀ (s : State) (dt : Nat) (line : List LineRun) (heard : Heard), s.hears = true → readCharacter line = some heard →
    let ends := match s.line.receiver with
      | .skip => s.line.busy + (40 - s.line.idle)
      | .hunt => s.line.busy + ((if s.line.unheard then 0 else if s.line.standing = .released then 40 else 65) - s.line.idle)
      | .frame => s.line.busy + ((if s.line.unheard then 0 else 40) - s.line.idle)
    let d := max dt (match heard with
      | .byte _ => ends
      | .framingError _ => ends - 2)
    let quiet : Line := { (s.advance d).line with busy := 0, standing := .recessive, idle := 0 }
    ∃ l : Line, exec (.nonSyncCharacter dt line) s = .next { s.advance d with line := l } ∧
      match heard with
      | .framingError dominant =>
        l = { (s.advance d).line with
          receiver := .skip, received := [], busy := dominant, standing := .dominant, idle := 0 }
      | .byte c =>
        match s.line.receiver with
        | .skip => l = { quiet with received := [] }
        | .hunt => l = { quiet with
            receiver := if c = 0xC3#8 then .frame else .skip
            received := if c = 0xC3#8 then [c] else [] }
        | .frame =>
          (s.line.received.length = 1 → 64 < c.toNat → l = { quiet with receiver := .skip, received := [] }) ∧
          (¬(s.line.received.length = 1 ∧ 64 < c.toNat) → judge (s.line.received ++ [c]) = .incomplete →
            l = { quiet with received := s.line.received ++ [c] })) ∧
  (∀ s : State, s.hears = true → s.line.receiver = .skip →
    ∃ t : State, exec .receiverReturnToHunt s = .next t ∧ t.line.receiver = .hunt ∧
      t.now = s.now + (s.line.busy + (25 - s.line.idle)) ∧
      t = { s.advance (s.line.busy + (25 - s.line.idle)) with
        line := { (s.advance (s.line.busy + (25 - s.line.idle))).line with receiver := .hunt } })

/-- R115, R116: the status timer's expiry raises PERIODIC if no request is pending and nothing more until it is set to 0;
a pending CHANGE is eligible from its moment. -/
def Obligations.StatusRequestsFallDue : Prop :=
  (∀ s : State, s.ready = true → s.loader.station ≠ 0 → s.picture.statusRaised = false →
    s.picture.statusTimer ≤ s.settings.statusInterval * 1000 →
    ∃ t : State, exec .statusTimerExpiry s = .next t ∧
      t.now = s.now + (s.settings.statusInterval * 1000 - s.picture.statusTimer) ∧
      t.picture.request = (match s.picture.request with | some r => some r | none => some ⟨.periodic, t.now⟩) ∧
      t.picture.statusRaised = true ∧ t.picture.statusTimer = s.settings.statusInterval * 1000 ∧
      t = { s.advance (t.now - s.now) with picture := t.picture }) ∧
  (∀ (s : State) (time : Nat), s.running = true → s.picture.request = some ⟨.change, time⟩ → s.now ≤ time →
    ∃ t : State, exec .changeEligible s = .next t ∧ t.now = time ∧ t.eligibleRequest = some ⟨.change, time⟩ ∧
      t = s.advance (time - s.now))

/-- R112, R117, R172, R179, R100: at its moment an attempt sends the head: a status filled from the snapshot of that
moment and taken out as the request in flight, an event with its number in SEQ, or the first MATCH frame that passes its
check, with the tick of that moment. HALT passes always, the others by the phase, and RESUME never while a level HALT
input is active; the MATCH frames before it are removed unsent. That an own START passes in IDLE while a level HALT input
is active is the model's choice (log entry 32). -/
def Obligations.AttemptSendsTheHead : Prop :=
  ∀ (s : State) (d : Nat), attemptWait s = some d →
    (∀ r : Request, (s.advance d).head = some .status → s.picture.request = some r →
      ∃ t : State, exec .attemptBegin s = .next t ∧ t.line.receiver = .hunt ∧ t.line.driverEnabled = true ∧
        t.line.attempt = some ⟨.status,
          frameBytes .status s.loader.station.val 0 (statusPayload (s.advance d).snapshot),
          40 * (frameBytes .status s.loader.station.val 0 (statusPayload (s.advance d).snapshot)).length⟩ ∧
        t.picture.request = none ∧ t.picture.inFlight = some ⟨r, s.picture.eventsLost, false⟩ ∧
        t.picture.statusTimer = 0 ∧ t.picture.lastStatus = some (s.now + d) ∧
        t.line.queue = s.line.queue ∧ t = { s.advance d with line := t.line, picture := t.picture }) ∧
    (∀ e : Event, (s.advance d).head = some (.event e) →
      ∃ t : State, exec .attemptBegin s = .next t ∧ t.line.receiver = .hunt ∧
        t.line.attempt = some ⟨.event, frameBytes .event s.loader.station.val e.seq.val (eventPayload e),
          40 * (frameBytes .event s.loader.station.val e.seq.val (eventPayload e)).length⟩ ∧
        t.line.queue.map (·.body) = s.line.queue.map (·.body) ∧ t = { s.advance d with line := t.line }) ∧
    (∀ (c : Command) (before after : List QueuedFrame) (age : Nat) (sending : Bool),
      s.line.queue = before ++ ⟨.command c, age, sending⟩ :: after →
      (∀ q ∈ before, ∀ x, q.body = .command x →
        x ≠ .halt ∧ (x.accepted s.clock.phase = false ∨ (x = .resume ∧ s.haltInput = true))) →
      (c = .halt ∨ (c.accepted s.clock.phase = true ∧ ¬(c = .resume ∧ s.haltInput = true))) →
      ∃ t : State, exec .attemptBegin s = .next t ∧ t.line.receiver = .hunt ∧
        t.line.attempt = some ⟨.command c,
          frameBytes .command s.loader.station.val 0 (commandPayload c s.clock.tick),
          40 * (frameBytes .command s.loader.station.val 0 (commandPayload c s.clock.tick)).length⟩ ∧
        t.line.queue = before.filter (fun q => q.command?.isNone) ++ ⟨.command c, age, true⟩ :: after ∧
        t = { s.advance d with line := t.line }) ∧
    ((∃ q ∈ s.line.queue, q.command?.isSome = true) →
      (∀ q ∈ s.line.queue, ∀ x, q.body = .command x →
        x ≠ .halt ∧ (x.accepted s.clock.phase = false ∨ (x = .resume ∧ s.haltInput = true))) →
      ∃ t : State, exec .attemptBegin s = .next t ∧ t.line.attempt = none ∧
        t.line.queue = s.line.queue.filter (fun q => q.command?.isNone) ∧ t = { s.advance d with line := t.line })

/-- The state in which an attempt has just succeeded: its time has passed, its frame has left the queue, no abort is
counted, the last sender is the own number, and the receiver is in SKIP (R181). -/
def sentFrame (s : State) (a : Attempt) : State :=
  let u := s.advance a.left
  { u with line := { u.line with
      queue := s.line.queue.filter (fun q => !q.sending)
      attempt := none
      aborts := 0
      lastSender := s.loader.station
      receiver := .skip
      received := []
      busy := 0
      standing := .recessive
      idle := 0 } }

/-- R180, R181, R101, R117, R122, R178: a successful event does nothing more; a successful status ends the request in
flight, and clears EVENTS_LOST where its snapshot carried the flag and it has not been set since; a successful command is
delivered back and answered as a received one. An aborted frame keeps its place, a status request is put back merged with
one raised since (two PERIODIC ones keep the moment of the one that was in flight: log entry 16), and fewer than 16 aborts
do nothing more. The receiver, which never stopped listening, is within the frame once SYNC has gone out; what remains of a
character begun is waited for; an abort in a start bit, where no character has begun, leaves the quiet since the last
character, and one in SYNC's start bit begins the next idle time, so that the head's moment comes a whole hold-off after
it (log entry 33).
LINE_RXD reads then what the mismatch showed: dominant against the station's own recessive bit, recessive otherwise. A
mismatch is read at the middle of a bit, the first one from the command's time on, `m` from the attempt's beginning (log
entry 33); past the last stop bit's nothing is read back, and the command is no occurrence. The winner's frame, begun
together with the attempt, ends when its characters do, however much of them has passed. -/
def Obligations.AttemptsEnd : Prop :=
  (∀ (s : State) (a : Attempt), s.line.attempt = some a →
    (a.item = .event → exec .attemptSuccess s = .next (sentFrame s a)) ∧
    (∀ x : InFlight, a.item = .status → s.picture.inFlight = some x →
      exec .attemptSuccess s = .next { sentFrame s a with
        picture := { (sentFrame s a).picture with
          inFlight := none
          eventsLost := s.picture.eventsLost && !(x.carriedLost && !x.lostAgain) } }) ∧
    (∀ c : Command, a.item = .command c → s.ready = true →
      ∃ t : State, exec .attemptSuccess s = .next t ∧ t.line.lastSender = s.loader.station ∧ t.line.attempt = none ∧
        t.line.aborts = 0 ∧ OutsideAs (sentFrame s a) t ∧ CommandAnswered (sentFrame s a) t c)) ∧
  (∀ (s : State) (dt m : Nat) (a : Attempt), s.running = true → s.line.attempt = some a → s.line.aborts < 15 →
    a.left ≤ 40 * a.bytes.length → ReadBackAt a dt m → m < 40 * a.bytes.length →
    let d := m - (40 * a.bytes.length - a.left)
    ∃ t : State, exec (.attemptAbort dt) s = .next t ∧ t.line.attempt = none ∧ t.line.driverEnabled = false ∧
      t.line.queue.map (·.body) = s.line.queue.map (·.body) ∧ (∀ q ∈ t.line.queue, q.sending = false) ∧
      t.line.aborts = s.line.aborts + 1 ∧ t.line.lastSender = s.line.lastSender ∧ t.line.muted = s.line.muted ∧
      t.now = s.now + d ∧ t = { s.advance d with line := t.line, picture := t.picture } ∧
      (a.item ≠ .status → t.picture = (s.advance d).picture) ∧
      (∀ x : InFlight, a.item = .status → s.picture.inFlight = some x →
        t.picture = { (s.advance d).picture with
          inFlight := none
          request := some (if x.request.cls == .change || s.picture.request.any (fun y => y.cls == .change) then
              ⟨.change, max (s.now + d) (match s.picture.lastStatus with
                | some begun => begun + 50000
                | none => 0)⟩
            else ⟨.periodic, x.request.time⟩) }) ∧
      (m < 40 → t.line.receiver = s.line.receiver ∧ t.line.received = s.line.received) ∧
      (40 ≤ m → t.line.receiver = .frame ∧ t.line.received = a.bytes.take (m / 40)) ∧
      (m % 40 < 4 → t.line.busy = 0 ∧ t.line.reads = some false ∧
        t.line.idle = if m < 40 then 0 else m % 40) ∧
      (m < 4 → s.loader.station ≠ 0 → s.line.muted = none → s.line.receiver = .hunt →
        (∀ k : Head, t.head = some k → attemptWait t =
          some (4 * holdOffBits (k.cls t.picture.request) (slot s.loader.station s.line.lastSender))) ∧
        ∀ (frame : List Byte) (e : Nat),
          (t.advance e).line.leastTime ((t.advance e).line.missing frame) = 40 * frame.length - e) ∧
      (4 ≤ m % 40 → t.line.busy = 40 - m % 40 ∧ t.line.idle = 0 ∧
        t.line.reads = (s.advance d).line.attempt.map Attempt.bit) ∧
      (4 ≤ m % 40 → (m < 40 → s.line.receiver = .hunt) → ∀ (frame : List Byte) (e : Nat), m / 40 < frame.length →
        (t.advance e).line.leastTime ((t.advance e).line.missing frame) = 40 * frame.length - m - e)) ∧
  (∀ (s : State) (dt m : Nat) (a : Attempt), s.running = true → s.line.attempt = some a →
    a.left ≤ 40 * a.bytes.length → ReadBackAt a dt m → 40 * a.bytes.length ≤ m →
    exec (.attemptAbort dt) s = .next (s.advance dt)) ∧
  (∀ (s : State) (dt : Nat), s.line.attempt = none → exec (.attemptAbort dt) s = .next (s.advance dt))

/-- R183, R184: the 16th consecutive abort mutes the station with cause collisions for 10,000 ms and empties its queue;
when the mute timer runs out, it leaves MUTED and queues FAULT LINE_MUTED with the cause's value. The abort comes at the
middle of a bit, `m` from the attempt's beginning (R180, log entry 33). -/
def Obligations.MutingBeginsAndEnds : Prop :=
  (∀ (s : State) (dt m : Nat) (a : Attempt), s.ready = true → s.loader.station ≠ 0 → s.line.attempt = some a →
    s.line.aborts = 15 → a.left ≤ 40 * a.bytes.length → ReadBackAt a dt m → m < 40 * a.bytes.length →
    let d := m - (40 * a.bytes.length - a.left)
    ∃ t : State, exec (.attemptAbort dt) s = .next t ∧ t.line.muted = some .collisions ∧
      t.line.muteTimer = 10000000 ∧ t.line.queue = [] ∧ t.line.aborts = 0 ∧ t.line.attempt = none ∧
      t.picture.eventsLost = true ∧ t.line.lastSender = s.line.lastSender ∧ t.now = s.now + d ∧
      t = { s.advance d with line := t.line, picture := t.picture }) ∧
  (∀ (s : State) (cause : MuteCause), s.ready = true → s.loader.station ≠ 0 → s.line.muted = some cause →
    s.line.queue = [] →
    ∃ t : State, exec .muteTimerExpiry s = .next t ∧ t.now = s.now + s.line.muteTimer ∧ t.line.muted = none ∧
      t.line.queue = [⟨.event ⟨s.picture.eventSeq, .fault .lineMuted, none, 0, 0, cause.value, s.clock.tick⟩,
        s.now + s.line.muteTimer, false⟩] ∧
      t.picture.eventSeq = s.picture.eventSeq + 1 ∧ (∃ time, t.picture.request = some ⟨.change, time⟩) ∧
      t = { s.advance s.line.muteTimer with line := t.line, picture := t.picture })

/-! ## Runners, pulse units, beacons -/

/-- R157, R145, R147, R166: a HIGH phase is followed by L + 1 ticks low, a LOW phase with repeats left by H + 1 ticks high with one
repeat fewer; a lamp's phase end takes up the pending pattern, or goes on with the BLINK. -/
def Obligations.PhasesOfPatternsAndLamps : Prop :=
  (∀ (s : State) (u : UnitNo) (x : Pattern), s.running = true → s.pulse.safe = false →
    (s.pulse.units[u]).pattern = some x → (x.isHigh = true ∨ 1 < x.repeats) →
    ∃ t : State, exec (.patternPhaseEnd u) s = .next t ∧ t.now = s.now + x.left ∧
      (t.pulse.units[u]).pattern = some (if x.isHigh then ⟨x.high, x.low, x.tick, x.repeats, false, (x.low + 1) * x.tick⟩
        else ⟨x.high, x.low, x.tick, x.repeats - 1, true, (x.high + 1) * x.tick⟩) ∧
      (t.pulse.units[u]).driver = (s.pulse.units[u]).driver ∧
      t = (s.advance x.left).setUnit u t.pulse.units[u]) ∧
  (∀ (s : State) (u : UnitNo) (x : Pattern) (r : RunnerId), s.running = true → s.pulse.safe = false →
    (s.pulse.units[u]).pattern = some x → x.isHigh = false → x.repeats ≤ 1 → (s.pulse.units[u]).driver = some r →
    ∃ t : State, exec (.patternPhaseEnd u) s = .next t ∧ t.now = s.now + x.left ∧
      ((∀ q, (s.runner q).mode ≠ .waitingUnit u) →
        (∀ left, (s.runner r).mode = .delay left →
          (t.pulse.units[u]).pattern = none ∧ (t.pulse.units[u]).driver = none ∧
            (t.pulse.units[u]).lastDriver = (s.pulse.units[u]).lastDriver ∧
            t = (s.advance x.left).setUnit u t.pulse.units[u]) ∧
        (∀ c : Current, (s.runner r).current = some c → c.start.purpose ≠ .grant → s.pulse.drivenBy r = [u] →
          (s.runner r).queue = [] →
          (s.runner r).mode = .draining ∨
            ((s.runner r).mode = .holding u ∧ (s.runners.store[c.index]).last = true) →
          (t.pulse.units[u]).pattern = none ∧ (t.pulse.units[u]).driver = none ∧ t.runner r = Runner.start ∧
            t = ((s.advance x.left).setUnit u t.pulse.units[u]).setRunner r Runner.start) ∧
        (∀ (c : Current) (i : StepNo), (s.runner r).current = some c → (s.runner r).mode = .holding u →
          (s.runners.store[c.index]).last = false → i.val = c.index.val + 1 → (s.runners.store[i]).unit = none →
          (t.pulse.units[u]).pattern = none ∧ (t.pulse.units[u]).driver = none ∧
            t.runner r = ⟨.delay ((s.runners.store[i]).count *
              (((s.runners.store[i]).high + 1) + ((s.runners.store[i]).low + 1)) * (s.runners.store[i]).clock.time),
              some ⟨c.start, i⟩, (s.runner r).queue⟩)) ∧
      (∀ (w other : RunnerId) (c : Current), w ≠ other → (s.runner w).mode = .waitingUnit u →
        (s.runner w).current = some c → (s.runners.store[c.index]).goOn = false →
        (s.runner other).mode ≠ .waitingUnit u ∨ (s.pulse.units[u]).lastDriver = some other →
        (r = w ∨ (∃ left, (s.runner r).mode = .delay left) ∨ (s.runner r).mode = .waitingUnit u) →
        (t.pulse.units[u]).driver = some w ∧ (t.pulse.units[u]).lastDriver = some w ∧
          (t.pulse.units[u]).pattern = some ((s.pulse.pairs[pairOf u]).pattern (s.runners.store[c.index])) ∧
          (t.runner w).mode = .holding u ∧ (t.runner w).current = some c ∧
          t.runner other = (s.advance x.left).runner other)) ∧
  (∀ (s : State) (u : UnitNo) (i : PatternNo) (high low : Nat) (clock : TickClock), s.running = true →
    (s.pulse.units[u]).binding = .lamp → (s.pulse.units[u]).lamp.running = some (.index i) →
    s.pulse.patterns[i] = .blink high low clock →
    ∃ t : State, exec (.lampPhaseEnd u) s = .next t ∧ t.now = s.now + (s.pulse.units[u]).lamp.left ∧
      (t.pulse.units[u]).lamp.pending = none ∧
      ((s.pulse.units[u]).lamp.pending = none → (t.pulse.units[u]).lamp.running = some (.index i) ∧
        (t.pulse.units[u]).lamp.isHigh = !(s.pulse.units[u]).lamp.isHigh ∧
        (t.pulse.units[u]).lamp.left = (if (s.pulse.units[u]).lamp.isHigh then low + 1 else high + 1) * clock.time) ∧
      (∀ j, (s.pulse.units[u]).lamp.pending = some j → (t.pulse.units[u]).lamp.running = some j ∧
        (t.pulse.units[u]).lamp.isHigh = true) ∧
      t = (s.advance (s.pulse.units[u]).lamp.left).setUnit u t.pulse.units[u])

/-- R143, R144, R146, R41: at the end of a delay step the runner moves on: from the last step, with no pattern of its list
running and nothing queued, a release or change list ends and the runner is IDLE; from another step to a delay step next
to it, the runner times that delay. A DISPENSER's one grant list so ended, with nobody waiting and no on-release list,
releases its hold with cause DONE, without refund and with a hold-off entry. -/
def Obligations.DelayEndMovesOn : Prop :=
  ∀ (s : State) (r : RunnerId) (left : Nat) (c : Current), s.running = true → (s.runner r).mode = .delay left →
    (s.runner r).current = some c →
    ((s.runners.store[c.index]).last = true → s.pulse.drivenBy r = [] → (s.runner r).queue = [] →
      c.start.purpose ≠ .grant →
      ∃ t : State, exec (.delayEnd r) s = .next t ∧ t.now = s.now + left ∧ t.runner r = Runner.start ∧
        t = (s.advance left).setRunner r (t.runner r)) ∧
    (∀ i : StepNo, (s.runners.store[c.index]).last = false → i.val = c.index.val + 1 →
      (s.runners.store[i]).unit = none →
      ∃ t : State, exec (.delayEnd r) s = .next t ∧ t.now = s.now + left ∧
        t.runner r = ⟨.delay ((s.runners.store[i]).count *
          (((s.runners.store[i]).high + 1) + ((s.runners.store[i]).low + 1)) * (s.runners.store[i]).clock.time),
          some ⟨c.start, i⟩, (s.runner r).queue⟩ ∧
        t = (s.advance left).setRunner r (t.runner r)) ∧
    (∀ (f : FixtureNo) (d : FixtureConfig) (h : Holder), (s.runners.store[c.index]).last = true →
      s.pulse.drivenBy r = [] → (s.runner r).queue = [] → c.start.purpose = .grant → c.start.fixture = f →
      (s.fixture f).config = some d → d.kind = .dispenser → d.secondList = none → (s.fixture f).state = .held →
      (s.fixture f).claims.holder = some h → (s.fixture f).claims.queue = [] → (s.fixture f).claims.inFlight = 1 →
      ∃ t : State, exec (.delayEnd r) s = .next t ∧ (t.fixture f).state = .free ∧
        (t.fixture f).claims = { ((s.advance left).fixture f).claims with holder := none, inFlight := 0 } ∧
        t.engine.holdOff = ((s.advance left).makeHoldOff h.robot f).engine.holdOff ∧
        t.line = ((s.advance left).createEvent (.release .done) (some f) h.robot h.side
          ((s.fixture f).claims.allowance.get h.side)).line ∧
        t.picture = ((s.advance left).createEvent (.release .done) (some f) h.robot h.side
          ((s.fixture f).claims.allowance.get h.side)).raiseChange.picture ∧
        t.runner r = Runner.start ∧ (∀ q, q ≠ r → t.runner q = (s.advance left).runner q) ∧
        (∀ g, g ≠ f → t.fixture g = (s.advance left).fixture g) ∧ t.clock = (s.advance left).clock ∧
        t.engine.points = s.engine.points ∧ OutsideAs (s.advance left) t)

/-- R74, R75, Table 4-4: a mark or space that ends inside its window moves the decoder on, one outside sends it back, and
one that passes the top of its window sends it to WAIT_IDLE or HUNT; u is 50 µs. A change to active in HUNT begins a header
mark. A trailing mark of 3 to 7 u completes the word, which is then judged as a SIGHTING's would be; one of another width,
or a word that fails its check, brings no sighting. -/
def Obligations.DecoderFollowsTheLevels : Prop :=
  (∀ (s : State) (dt : Nat) (p : PortNo), s.ready = true → (s.ports[p]).active = true →
    (s.ports[p]).decoder ≠ .trailMark →
    ∃ t : State, exec (.beaconLevelChange dt p false) s = .next t ∧ (t.ports[p]).active = false ∧
      (t.ports[p]).elapsed = 0 ∧ (t.ports[p]).bits = (s.ports[p]).bits ∧
      (t.ports[p]).sights = ((s.advance dt).ports[p]).sights ∧
      (t.ports[p]).decoder =
        (let w := ((s.ports[p]).elapsed + dt) / 50
         match (s.ports[p]).decoder with
         | .headerMark => if 17 ≤ w ∧ w ≤ 23 then .headerSpace else .hunt
         | .bitMark => if 3 ≤ w ∧ w ≤ 7 then .bitSpace else .hunt
         | .trailMark | .waitIdle => .hunt
         | .hunt => .hunt
         | .headerSpace => .headerSpace
         | .bitSpace => .bitSpace) ∧
      t = (s.advance dt).setPort p t.ports[p]) ∧
  (∀ (s : State) (dt : Nat) (p : PortNo), s.ready = true → (s.ports[p]).active = false →
    ∃ t : State, exec (.beaconLevelChange dt p true) s = .next t ∧ (t.ports[p]).active = true ∧
      (t.ports[p]).elapsed = 0 ∧ (t.ports[p]).sights = ((s.advance dt).ports[p]).sights ∧
      (let w := ((s.ports[p]).elapsed + dt) / 50
       match (s.ports[p]).decoder with
       | .hunt => (t.ports[p]).decoder = .headerMark
       | .headerSpace =>
         if 8 ≤ w ∧ w ≤ 12 then (t.ports[p]).decoder = .bitMark ∧ (t.ports[p]).bits = []
         else (t.ports[p]).decoder = .headerMark
       | .bitSpace =>
         (3 ≤ w ∧ w ≤ 7 → (t.ports[p]).bits = (s.ports[p]).bits ++ [false]) ∧
         (12 ≤ w ∧ w ≤ 18 → (t.ports[p]).bits = (s.ports[p]).bits ++ [true]) ∧
         ((3 ≤ w ∧ w ≤ 7) ∨ (12 ≤ w ∧ w ≤ 18) →
           (t.ports[p]).decoder = if (s.ports[p]).bits.length + 1 < 12 then .bitMark else .trailMark) ∧
         (¬(3 ≤ w ∧ w ≤ 7) ∧ ¬(12 ≤ w ∧ w ≤ 18) → (t.ports[p]).decoder = .headerMark)
       | .headerMark | .bitMark | .trailMark | .waitIdle => (t.ports[p]).decoder = (s.ports[p]).decoder) ∧
      t = (s.advance dt).setPort p t.ports[p]) ∧
  (∀ (s : State) (dt : Nat) (p : PortNo), s.ready = true → (s.ports[p]).active = true →
    (s.ports[p]).decoder = .trailMark →
    let w := ((s.ports[p]).elapsed + dt) / 50
    (3 ≤ w ∧ w ≤ 7 → ∀ (r : Robot) (i : BitVec 2), (s.ports[p]).bits = beaconWord r i →
      exec (.beaconLevelChange dt p false) s = exec (.sighting dt p r i) s) ∧
    (¬(3 ≤ w ∧ w ≤ 7) ∨ readWord (s.ports[p]).bits = none →
      exec (.beaconLevelChange dt p false) s = .next ((s.advance dt).setPort p
        { (s.advance dt).ports[p] with active := false, decoder := .hunt, elapsed := 0 })) ∧
    ∀ (r : Robot) (intent : Intent), readWord (s.ports[p]).bits = some (r, intent) →
      ∃ i : BitVec 2, (s.ports[p]).bits = beaconWord r i ∧ Intent.ofValue i.toNat = intent) ∧
  (∀ (s : State) (p : PortNo) (w : Nat), s.ready = true → (s.ports[p]).decoder.overrunAt = some w →
    (s.ports[p]).elapsed ≤ w * 50 →
    ∃ t : State, exec (.beaconWindowOverrun p) s = .next t ∧ t.now = s.now + (w * 50 - (s.ports[p]).elapsed) ∧
      (t.ports[p]).decoder =
        (if (s.ports[p]).decoder = .headerSpace ∨ (s.ports[p]).decoder = .bitSpace then .hunt else .waitIdle) ∧
      t = (s.advance (w * 50 - (s.ports[p]).elapsed)).setPort p t.ports[p])

/-! ## Operations and forms -/

/-- R15: an entry for a listed pair replaces it in place; for a new pair it is added, or takes the place of the entry
that expires first, of the lowest fixture and then the lowest robot among several; the next REQUEST of the robot whose
entry was so removed is not set aside. -/
def Obligations.HoldOffEntryIsMade : Prop :=
  ∀ (l : List HoldOff) (e : HoldOff), l.length ≤ 8 →
    (l.Pairwise fun x y => ¬(x.robot = y.robot ∧ x.fixture = y.fixture)) →
    ((∃ x ∈ l, x.robot = e.robot ∧ x.fixture = e.fixture) →
      (addHoldOff l e).length = l.length ∧
        ∀ x, x ∈ addHoldOff l e ↔ x = e ∨ (x ∈ l ∧ ¬(x.robot = e.robot ∧ x.fixture = e.fixture))) ∧
    ((∀ x ∈ l, ¬(x.robot = e.robot ∧ x.fixture = e.fixture)) → l.length < 8 → addHoldOff l e = l ++ [e]) ∧
    ((∀ x ∈ l, ¬(x.robot = e.robot ∧ x.fixture = e.fixture)) → l.length = 8 →
      ∃ y ∈ l, (∀ x ∈ l, y.expiry < x.expiry ∨ (y.expiry = x.expiry ∧ (y.fixture < x.fixture ∨
          (y.fixture = x.fixture ∧ y.robot ≤ x.robot)))) ∧
        (∀ x, x ∈ addHoldOff l e ↔ x = e ∨ (x ∈ l ∧ x ≠ y)) ∧ (addHoldOff l e).length = 8 ∧
        ∀ (s : State) (c : FixtureConfig), s.engine.holdOff = addHoldOff l e →
          s.judgeClaim y.fixture c y.robot ≠ .setAside)

/-- R169, R170, R171, R175: a receiver reads each character that a station sends as its byte, and judges a frame that a
station builds as the valid frame it is, with its payload whole, for every kind, sender 1–31, sequence number and payload
whose length fits. -/
def Obligations.FrameRoundTrip : Prop :=
  (∀ (b : Byte) (quiet : Nat), readCharacter (⟨false, quiet⟩ :: characterRuns b) = some (.byte b)) ∧
  ∀ (k : FrameKind) (sender : StationNo) (seq : Nat) (payload : List Byte), sender ≠ 0 → lengthFits k payload = true →
    judge (frameBytes k sender.val seq payload) = .valid k sender payload

/-- R173, R110: what a receiving station reads from a status payload is what the sender reported. -/
def Obligations.StatusPayloadRoundTrip : Prop :=
  ∀ x : Status, x.resume ≠ .halted → x.tick < 65536 → x.entries.length ≤ 8 →
    (∀ e ∈ x.entries, e.kind.admits e.state = true ∧ e.who < 256 ∧ e.stamp < 65536) →
    lengthFits .status (statusPayload x) = true ∧
      readStatus (statusPayload x) = some ⟨x.phase, x.resume, x.tick, x.entries⟩

/-- R73, R76: every beacon word of a robot 1–63 and an intent value reads back as that robot and intent. -/
def Obligations.BeaconWordRoundTrip : Prop :=
  ∀ (r : Robot) (i : BitVec 2), r ≠ 0 → readWord (beaconWord r i) = some (r, Intent.ofValue i.toNat)

/-- R11: a link that names the own station reads the own fixture table and is met exactly under the conditions of
Table 1-6, and by no DEAD or absent fixture or one of another kind. -/
def Obligations.OwnLinkFollowsItsTable : Prop :=
  ∀ (s : State) (l : Link) (side : Side), l.station = s.loader.station →
    (s.linkMet l side = true ↔
      (∃ c, (s.fixture l.fixture).config = some c ∧ (s.fixture l.fixture).state ≠ .dead ∧
        (match l.test with
          | .ownerMine => c.kind = .zone ∧ (s.fixture l.fixture).control.owner ≠ 0 ∧
              (s.fixture l.fixture).control.owner = side
          | .ownerSide n => c.kind = .zone ∧ (s.fixture l.fixture).control.owner ≠ 0 ∧
              (s.fixture l.fixture).control.owner = n
          | .peerFree => (c.kind = .gate ∨ c.kind = .dispenser) ∧ (s.fixture l.fixture).state = .free
          | .sideHolds => (c.kind = .gate ∨ c.kind = .dispenser) ∧ (s.fixture l.fixture).state = .held ∧
              ∃ h, (s.fixture l.fixture).claims.holder = some h ∧ h.side = side)))

/-- R50, R51, R52, R53, R54, R55, Table 3-1: a zone tick moves owner, level, challenger and contested flag by Table 3-1, in
any state: two or more sides present freeze the zone. At an owner change the OWNER event carries the new owner as its side
and the previous one as its value, with robot 0 and the tick as it stands; every change of owner or level raises CHANGE, and
the on-change list goes to a busy runner's queue. At a counted tick a LIVE zone takes one zone tick so, and a contested one
shows CONTESTED. The counted tick reaches the zone where no fixture below it calls for OVERSTAY or REFILL (log entries 1
and 11). -/
def Obligations.ContestedTickFreezes : Prop :=
  (∀ (s : State) (f : FixtureNo) (c : FixtureConfig) (cmax rate : Nat),
    let z := (s.fixture f).control
    let t := zoneTick s f c cmax rate
    ZoneTickTable z (t.fixture f).control cmax (s.zoneRates c rate) ∧
    (c.firstList = none → (t.fixture f) = { s.fixture f with
        control := (t.fixture f).control, indicator := indicatorOf s.clock.phase (t.fixture f) } ∧
      t.line = (zoneHandsOn s f z (t.fixture f).control).line ∧
      t.picture = (zoneHandsOn s f z (t.fixture f).control).picture ∧ t.engine.holdOff = s.engine.holdOff ∧
      RestAs s t f) ∧
    ∀ i, c.firstList = some i → (s.runner c.runner).mode ≠ .idle → (s.runner c.runner).queue.length < 4 →
      s.clock.phase ≠ .halted → t.runner c.runner = { s.runner c.runner with
        queue := (s.runner c.runner).queue ++
          if (t.fixture f).control.owner ≠ z.owner then [⟨i, f, .change⟩] else [] }) ∧
  ∀ (s : State) (f : FixtureNo) (c : FixtureConfig) (cmax rate : Nat), s.ready = true →
    s.clock.phase.running = true → s.clock.ticking = [] → (s.fixture f).config = some c → c.params = .zone cmax rate →
    (s.fixture f).state = .live →
    (∀ (g : FixtureNo) (d : FixtureConfig), g < f → (s.fixture g).config = some d →
      (∀ limit lost h, d.params = .gate limit lost → (s.fixture g).claims.holder = some h →
        limit = 0 ∨ h.held + 1 < limit) ∧
      ∀ lost acap initial period, d.params = .dispenser lost acap initial period →
        period = 0 ∨ (s.fixture g).claims.refillCount + 1 < period) →
    ∃ t : State, exec .countedTick s = .next t ∧ (t.fixture f).state = .live ∧
      (let u := s.advance (100000 - s.clock.tenth)
       let ticked : State := { u with clock := { u.clock with tick := min 65535 (u.clock.tick + 1) } }
       ZoneTickTable (s.fixture f).control (t.fixture f).control cmax (u.zoneRates c rate) ∧
        (2 ≤ (presentSides (u.zoneRates c rate)).length → (s.fixture f).transient = none →
          (t.fixture f).indicator = .contested) ∧
        (c.firstList = none → (∀ g, g ≠ f → (s.fixture g).config = none ∨ (s.fixture g).state = .dead) →
          t.line = (zoneHandsOn ticked f (s.fixture f).control (t.fixture f).control).line ∧
            t.picture = (zoneHandsOn ticked f (s.fixture f).control (t.fixture f).control).picture))

/-- R178, R179: in any class and after any last sender no two stations share a hold-off, no hold-offs differ by 200 bit
times, and a lower class always goes first. -/
def Obligations.HoldOffsNeverMeet : Prop :=
  ∀ (a b last : StationNo) (c d : Nat), c ≤ 2 → d ≤ 2 →
    (a ≠ b → holdOffBits c (slot a last) ≠ holdOffBits c (slot b last)) ∧
    (c < d → holdOffBits c (slot a last) < holdOffBits d (slot b last)) ∧
    holdOffBits c (slot a last) + 200 ≠ holdOffBits d (slot b last)
end

