-- ==== Sys2Proof/Laws/State.lean ====
section
/-! SUPPORT. Laws/State.lean: what each named update of the state leaves and sets, one lemma per field per update. -/

namespace Sys2Proof.Machine

@[simp] theorem State.setFixture_loader (s : State) (f : FixtureNo) (x : Fixture) : (s.setFixture f x).loader = s.loader := rfl
@[simp] theorem State.setFixture_settings (s : State) (f : FixtureNo) (x : Fixture) : (s.setFixture f x).settings = s.settings := rfl
@[simp] theorem State.setFixture_now (s : State) (f : FixtureNo) (x : Fixture) : (s.setFixture f x).now = s.now := rfl
@[simp] theorem State.setFixture_ports (s : State) (f : FixtureNo) (x : Fixture) : (s.setFixture f x).ports = s.ports := rfl
@[simp] theorem State.setFixture_clock (s : State) (f : FixtureNo) (x : Fixture) : (s.setFixture f x).clock = s.clock := rfl
@[simp] theorem State.setFixture_picture (s : State) (f : FixtureNo) (x : Fixture) : (s.setFixture f x).picture = s.picture := rfl
@[simp] theorem State.setFixture_inputs (s : State) (f : FixtureNo) (x : Fixture) : (s.setFixture f x).inputs = s.inputs := rfl
@[simp] theorem State.setFixture_runners (s : State) (f : FixtureNo) (x : Fixture) : (s.setFixture f x).runners = s.runners := rfl
@[simp] theorem State.setFixture_pulse (s : State) (f : FixtureNo) (x : Fixture) : (s.setFixture f x).pulse = s.pulse := rfl
@[simp] theorem State.setFixture_line (s : State) (f : FixtureNo) (x : Fixture) : (s.setFixture f x).line = s.line := rfl
@[simp] theorem State.setFixture_pending (s : State) (f : FixtureNo) (x : Fixture) : (s.setFixture f x).pending = s.pending := rfl
@[simp] theorem State.setClaims_loader (s : State) (f : FixtureNo) (c : Claims) : (s.setClaims f c).loader = s.loader := rfl
@[simp] theorem State.setClaims_settings (s : State) (f : FixtureNo) (c : Claims) : (s.setClaims f c).settings = s.settings := rfl
@[simp] theorem State.setClaims_now (s : State) (f : FixtureNo) (c : Claims) : (s.setClaims f c).now = s.now := rfl
@[simp] theorem State.setClaims_ports (s : State) (f : FixtureNo) (c : Claims) : (s.setClaims f c).ports = s.ports := rfl
@[simp] theorem State.setClaims_clock (s : State) (f : FixtureNo) (c : Claims) : (s.setClaims f c).clock = s.clock := rfl
@[simp] theorem State.setClaims_picture (s : State) (f : FixtureNo) (c : Claims) : (s.setClaims f c).picture = s.picture := rfl
@[simp] theorem State.setClaims_inputs (s : State) (f : FixtureNo) (c : Claims) : (s.setClaims f c).inputs = s.inputs := rfl
@[simp] theorem State.setClaims_runners (s : State) (f : FixtureNo) (c : Claims) : (s.setClaims f c).runners = s.runners := rfl
@[simp] theorem State.setClaims_pulse (s : State) (f : FixtureNo) (c : Claims) : (s.setClaims f c).pulse = s.pulse := rfl
@[simp] theorem State.setClaims_line (s : State) (f : FixtureNo) (c : Claims) : (s.setClaims f c).line = s.line := rfl
@[simp] theorem State.setClaims_pending (s : State) (f : FixtureNo) (c : Claims) : (s.setClaims f c).pending = s.pending := rfl
@[simp] theorem State.setFixtureState_loader (s : State) (f : FixtureNo) (st : FixtureState) : (s.setFixtureState f st).loader = s.loader := rfl
@[simp] theorem State.setFixtureState_settings (s : State) (f : FixtureNo) (st : FixtureState) : (s.setFixtureState f st).settings = s.settings := rfl
@[simp] theorem State.setFixtureState_now (s : State) (f : FixtureNo) (st : FixtureState) : (s.setFixtureState f st).now = s.now := rfl
@[simp] theorem State.setFixtureState_ports (s : State) (f : FixtureNo) (st : FixtureState) : (s.setFixtureState f st).ports = s.ports := rfl
@[simp] theorem State.setFixtureState_clock (s : State) (f : FixtureNo) (st : FixtureState) : (s.setFixtureState f st).clock = s.clock := rfl
@[simp] theorem State.setFixtureState_picture (s : State) (f : FixtureNo) (st : FixtureState) : (s.setFixtureState f st).picture = s.picture := rfl
@[simp] theorem State.setFixtureState_inputs (s : State) (f : FixtureNo) (st : FixtureState) : (s.setFixtureState f st).inputs = s.inputs := rfl
@[simp] theorem State.setFixtureState_runners (s : State) (f : FixtureNo) (st : FixtureState) : (s.setFixtureState f st).runners = s.runners := rfl
@[simp] theorem State.setFixtureState_pulse (s : State) (f : FixtureNo) (st : FixtureState) : (s.setFixtureState f st).pulse = s.pulse := rfl
@[simp] theorem State.setFixtureState_line (s : State) (f : FixtureNo) (st : FixtureState) : (s.setFixtureState f st).line = s.line := rfl
@[simp] theorem State.setFixtureState_pending (s : State) (f : FixtureNo) (st : FixtureState) : (s.setFixtureState f st).pending = s.pending := rfl
@[simp] theorem State.setHoldOff_loader (s : State) (l : List HoldOff) : (s.setHoldOff l).loader = s.loader := rfl
@[simp] theorem State.setHoldOff_settings (s : State) (l : List HoldOff) : (s.setHoldOff l).settings = s.settings := rfl
@[simp] theorem State.setHoldOff_now (s : State) (l : List HoldOff) : (s.setHoldOff l).now = s.now := rfl
@[simp] theorem State.setHoldOff_ports (s : State) (l : List HoldOff) : (s.setHoldOff l).ports = s.ports := rfl
@[simp] theorem State.setHoldOff_clock (s : State) (l : List HoldOff) : (s.setHoldOff l).clock = s.clock := rfl
@[simp] theorem State.setHoldOff_picture (s : State) (l : List HoldOff) : (s.setHoldOff l).picture = s.picture := rfl
@[simp] theorem State.setHoldOff_inputs (s : State) (l : List HoldOff) : (s.setHoldOff l).inputs = s.inputs := rfl
@[simp] theorem State.setHoldOff_runners (s : State) (l : List HoldOff) : (s.setHoldOff l).runners = s.runners := rfl
@[simp] theorem State.setHoldOff_pulse (s : State) (l : List HoldOff) : (s.setHoldOff l).pulse = s.pulse := rfl
@[simp] theorem State.setHoldOff_line (s : State) (l : List HoldOff) : (s.setHoldOff l).line = s.line := rfl
@[simp] theorem State.setHoldOff_pending (s : State) (l : List HoldOff) : (s.setHoldOff l).pending = s.pending := rfl
@[simp] theorem State.setPort_loader (s : State) (p : PortNo) (x : Port) : (s.setPort p x).loader = s.loader := rfl
@[simp] theorem State.setPort_settings (s : State) (p : PortNo) (x : Port) : (s.setPort p x).settings = s.settings := rfl
@[simp] theorem State.setPort_now (s : State) (p : PortNo) (x : Port) : (s.setPort p x).now = s.now := rfl
@[simp] theorem State.setPort_engine (s : State) (p : PortNo) (x : Port) : (s.setPort p x).engine = s.engine := rfl
@[simp] theorem State.setPort_clock (s : State) (p : PortNo) (x : Port) : (s.setPort p x).clock = s.clock := rfl
@[simp] theorem State.setPort_picture (s : State) (p : PortNo) (x : Port) : (s.setPort p x).picture = s.picture := rfl
@[simp] theorem State.setPort_inputs (s : State) (p : PortNo) (x : Port) : (s.setPort p x).inputs = s.inputs := rfl
@[simp] theorem State.setPort_runners (s : State) (p : PortNo) (x : Port) : (s.setPort p x).runners = s.runners := rfl
@[simp] theorem State.setPort_pulse (s : State) (p : PortNo) (x : Port) : (s.setPort p x).pulse = s.pulse := rfl
@[simp] theorem State.setPort_line (s : State) (p : PortNo) (x : Port) : (s.setPort p x).line = s.line := rfl
@[simp] theorem State.setPort_pending (s : State) (p : PortNo) (x : Port) : (s.setPort p x).pending = s.pending := rfl
@[simp] theorem State.setUnit_loader (s : State) (u : UnitNo) (x : PulseUnit) : (s.setUnit u x).loader = s.loader := rfl
@[simp] theorem State.setUnit_settings (s : State) (u : UnitNo) (x : PulseUnit) : (s.setUnit u x).settings = s.settings := rfl
@[simp] theorem State.setUnit_now (s : State) (u : UnitNo) (x : PulseUnit) : (s.setUnit u x).now = s.now := rfl
@[simp] theorem State.setUnit_engine (s : State) (u : UnitNo) (x : PulseUnit) : (s.setUnit u x).engine = s.engine := rfl
@[simp] theorem State.setUnit_ports (s : State) (u : UnitNo) (x : PulseUnit) : (s.setUnit u x).ports = s.ports := rfl
@[simp] theorem State.setUnit_clock (s : State) (u : UnitNo) (x : PulseUnit) : (s.setUnit u x).clock = s.clock := rfl
@[simp] theorem State.setUnit_picture (s : State) (u : UnitNo) (x : PulseUnit) : (s.setUnit u x).picture = s.picture := rfl
@[simp] theorem State.setUnit_inputs (s : State) (u : UnitNo) (x : PulseUnit) : (s.setUnit u x).inputs = s.inputs := rfl
@[simp] theorem State.setUnit_runners (s : State) (u : UnitNo) (x : PulseUnit) : (s.setUnit u x).runners = s.runners := rfl
@[simp] theorem State.setUnit_line (s : State) (u : UnitNo) (x : PulseUnit) : (s.setUnit u x).line = s.line := rfl
@[simp] theorem State.setUnit_pending (s : State) (u : UnitNo) (x : PulseUnit) : (s.setUnit u x).pending = s.pending := rfl
@[simp] theorem State.setInput_loader (s : State) (i : InputNo) (x : Input) : (s.setInput i x).loader = s.loader := rfl
@[simp] theorem State.setInput_settings (s : State) (i : InputNo) (x : Input) : (s.setInput i x).settings = s.settings := rfl
@[simp] theorem State.setInput_now (s : State) (i : InputNo) (x : Input) : (s.setInput i x).now = s.now := rfl
@[simp] theorem State.setInput_engine (s : State) (i : InputNo) (x : Input) : (s.setInput i x).engine = s.engine := rfl
@[simp] theorem State.setInput_ports (s : State) (i : InputNo) (x : Input) : (s.setInput i x).ports = s.ports := rfl
@[simp] theorem State.setInput_clock (s : State) (i : InputNo) (x : Input) : (s.setInput i x).clock = s.clock := rfl
@[simp] theorem State.setInput_picture (s : State) (i : InputNo) (x : Input) : (s.setInput i x).picture = s.picture := rfl
@[simp] theorem State.setInput_runners (s : State) (i : InputNo) (x : Input) : (s.setInput i x).runners = s.runners := rfl
@[simp] theorem State.setInput_pulse (s : State) (i : InputNo) (x : Input) : (s.setInput i x).pulse = s.pulse := rfl
@[simp] theorem State.setInput_line (s : State) (i : InputNo) (x : Input) : (s.setInput i x).line = s.line := rfl
@[simp] theorem State.setInput_pending (s : State) (i : InputNo) (x : Input) : (s.setInput i x).pending = s.pending := rfl
@[simp] theorem State.setRunner_loader (s : State) (r : RunnerId) (x : Runner) : (s.setRunner r x).loader = s.loader := by cases r <;> rfl
@[simp] theorem State.setRunner_settings (s : State) (r : RunnerId) (x : Runner) : (s.setRunner r x).settings = s.settings := by cases r <;> rfl
@[simp] theorem State.setRunner_now (s : State) (r : RunnerId) (x : Runner) : (s.setRunner r x).now = s.now := by cases r <;> rfl
@[simp] theorem State.setRunner_engine (s : State) (r : RunnerId) (x : Runner) : (s.setRunner r x).engine = s.engine := by cases r <;> rfl
@[simp] theorem State.setRunner_ports (s : State) (r : RunnerId) (x : Runner) : (s.setRunner r x).ports = s.ports := by cases r <;> rfl
@[simp] theorem State.setRunner_clock (s : State) (r : RunnerId) (x : Runner) : (s.setRunner r x).clock = s.clock := by cases r <;> rfl
@[simp] theorem State.setRunner_picture (s : State) (r : RunnerId) (x : Runner) : (s.setRunner r x).picture = s.picture := by cases r <;> rfl
@[simp] theorem State.setRunner_inputs (s : State) (r : RunnerId) (x : Runner) : (s.setRunner r x).inputs = s.inputs := by cases r <;> rfl
@[simp] theorem State.setRunner_pulse (s : State) (r : RunnerId) (x : Runner) : (s.setRunner r x).pulse = s.pulse := by cases r <;> rfl
@[simp] theorem State.setRunner_line (s : State) (r : RunnerId) (x : Runner) : (s.setRunner r x).line = s.line := by cases r <;> rfl
@[simp] theorem State.setRunner_pending (s : State) (r : RunnerId) (x : Runner) : (s.setRunner r x).pending = s.pending := by cases r <;> rfl

/-! ## The parts of a block that an update leaves, and what it sets -/

theorem State.fixture_def (s : State) (f : FixtureNo) : s.fixture f = s.engine.fixtures[f] := rfl

@[simp] theorem State.setFixture_fixture (s : State) (f g : FixtureNo) (x : Fixture) :
    (s.setFixture f x).fixture g = if f = g then x else s.fixture g := put_get _ _ _ _

theorem State.setFixture_fixture_same (s : State) (f : FixtureNo) (x : Fixture) : (s.setFixture f x).fixture f = x := by
  simp

theorem State.setFixture_fixture_other (s : State) {f g : FixtureNo} (h : f ≠ g) (x : Fixture) :
    (s.setFixture f x).fixture g = s.fixture g := by simp [h]

@[simp] theorem State.setFixture_holdOff (s : State) (f : FixtureNo) (x : Fixture) :
    (s.setFixture f x).engine.holdOff = s.engine.holdOff := rfl

@[simp] theorem State.setFixture_points (s : State) (f : FixtureNo) (x : Fixture) :
    (s.setFixture f x).engine.points = s.engine.points := rfl

@[simp] theorem State.setFixture_sideTable (s : State) (f : FixtureNo) (x : Fixture) :
    (s.setFixture f x).engine.sideTable = s.engine.sideTable := rfl

@[simp] theorem State.setClaims_fixture (s : State) (f g : FixtureNo) (c : Claims) :
    (s.setClaims f c).fixture g = if f = g then { s.fixture f with claims := c } else s.fixture g := put_get _ _ _ _

@[simp] theorem State.setClaims_holdOff (s : State) (f : FixtureNo) (c : Claims) :
    (s.setClaims f c).engine.holdOff = s.engine.holdOff := rfl

@[simp] theorem State.setClaims_points (s : State) (f : FixtureNo) (c : Claims) :
    (s.setClaims f c).engine.points = s.engine.points := rfl

@[simp] theorem State.setClaims_sideTable (s : State) (f : FixtureNo) (c : Claims) :
    (s.setClaims f c).engine.sideTable = s.engine.sideTable := rfl

@[simp] theorem State.setFixtureState_fixture (s : State) (f g : FixtureNo) (st : FixtureState) :
    (s.setFixtureState f st).fixture g = if f = g then { s.fixture f with state := st } else s.fixture g :=
  put_get _ _ _ _

@[simp] theorem State.setFixtureState_holdOff (s : State) (f : FixtureNo) (st : FixtureState) :
    (s.setFixtureState f st).engine.holdOff = s.engine.holdOff := rfl

@[simp] theorem State.setFixtureState_points (s : State) (f : FixtureNo) (st : FixtureState) :
    (s.setFixtureState f st).engine.points = s.engine.points := rfl

@[simp] theorem State.setFixtureState_sideTable (s : State) (f : FixtureNo) (st : FixtureState) :
    (s.setFixtureState f st).engine.sideTable = s.engine.sideTable := rfl

@[simp] theorem State.setHoldOff_holdOff (s : State) (l : List HoldOff) : (s.setHoldOff l).engine.holdOff = l := rfl

@[simp] theorem State.setHoldOff_fixture (s : State) (l : List HoldOff) (f : FixtureNo) :
    (s.setHoldOff l).fixture f = s.fixture f := rfl

@[simp] theorem State.setHoldOff_points (s : State) (l : List HoldOff) :
    (s.setHoldOff l).engine.points = s.engine.points := rfl

@[simp] theorem State.setHoldOff_sideTable (s : State) (l : List HoldOff) :
    (s.setHoldOff l).engine.sideTable = s.engine.sideTable := rfl

@[simp] theorem State.setPort_ports (s : State) (p q : PortNo) (x : Port) :
    (s.setPort p x).ports[q] = if p = q then x else s.ports[q] := put_get _ _ _ _

@[simp] theorem State.setPort_ports_val (s : State) (p q : PortNo) (x : Port) :
    (s.setPort p x).ports[q.val] = if p = q then x else s.ports[q.val] := put_get _ _ _ _

@[simp] theorem State.setPort_fixture (s : State) (p : PortNo) (x : Port) (f : FixtureNo) :
    (s.setPort p x).fixture f = s.fixture f := rfl

@[simp] theorem State.setUnit_units (s : State) (u v : UnitNo) (x : PulseUnit) :
    (s.setUnit u x).pulse.units[v] = if u = v then x else s.pulse.units[v] := put_get _ _ _ _

@[simp] theorem State.setUnit_units_val (s : State) (u v : UnitNo) (x : PulseUnit) :
    (s.setUnit u x).pulse.units[v.val] = if u = v then x else s.pulse.units[v.val] := put_get _ _ _ _

@[simp] theorem State.setUnit_pairs (s : State) (u : UnitNo) (x : PulseUnit) :
    (s.setUnit u x).pulse.pairs = s.pulse.pairs := rfl

@[simp] theorem State.setUnit_patterns (s : State) (u : UnitNo) (x : PulseUnit) :
    (s.setUnit u x).pulse.patterns = s.pulse.patterns := rfl

@[simp] theorem State.setUnit_safe (s : State) (u : UnitNo) (x : PulseUnit) :
    (s.setUnit u x).pulse.safe = s.pulse.safe := rfl

@[simp] theorem State.setUnit_fixture (s : State) (u : UnitNo) (x : PulseUnit) (f : FixtureNo) :
    (s.setUnit u x).fixture f = s.fixture f := rfl

@[simp] theorem State.setInput_records (s : State) (i j : InputNo) (x : Input) :
    (s.setInput i x).inputs.records[j] = if i = j then x else s.inputs.records[j] := put_get _ _ _ _

@[simp] theorem State.setInput_records_val (s : State) (i j : InputNo) (x : Input) :
    (s.setInput i x).inputs.records[j.val] = if i = j then x else s.inputs.records[j.val] := put_get _ _ _ _

@[simp] theorem State.setInput_sampleTimer (s : State) (i : InputNo) (x : Input) :
    (s.setInput i x).inputs.sampleTimer = s.inputs.sampleTimer := rfl

@[simp] theorem State.setInput_fixture (s : State) (i : InputNo) (x : Input) (f : FixtureNo) :
    (s.setInput i x).fixture f = s.fixture f := rfl

@[simp] theorem State.setRunner_runner_same (s : State) (r : RunnerId) (x : Runner) : (s.setRunner r x).runner r = x := by
  cases r <;> rfl

theorem State.setRunner_runner (s : State) (r q : RunnerId) (x : Runner) :
    (s.setRunner r x).runner q = if r = q then x else s.runner q := by
  cases r <;> cases q <;> rfl

@[simp] theorem State.setRunner_store (s : State) (r : RunnerId) (x : Runner) :
    (s.setRunner r x).runners.store = s.runners.store := by cases r <;> rfl

@[simp] theorem State.setRunner_fault (s : State) (r : RunnerId) (x : Runner) :
    (s.setRunner r x).runners.fault = s.runners.fault := by cases r <;> rfl

@[simp] theorem State.setRunner_fixture (s : State) (r : RunnerId) (x : Runner) (f : FixtureNo) :
    (s.setRunner r x).fixture f = s.fixture f := by cases r <;> rfl

end Sys2Proof.Machine
end

