-- ==== Sys2Proof/Laws/Time.lean ====
section
/-! SUPPORT. Laws/Time.lean: what the passing of time leaves, and what it changes in each block. -/

namespace Sys2Proof.Machine

/-- R77: while the station does not run, nothing counts. -/
theorem State.advance_stopped (s : State) (d : Nat) (h : s.running = false) : s.advance d = s := by
  simp [State.advance, h]

/-- Everything time can do to a running station: each block advances by its own rule. -/
theorem State.advance_running (s : State) (d : Nat) (h : s.running = true) :
    s.advance d =
      { s with
        now := s.now + d
        engine := s.engine.advance (s.now + d) d (if s.clock.phase = .halted then 0 else d)
        ports := Vector.ofFn fun i => s.ports[i].advance (s.now + d) s.settings.sightWindow d
        clock := s.clock.advance d
        picture := s.picture.advance s.loader.station d
        inputs := s.inputs.advance s.ready d
        runners := s.runners.advance d
        pulse := s.pulse.advance d
        line := s.line.advance d } := by
  simp [State.advance, h]

@[simp] theorem State.advance_loader (s : State) (d : Nat) : (s.advance d).loader = s.loader := by
  unfold State.advance; split <;> rfl

@[simp] theorem State.advance_settings (s : State) (d : Nat) : (s.advance d).settings = s.settings := by
  unfold State.advance; split <;> rfl

@[simp] theorem State.advance_pending (s : State) (d : Nat) : (s.advance d).pending = s.pending := by
  unfold State.advance; split <;> rfl

@[simp] theorem State.advance_ready (s : State) (d : Nat) : (s.advance d).ready = s.ready := by
  simp [State.ready]

@[simp] theorem State.advance_isRunning (s : State) (d : Nat) : (s.advance d).running = s.running := by
  simp [State.running]

@[simp] theorem State.advance_phase (s : State) (d : Nat) : (s.advance d).clock.phase = s.clock.phase := by
  unfold State.advance; split <;> rfl

@[simp] theorem State.advance_resume (s : State) (d : Nat) : (s.advance d).clock.resume = s.clock.resume := by
  unfold State.advance; split <;> rfl

@[simp] theorem State.advance_tick (s : State) (d : Nat) : (s.advance d).clock.tick = s.clock.tick := by
  unfold State.advance; split <;> rfl

@[simp] theorem State.advance_periods (s : State) (d : Nat) : (s.advance d).clock.periods = s.clock.periods := by
  unfold State.advance; split <;> rfl

@[simp] theorem State.advance_ends (s : State) (d : Nat) : (s.advance d).clock.ends = s.clock.ends := by
  unfold State.advance; split <;> rfl

@[simp] theorem State.advance_points (s : State) (d : Nat) : (s.advance d).engine.points = s.engine.points := by
  unfold State.advance; split <;> rfl

@[simp] theorem State.advance_sideTable (s : State) (d : Nat) :
    (s.advance d).engine.sideTable = s.engine.sideTable := by
  unfold State.advance; split <;> rfl

@[simp] theorem State.advance_sideOf (s : State) (d : Nat) (r : Robot) : (s.advance d).sideOf r = s.sideOf r := by
  simp [State.sideOf]

@[simp] theorem State.advance_request (s : State) (d : Nat) : (s.advance d).picture.request = s.picture.request := by
  unfold State.advance; split <;> simp [Picture.advance]

@[simp] theorem State.advance_inFlight (s : State) (d : Nat) :
    (s.advance d).picture.inFlight = s.picture.inFlight := by
  unfold State.advance; split <;> simp [Picture.advance]

@[simp] theorem State.advance_eventSeq (s : State) (d : Nat) :
    (s.advance d).picture.eventSeq = s.picture.eventSeq := by
  unfold State.advance; split <;> simp [Picture.advance]

@[simp] theorem State.advance_eventsLost (s : State) (d : Nat) :
    (s.advance d).picture.eventsLost = s.picture.eventsLost := by
  unfold State.advance; split <;> simp [Picture.advance]

@[simp] theorem State.advance_records (s : State) (d : Nat) : (s.advance d).inputs.records = s.inputs.records := by
  unfold State.advance; split <;> rfl

@[simp] theorem State.advance_store (s : State) (d : Nat) : (s.advance d).runners.store = s.runners.store := by
  unfold State.advance; split <;> rfl

@[simp] theorem State.advance_runnerFault (s : State) (d : Nat) : (s.advance d).runners.fault = s.runners.fault := by
  unfold State.advance; split <;> rfl

@[simp] theorem State.advance_safe (s : State) (d : Nat) : (s.advance d).pulse.safe = s.pulse.safe := by
  unfold State.advance; split <;> rfl

@[simp] theorem State.advance_patterns (s : State) (d : Nat) :
    (s.advance d).pulse.patterns = s.pulse.patterns := by
  unfold State.advance; split <;> rfl

/-- Everything the receiver can come to by hearing the station's own attempt: in the frame, with the characters sent, once
SYNC has been sent; otherwise as it was. -/
theorem Line.hearOwn_cases (l : Line) :
    l.hearOwn = l ∨ ∃ a, l.attempt = some a ∧ 0 < a.sent ∧
      l.hearOwn = { l with receiver := .frame, received := a.bytes.take a.sent } := by
  unfold Line.hearOwn
  split
  · exact .inl rfl
  · rename_i a h
    split
    · exact .inl rfl
    · exact .inr ⟨a, h, by omega, rfl⟩

theorem Line.hearOwn_none (l : Line) (h : l.attempt = none) : l.hearOwn = l := by simp [Line.hearOwn, h]

@[simp] theorem Line.hearOwn_queue (l : Line) : l.hearOwn.queue = l.queue := by
  unfold Line.hearOwn; split <;> [rfl; (split <;> rfl)]

@[simp] theorem Line.hearOwn_lastSender (l : Line) : l.hearOwn.lastSender = l.lastSender := by
  unfold Line.hearOwn; split <;> [rfl; (split <;> rfl)]

@[simp] theorem Line.hearOwn_aborts (l : Line) : l.hearOwn.aborts = l.aborts := by
  unfold Line.hearOwn; split <;> [rfl; (split <;> rfl)]

@[simp] theorem Line.hearOwn_muted (l : Line) : l.hearOwn.muted = l.muted := by
  unfold Line.hearOwn; split <;> [rfl; (split <;> rfl)]

@[simp] theorem Line.hearOwn_muteTimer (l : Line) : l.hearOwn.muteTimer = l.muteTimer := by
  unfold Line.hearOwn; split <;> [rfl; (split <;> rfl)]

@[simp] theorem Line.hearOwn_attempt (l : Line) : l.hearOwn.attempt = l.attempt := by
  unfold Line.hearOwn; split <;> [rfl; (split <;> rfl)]

@[simp] theorem Line.hearOwn_busy (l : Line) : l.hearOwn.busy = l.busy := by
  unfold Line.hearOwn; split <;> [rfl; (split <;> rfl)]

@[simp] theorem Line.hearOwn_standing (l : Line) : l.hearOwn.standing = l.standing := by
  unfold Line.hearOwn; split <;> [rfl; (split <;> rfl)]

@[simp] theorem Line.hearOwn_idle (l : Line) : l.hearOwn.idle = l.idle := by
  unfold Line.hearOwn; split <;> [rfl; (split <;> rfl)]

/-- Without an attempt the line only falls quiet, and its quiet and mute times count. -/
theorem Line.advance_quiet (l : Line) (d : Nat) (h : l.attempt = none) :
    l.advance d =
      { l with
        busy := l.busy - d
        standing := l.standing.advance d
        idle := l.idle + (d - l.busy)
        muteTimer := l.muteTimer - d } := by
  cases l; simp only at h; subst h; simp [Line.advance, Line.hearOwn]

@[simp] theorem State.advance_queue (s : State) (d : Nat) : (s.advance d).line.queue = s.line.queue := by
  unfold State.advance; split <;> simp [Line.advance]

@[simp] theorem State.advance_lastSender (s : State) (d : Nat) :
    (s.advance d).line.lastSender = s.line.lastSender := by
  unfold State.advance; split <;> simp [Line.advance]

@[simp] theorem State.advance_aborts (s : State) (d : Nat) : (s.advance d).line.aborts = s.line.aborts := by
  unfold State.advance; split <;> simp [Line.advance]

@[simp] theorem State.advance_muted (s : State) (d : Nat) : (s.advance d).line.muted = s.line.muted := by
  unfold State.advance; split <;> simp [Line.advance]

/-- Time alone begins and ends no attempt. -/
@[simp] theorem State.advance_attempting (s : State) (d : Nat) :
    (s.advance d).line.attempt.isSome = s.line.attempt.isSome := by
  unfold State.advance; split <;> simp [Line.advance]

/-- Outside an attempt the receiver's state does not change by time alone. -/
theorem State.advance_receiver (s : State) (d : Nat) (h : s.line.attempt = none) :
    (s.advance d).line.receiver = s.line.receiver := by
  unfold State.advance; split
  · simp [s.line.advance_quiet d h]
  · rfl

/-- A fixture of a running station over time. -/
theorem State.advance_fixture (s : State) (d : Nat) (f : FixtureNo) (h : s.running = true) :
    (s.advance d).fixture f = (s.fixture f).advance d (if s.clock.phase = .halted then 0 else d) := by
  simp [State.advance_running s d h, State.fixture, Engine.advance]

theorem State.advance_holdOff (s : State) (d : Nat) (h : s.running = true) :
    (s.advance d).engine.holdOff = s.engine.holdOff.filter (HoldOff.stands (s.now + d)) := by
  simp [State.advance_running s d h, Engine.advance]

/-- A fixture's configuration, state, control and indicator do not change by time alone. -/
@[simp] theorem Fixture.advance_config (x : Fixture) (d e : Nat) : (x.advance d e).config = x.config := rfl
@[simp] theorem Fixture.advance_state (x : Fixture) (d e : Nat) : (x.advance d e).state = x.state := rfl
@[simp] theorem Fixture.advance_control (x : Fixture) (d e : Nat) : (x.advance d e).control = x.control := rfl
@[simp] theorem Fixture.advance_transient (x : Fixture) (d e : Nat) : (x.advance d e).transient = x.transient := rfl
@[simp] theorem Fixture.advance_indicator (x : Fixture) (d e : Nat) : (x.advance d e).indicator = x.indicator := rfl
@[simp] theorem Claims.advance_allowance (c : Claims) (e : Nat) : (c.advance e).allowance = c.allowance := rfl
@[simp] theorem Claims.advance_refillCount (c : Claims) (e : Nat) : (c.advance e).refillCount = c.refillCount := rfl
@[simp] theorem Claims.advance_inFlight (c : Claims) (e : Nat) : (c.advance e).inFlight = c.inFlight := rfl

@[simp] theorem State.advance_fixture_config (s : State) (d : Nat) (f : FixtureNo) :
    ((s.advance d).fixture f).config = (s.fixture f).config := by
  by_cases h : s.running = true
  · rw [s.advance_fixture d f h]; rfl
  · rw [s.advance_stopped d (by simpa using h)]

@[simp] theorem State.advance_fixture_state (s : State) (d : Nat) (f : FixtureNo) :
    ((s.advance d).fixture f).state = (s.fixture f).state := by
  by_cases h : s.running = true
  · rw [s.advance_fixture d f h]; rfl
  · rw [s.advance_stopped d (by simpa using h)]

/-! ## The two shapes of a command's meaning -/

/-- An expiry that can come takes its missing time and acts. -/
theorem onExpiry_some {wait : State → Option Nat} {act : State → State} {s : State} {d : Nat} (h : wait s = some d) :
    onExpiry wait act s = .next (act (s.advance d)) := by simp [onExpiry, h]

/-- One that cannot come leaves the state. -/
theorem onExpiry_none {wait : State → Option Nat} {act : State → State} {s : State} (h : wait s = none) :
    onExpiry wait act s = .next s := by simp [onExpiry, h]

theorem afterTime_eq (dt : Nat) (act : State → State) (s : State) : afterTime dt act s = .next (act (s.advance dt)) := rfl

end Sys2Proof.Machine
end

