-- ==== Sys2Proof/Laws/Line.lean ====
section
/-! SUPPORT. Laws/Line.lean: what the receiver's own updates leave and set, and everything the reception of a frame can
come to (R174, R175). -/

namespace Sys2Proof.Machine

@[simp] theorem State.skip_loader (s : State) (b i : Nat) : (s.skip b i).loader = s.loader := rfl
@[simp] theorem State.skip_settings (s : State) (b i : Nat) : (s.skip b i).settings = s.settings := rfl
@[simp] theorem State.skip_now (s : State) (b i : Nat) : (s.skip b i).now = s.now := rfl
@[simp] theorem State.skip_engine (s : State) (b i : Nat) : (s.skip b i).engine = s.engine := rfl
@[simp] theorem State.skip_ports (s : State) (b i : Nat) : (s.skip b i).ports = s.ports := rfl
@[simp] theorem State.skip_clock (s : State) (b i : Nat) : (s.skip b i).clock = s.clock := rfl
@[simp] theorem State.skip_picture (s : State) (b i : Nat) : (s.skip b i).picture = s.picture := rfl
@[simp] theorem State.skip_inputs (s : State) (b i : Nat) : (s.skip b i).inputs = s.inputs := rfl
@[simp] theorem State.skip_runners (s : State) (b i : Nat) : (s.skip b i).runners = s.runners := rfl
@[simp] theorem State.skip_pulse (s : State) (b i : Nat) : (s.skip b i).pulse = s.pulse := rfl
@[simp] theorem State.skip_pending (s : State) (b i : Nat) : (s.skip b i).pending = s.pending := rfl

theorem State.skip_line (s : State) (b i : Nat) :
    (s.skip b i).line = { s.line.fallen b with receiver := .skip, received := [], idle := i } := rfl

/-- A quiet line is a recessive one. -/
theorem Line.fallen_quiet (l : Line) : l.fallen 0 = { l with busy := 0, standing := .recessive } := rfl

/-- Everything a dominant level changes on the line: what stands there, and for how long. -/
theorem Line.fallen_eq (l : Line) (d : Nat) :
    l.fallen d = { l with busy := d, standing := if d = 0 then .recessive else .dominant } := rfl

/-- R169: a line that stands dominant reads so until it returns to recessive. -/
theorem Line.fallen_reads (l : Line) (d : Nat) (h : l.attempt = none) : (l.fallen d).reads = some (d != 0) := by
  by_cases k : d = 0 <;> simp [Line.reads, Line.fallen, h, k]

/-- Everything a frame's reception can come to: the wanted frame, judged in a receiver in SKIP once its time has passed;
or, for a frame that cannot complete here or is not the one named, the time alone. -/
theorem receiveFrame_cases (wanted : Judgement → Bool) (dt : Nat) (frame : List Byte) (s : State) :
    (receiveFrame wanted dt frame s = .next (s.advance dt) ∧
      ¬(s.hears = true ∧ s.line.continues frame = true ∧ wanted (judge frame) = true)) ∨
    (s.hears = true ∧ s.line.continues frame = true ∧ wanted (judge frame) = true ∧
      receiveFrame wanted dt frame s = .next
        (match judge frame with
          | .valid kind sender payload =>
            takeFrame ((s.advance (max dt (s.line.leastTime (s.line.missing frame)))).skip 0 0) kind sender payload
          | .discarded | .incomplete =>
            (s.advance (max dt (s.line.leastTime (s.line.missing frame)))).skip 0 0)) := by
  by_cases h : (s.hears && s.line.continues frame && wanted (judge frame)) = true
  · have k := h
    simp only [Bool.and_eq_true] at k
    refine .inr ⟨k.1.1, k.1.2, k.2, ?_⟩
    simp only [receiveFrame, h, if_true]
    cases judge frame <;> rfl
  · refine .inl ⟨by simp only [receiveFrame, h]; rfl, fun k => h ?_⟩
    simp [k.1, k.2.1, k.2.2]

/-- Everything a character command can come to: the character heard once its time has passed; or, where the station hears
nothing or no start bit comes, the time alone. -/
theorem execNonSyncCharacter_cases (dt : Nat) (line : List LineRun) (s : State) :
    (execNonSyncCharacter dt line s = .next (s.advance dt) ∧ ¬(s.hears = true ∧ (readCharacter line).isSome = true)) ∨
    ∃ heard, s.hears = true ∧ readCharacter line = some heard ∧
      execNonSyncCharacter dt line s =
        .next ((s.advance (max dt (s.line.characterWait - heard.early))).hear heard) := by
  unfold execNonSyncCharacter
  split
  · rename_i heard h k; exact .inr ⟨heard, h, k, rfl⟩
  · rename_i h
    refine .inl ⟨rfl, fun k => ?_⟩
    obtain ⟨heard, e⟩ := Option.isSome_iff_exists.mp k.2
    exact h heard k.1 e

/-- An abandonment changes nothing but the line. -/
theorem State.abandon_line (cause : AbandonCause) (s : State) :
    ∃ l : Line, State.abandon cause s = { s with line := l } := by
  unfold State.abandon; split
  · exact ⟨_, rfl⟩
  · exact ⟨_, rfl⟩
  · split <;> exact ⟨_, rfl⟩

/-- Everything an abort leaves on the line: no attempt, and either a quiet line or the rest of a character. -/
theorem Line.leaveAttempt_cases (l : Line) (a : Attempt) :
    ∃ busy standing idle,
      l.leaveAttempt a = { l with attempt := none, busy := busy, standing := standing, idle := idle } := by
  unfold Line.leaveAttempt; simp only; split <;> exact ⟨_, _, _, rfl⟩

/-- R180: an attempt is read back at the middles of its bits alone, before its last stop bit ends. -/
theorem Attempt.readBack_some {a : Attempt} {dt d : Nat} (h : a.readBack dt = some d) :
    dt ≤ d ∧ d < dt + 4 ∧ (a.elapsed + d) % 4 = 2 ∧ a.elapsed + d < 40 * a.bytes.length := by
  simp only [Attempt.readBack, Config.bitTime, Config.characterTime] at h
  by_cases k : (a.elapsed + dt + 4 / 2) % 4 = 0 <;> simp only [k, if_true, if_false] at h <;> split at h <;>
    simp only [Option.some.injEq, reduceCtorEq] at h <;> omega

/-- Everything an abort command can come to: the abort at a read-back, or the time alone. -/
theorem execAttemptAbort_cases (dt : Nat) (s : State) :
    (execAttemptAbort dt s = .next (s.advance dt) ∧ ∀ a ∈ s.line.attempt, a.readBack dt = none) ∨
    ∃ a d, s.line.attempt = some a ∧ a.readBack dt = some d ∧
      execAttemptAbort dt s = .next (abortAttempt (s.advance d)) := by
  unfold execAttemptAbort
  cases h : s.line.attempt with
  | none => exact .inl ⟨rfl, by simp⟩
  | some a =>
    cases k : a.readBack dt with
    | none => exact .inl ⟨by simp [k], by simp [k]⟩
    | some d => exact .inr ⟨a, d, rfl, k, by simp [k]⟩

/-- What is left of a time goes down with the time that passes, whether or not what stands on the line is over. -/
theorem Line.remaining_advance (l : Line) (time d : Nat) (h : l.attempt = none) :
    (l.advance d).remaining time = l.remaining time - d := by
  rw [l.advance_quiet d h]; simp only [Line.remaining]; omega

/-- A character that an abort left in progress stays to be given, however much time passes. -/
@[simp] theorem Line.advance_unheard (l : Line) (d : Nat) (h : l.attempt = none) :
    (l.advance d).unheard = l.unheard := by
  rw [l.advance_quiet d h]; unfold Line.unheard Standing.advance; cases l.standing <;> rfl

end Sys2Proof.Machine
end

