-- ==== Sys2Proof/Laws/Ops.lean ====
section
/-! SUPPORT. Laws/Ops.lean: everything the shared operations of Ops.lean and Lamps.lean can change: status requests and
events touch the field picture and the transmit queue alone, hold-off entries the hold-off list alone, indicators the
fixture's indicator and its lamp alone. -/

namespace Sys2Proof.Machine

/-! ## Status requests and events -/

@[simp] theorem State.raiseChange_loader (s : State)  :
    (s.raiseChange).loader = s.loader := by
  unfold State.raiseChange; split <;> rfl

@[simp] theorem State.raiseChange_settings (s : State)  :
    (s.raiseChange).settings = s.settings := by
  unfold State.raiseChange; split <;> rfl

@[simp] theorem State.raiseChange_now (s : State)  :
    (s.raiseChange).now = s.now := by
  unfold State.raiseChange; split <;> rfl

@[simp] theorem State.raiseChange_engine (s : State)  :
    (s.raiseChange).engine = s.engine := by
  unfold State.raiseChange; split <;> rfl

@[simp] theorem State.raiseChange_ports (s : State)  :
    (s.raiseChange).ports = s.ports := by
  unfold State.raiseChange; split <;> rfl

@[simp] theorem State.raiseChange_clock (s : State)  :
    (s.raiseChange).clock = s.clock := by
  unfold State.raiseChange; split <;> rfl

@[simp] theorem State.raiseChange_inputs (s : State)  :
    (s.raiseChange).inputs = s.inputs := by
  unfold State.raiseChange; split <;> rfl

@[simp] theorem State.raiseChange_runners (s : State)  :
    (s.raiseChange).runners = s.runners := by
  unfold State.raiseChange; split <;> rfl

@[simp] theorem State.raiseChange_pulse (s : State)  :
    (s.raiseChange).pulse = s.pulse := by
  unfold State.raiseChange; split <;> rfl

@[simp] theorem State.raiseChange_line (s : State)  :
    (s.raiseChange).line = s.line := by
  unfold State.raiseChange; split <;> rfl

@[simp] theorem State.raiseChange_pending (s : State)  :
    (s.raiseChange).pending = s.pending := by
  unfold State.raiseChange; split <;> rfl

/-- A CHANGE request is the one thing a raised CHANGE can bring. -/
theorem State.raiseChange_picture (s : State) :
    s.raiseChange.picture = s.picture ∨
      s.raiseChange.picture = { s.picture with request := some ⟨.change, max s.now s.picture.spacingEnd⟩ } := by
  unfold State.raiseChange
  split
  · unfold Picture.raiseChange
    split
    · exact .inl rfl
    · exact .inr rfl
    · exact .inr rfl
  · exact .inl rfl


@[simp] theorem State.setEventsLost_loader (s : State)  :
    (s.setEventsLost).loader = s.loader := by
  unfold State.setEventsLost; split
  · split <;> simp
  · rfl

@[simp] theorem State.setEventsLost_settings (s : State)  :
    (s.setEventsLost).settings = s.settings := by
  unfold State.setEventsLost; split
  · split <;> simp
  · rfl

@[simp] theorem State.setEventsLost_now (s : State)  :
    (s.setEventsLost).now = s.now := by
  unfold State.setEventsLost; split
  · split <;> simp
  · rfl

@[simp] theorem State.setEventsLost_engine (s : State)  :
    (s.setEventsLost).engine = s.engine := by
  unfold State.setEventsLost; split
  · split <;> simp
  · rfl

@[simp] theorem State.setEventsLost_ports (s : State)  :
    (s.setEventsLost).ports = s.ports := by
  unfold State.setEventsLost; split
  · split <;> simp
  · rfl

@[simp] theorem State.setEventsLost_clock (s : State)  :
    (s.setEventsLost).clock = s.clock := by
  unfold State.setEventsLost; split
  · split <;> simp
  · rfl

@[simp] theorem State.setEventsLost_inputs (s : State)  :
    (s.setEventsLost).inputs = s.inputs := by
  unfold State.setEventsLost; split
  · split <;> simp
  · rfl

@[simp] theorem State.setEventsLost_runners (s : State)  :
    (s.setEventsLost).runners = s.runners := by
  unfold State.setEventsLost; split
  · split <;> simp
  · rfl

@[simp] theorem State.setEventsLost_pulse (s : State)  :
    (s.setEventsLost).pulse = s.pulse := by
  unfold State.setEventsLost; split
  · split <;> simp
  · rfl

@[simp] theorem State.setEventsLost_line (s : State)  :
    (s.setEventsLost).line = s.line := by
  unfold State.setEventsLost; split
  · split <;> simp
  · rfl

@[simp] theorem State.setEventsLost_pending (s : State)  :
    (s.setEventsLost).pending = s.pending := by
  unfold State.setEventsLost; split
  · split <;> simp
  · rfl

@[simp] theorem State.createEvent_loader (s : State) (k : EventKind) (f : Option FixtureNo) (r : Robot) (side : Side) (v : Nat) :
    (s.createEvent k f r side v).loader = s.loader := by
  unfold State.createEvent; split
  · split <;> simp
  · rfl

@[simp] theorem State.createEvent_settings (s : State) (k : EventKind) (f : Option FixtureNo) (r : Robot) (side : Side) (v : Nat) :
    (s.createEvent k f r side v).settings = s.settings := by
  unfold State.createEvent; split
  · split <;> simp
  · rfl

@[simp] theorem State.createEvent_now (s : State) (k : EventKind) (f : Option FixtureNo) (r : Robot) (side : Side) (v : Nat) :
    (s.createEvent k f r side v).now = s.now := by
  unfold State.createEvent; split
  · split <;> simp
  · rfl

@[simp] theorem State.createEvent_engine (s : State) (k : EventKind) (f : Option FixtureNo) (r : Robot) (side : Side) (v : Nat) :
    (s.createEvent k f r side v).engine = s.engine := by
  unfold State.createEvent; split
  · split <;> simp
  · rfl

@[simp] theorem State.createEvent_ports (s : State) (k : EventKind) (f : Option FixtureNo) (r : Robot) (side : Side) (v : Nat) :
    (s.createEvent k f r side v).ports = s.ports := by
  unfold State.createEvent; split
  · split <;> simp
  · rfl

@[simp] theorem State.createEvent_clock (s : State) (k : EventKind) (f : Option FixtureNo) (r : Robot) (side : Side) (v : Nat) :
    (s.createEvent k f r side v).clock = s.clock := by
  unfold State.createEvent; split
  · split <;> simp
  · rfl

@[simp] theorem State.createEvent_inputs (s : State) (k : EventKind) (f : Option FixtureNo) (r : Robot) (side : Side) (v : Nat) :
    (s.createEvent k f r side v).inputs = s.inputs := by
  unfold State.createEvent; split
  · split <;> simp
  · rfl

@[simp] theorem State.createEvent_runners (s : State) (k : EventKind) (f : Option FixtureNo) (r : Robot) (side : Side) (v : Nat) :
    (s.createEvent k f r side v).runners = s.runners := by
  unfold State.createEvent; split
  · split <;> simp
  · rfl

@[simp] theorem State.createEvent_pulse (s : State) (k : EventKind) (f : Option FixtureNo) (r : Robot) (side : Side) (v : Nat) :
    (s.createEvent k f r side v).pulse = s.pulse := by
  unfold State.createEvent; split
  · split <;> simp
  · rfl

@[simp] theorem State.createEvent_pending (s : State) (k : EventKind) (f : Option FixtureNo) (r : Robot) (side : Side) (v : Nat) :
    (s.createEvent k f r side v).pending = s.pending := by
  unfold State.createEvent; split
  · split <;> simp
  · rfl

/-- What an event does to the line controller: at a configured station 1–31 it joins the transmit queue when that is not
muted and has room; nothing else of the line controller changes. -/
theorem State.createEvent_line (s : State) (k : EventKind) (f : Option FixtureNo) (r : Robot) (side : Side) (v : Nat) :
    (s.createEvent k f r side v).line =
      if (s.ready && s.loader.station != 0) && (s.line.muted.isNone && s.line.queue.length < Config.transmitRoom) then
        { s.line with queue := s.line.queue ++
          [⟨.event ⟨s.picture.eventSeq, k, f, r.val, side.val, v, s.clock.tick⟩, s.now, false⟩] }
      else s.line := by
  unfold State.createEvent
  by_cases h : (s.ready && s.loader.station != 0) = true
  · by_cases h' : (s.line.muted.isNone && decide (s.line.queue.length < Config.transmitRoom)) = true
    · simp [h, h']
    · simp only [h, h', if_true, Bool.true_and, Bool.false_eq_true, if_false]
      simp
  · simp [h]

@[simp] theorem State.raiseChange_eventSeq (s : State) : s.raiseChange.picture.eventSeq = s.picture.eventSeq := by
  rcases s.raiseChange_picture with h | h <;> rw [h]

@[simp] theorem State.raiseChange_peers (s : State) : s.raiseChange.picture.peers = s.picture.peers := by
  rcases s.raiseChange_picture with h | h <;> rw [h]

@[simp] theorem State.raiseChange_eventsLost (s : State) : s.raiseChange.picture.eventsLost = s.picture.eventsLost := by
  rcases s.raiseChange_picture with h | h <;> rw [h]

@[simp] theorem State.setEventsLost_eventSeq (s : State) : s.setEventsLost.picture.eventSeq = s.picture.eventSeq := by
  unfold State.setEventsLost; split
  · split <;> simp
  · rfl

@[simp] theorem State.setEventsLost_peers (s : State) : s.setEventsLost.picture.peers = s.picture.peers := by
  unfold State.setEventsLost; split
  · split <;> simp
  · rfl

@[simp] theorem State.createEvent_peers (s : State) (k : EventKind) (f : Option FixtureNo) (r : Robot) (side : Side)
    (v : Nat) : (s.createEvent k f r side v).picture.peers = s.picture.peers := by
  unfold State.createEvent; split
  · split <;> simp
  · rfl

/-- R119: every event a configured station 1–31 creates advances the sequence counter by one. -/
theorem State.createEvent_eventSeq (s : State) (k : EventKind) (f : Option FixtureNo) (r : Robot) (side : Side)
    (v : Nat) : (s.createEvent k f r side v).picture.eventSeq =
      if s.ready && s.loader.station != 0 then s.picture.eventSeq + 1 else s.picture.eventSeq := by
  unfold State.createEvent; split
  · split <;> simp
  · rfl

@[simp] theorem State.raiseChange_fixture (s : State) (f : FixtureNo) : s.raiseChange.fixture f = s.fixture f := by
  simp [State.fixture]

@[simp] theorem State.createEvent_fixture (s : State) (k : EventKind) (f : Option FixtureNo) (r : Robot) (side : Side)
    (v : Nat) (g : FixtureNo) : (s.createEvent k f r side v).fixture g = s.fixture g := by simp [State.fixture]

@[simp] theorem State.setEventsLost_fixture (s : State) (f : FixtureNo) : s.setEventsLost.fixture f = s.fixture f := by
  simp [State.fixture]


/-! ## The transmit queue -/

@[simp] theorem State.queueCommand_loader (s : State) (c : Command) :
    (s.queueCommand c).loader = s.loader := by
  unfold State.queueCommand; split
  · split
    · rfl
    · split
      · simp
      · rfl
  · rfl

@[simp] theorem State.queueCommand_settings (s : State) (c : Command) :
    (s.queueCommand c).settings = s.settings := by
  unfold State.queueCommand; split
  · split
    · rfl
    · split
      · simp
      · rfl
  · rfl

@[simp] theorem State.queueCommand_now (s : State) (c : Command) :
    (s.queueCommand c).now = s.now := by
  unfold State.queueCommand; split
  · split
    · rfl
    · split
      · simp
      · rfl
  · rfl

@[simp] theorem State.queueCommand_engine (s : State) (c : Command) :
    (s.queueCommand c).engine = s.engine := by
  unfold State.queueCommand; split
  · split
    · rfl
    · split
      · simp
      · rfl
  · rfl

@[simp] theorem State.queueCommand_ports (s : State) (c : Command) :
    (s.queueCommand c).ports = s.ports := by
  unfold State.queueCommand; split
  · split
    · rfl
    · split
      · simp
      · rfl
  · rfl

@[simp] theorem State.queueCommand_clock (s : State) (c : Command) :
    (s.queueCommand c).clock = s.clock := by
  unfold State.queueCommand; split
  · split
    · rfl
    · split
      · simp
      · rfl
  · rfl

@[simp] theorem State.queueCommand_inputs (s : State) (c : Command) :
    (s.queueCommand c).inputs = s.inputs := by
  unfold State.queueCommand; split
  · split
    · rfl
    · split
      · simp
      · rfl
  · rfl

@[simp] theorem State.queueCommand_runners (s : State) (c : Command) :
    (s.queueCommand c).runners = s.runners := by
  unfold State.queueCommand; split
  · split
    · rfl
    · split
      · simp
      · rfl
  · rfl

@[simp] theorem State.queueCommand_pulse (s : State) (c : Command) :
    (s.queueCommand c).pulse = s.pulse := by
  unfold State.queueCommand; split
  · split
    · rfl
    · split
      · simp
      · rfl
  · rfl

@[simp] theorem State.queueCommand_pending (s : State) (c : Command) :
    (s.queueCommand c).pending = s.pending := by
  unfold State.queueCommand; split
  · split
    · rfl
    · split
      · simp
      · rfl
  · rfl

@[simp] theorem State.queueCommand_fixture (s : State) (c : Command) (f : FixtureNo) :
    (s.queueCommand c).fixture f = s.fixture f := by simp [State.fixture]


/-! ## Hold-off entries -/

@[simp] theorem State.makeHoldOff_loader (s : State) (r : Robot) (f : FixtureNo) :
    (s.makeHoldOff r f).loader = s.loader := by
  unfold State.makeHoldOff; split <;> rfl

@[simp] theorem State.makeHoldOff_settings (s : State) (r : Robot) (f : FixtureNo) :
    (s.makeHoldOff r f).settings = s.settings := by
  unfold State.makeHoldOff; split <;> rfl

@[simp] theorem State.makeHoldOff_now (s : State) (r : Robot) (f : FixtureNo) :
    (s.makeHoldOff r f).now = s.now := by
  unfold State.makeHoldOff; split <;> rfl

@[simp] theorem State.makeHoldOff_ports (s : State) (r : Robot) (f : FixtureNo) :
    (s.makeHoldOff r f).ports = s.ports := by
  unfold State.makeHoldOff; split <;> rfl

@[simp] theorem State.makeHoldOff_clock (s : State) (r : Robot) (f : FixtureNo) :
    (s.makeHoldOff r f).clock = s.clock := by
  unfold State.makeHoldOff; split <;> rfl

@[simp] theorem State.makeHoldOff_picture (s : State) (r : Robot) (f : FixtureNo) :
    (s.makeHoldOff r f).picture = s.picture := by
  unfold State.makeHoldOff; split <;> rfl

@[simp] theorem State.makeHoldOff_inputs (s : State) (r : Robot) (f : FixtureNo) :
    (s.makeHoldOff r f).inputs = s.inputs := by
  unfold State.makeHoldOff; split <;> rfl

@[simp] theorem State.makeHoldOff_runners (s : State) (r : Robot) (f : FixtureNo) :
    (s.makeHoldOff r f).runners = s.runners := by
  unfold State.makeHoldOff; split <;> rfl

@[simp] theorem State.makeHoldOff_pulse (s : State) (r : Robot) (f : FixtureNo) :
    (s.makeHoldOff r f).pulse = s.pulse := by
  unfold State.makeHoldOff; split <;> rfl

@[simp] theorem State.makeHoldOff_line (s : State) (r : Robot) (f : FixtureNo) :
    (s.makeHoldOff r f).line = s.line := by
  unfold State.makeHoldOff; split <;> rfl

@[simp] theorem State.makeHoldOff_pending (s : State) (r : Robot) (f : FixtureNo) :
    (s.makeHoldOff r f).pending = s.pending := by
  unfold State.makeHoldOff; split <;> rfl

@[simp] theorem State.makeHoldOff_fixture (s : State) (r : Robot) (f g : FixtureNo) :
    (s.makeHoldOff r f).fixture g = s.fixture g := by
  unfold State.makeHoldOff; split <;> rfl

@[simp] theorem State.makeHoldOff_points (s : State) (r : Robot) (f : FixtureNo) :
    (s.makeHoldOff r f).engine.points = s.engine.points := by
  unfold State.makeHoldOff; split <;> rfl

@[simp] theorem State.makeHoldOff_sideTable (s : State) (r : Robot) (f : FixtureNo) :
    (s.makeHoldOff r f).engine.sideTable = s.engine.sideTable := by
  unfold State.makeHoldOff; split <;> rfl

theorem State.makeHoldOff_holdOff (s : State) (r : Robot) (f : FixtureNo) :
    (s.makeHoldOff r f).engine.holdOff =
      if s.settings.holdOffTime = 0 then s.engine.holdOff
      else addHoldOff s.engine.holdOff ⟨r, f, s.nowMs + s.settings.holdOffTime⟩ := by
  unfold State.makeHoldOff; split <;> rfl


/-! ## Indicators and lamps -/

@[simp] theorem State.handOver_loader (s : State) (f : FixtureNo) (i : Indicator) :
    (s.handOver f i).loader = s.loader := by
  unfold State.handOver; split <;> rfl

@[simp] theorem State.handOver_settings (s : State) (f : FixtureNo) (i : Indicator) :
    (s.handOver f i).settings = s.settings := by
  unfold State.handOver; split <;> rfl

@[simp] theorem State.handOver_now (s : State) (f : FixtureNo) (i : Indicator) :
    (s.handOver f i).now = s.now := by
  unfold State.handOver; split <;> rfl

@[simp] theorem State.handOver_engine (s : State) (f : FixtureNo) (i : Indicator) :
    (s.handOver f i).engine = s.engine := by
  unfold State.handOver; split <;> rfl

@[simp] theorem State.handOver_ports (s : State) (f : FixtureNo) (i : Indicator) :
    (s.handOver f i).ports = s.ports := by
  unfold State.handOver; split <;> rfl

@[simp] theorem State.handOver_clock (s : State) (f : FixtureNo) (i : Indicator) :
    (s.handOver f i).clock = s.clock := by
  unfold State.handOver; split <;> rfl

@[simp] theorem State.handOver_picture (s : State) (f : FixtureNo) (i : Indicator) :
    (s.handOver f i).picture = s.picture := by
  unfold State.handOver; split <;> rfl

@[simp] theorem State.handOver_inputs (s : State) (f : FixtureNo) (i : Indicator) :
    (s.handOver f i).inputs = s.inputs := by
  unfold State.handOver; split <;> rfl

@[simp] theorem State.handOver_runners (s : State) (f : FixtureNo) (i : Indicator) :
    (s.handOver f i).runners = s.runners := by
  unfold State.handOver; split <;> rfl

@[simp] theorem State.handOver_line (s : State) (f : FixtureNo) (i : Indicator) :
    (s.handOver f i).line = s.line := by
  unfold State.handOver; split <;> rfl

@[simp] theorem State.handOver_pending (s : State) (f : FixtureNo) (i : Indicator) :
    (s.handOver f i).pending = s.pending := by
  unfold State.handOver; split <;> rfl

@[simp] theorem State.handOver_fixture (s : State) (f : FixtureNo) (i : Indicator) (g : FixtureNo) :
    (s.handOver f i).fixture g = s.fixture g := by simp [State.fixture]

/-- A lamp side that takes a target keeps its map and the state handed over. -/
@[simp] theorem PulseUnit.handOver_driver (x : PulseUnit) (p : Pulse) (i : Indicator) :
    (x.handOver p i).driver = x.driver := rfl

@[simp] theorem PulseUnit.handOver_lastDriver (x : PulseUnit) (p : Pulse) (i : Indicator) :
    (x.handOver p i).lastDriver = x.lastDriver := rfl

@[simp] theorem PulseUnit.handOver_pattern (x : PulseUnit) (p : Pulse) (i : Indicator) :
    (x.handOver p i).pattern = x.pattern := rfl

@[simp] theorem PulseUnit.handOver_binding (x : PulseUnit) (p : Pulse) (i : Indicator) :
    (x.handOver p i).binding = x.binding := rfl

theorem State.handOver_driver (s : State) (f : FixtureNo) (i : Indicator) (u : UnitNo) :
    (s.handOver f i).pulse.units[u].driver = s.pulse.units[u].driver := by
  unfold State.handOver
  split
  · rfl
  · rw [State.setUnit_units]; split <;> simp_all

@[simp] theorem State.handOver_driver_val (s : State) (f : FixtureNo) (i : Indicator) (u : UnitNo) :
    (s.handOver f i).pulse.units[u.val].driver = s.pulse.units[u.val].driver := s.handOver_driver f i u

theorem State.handOver_pattern (s : State) (f : FixtureNo) (i : Indicator) (u : UnitNo) :
    (s.handOver f i).pulse.units[u].pattern = s.pulse.units[u].pattern := by
  unfold State.handOver
  split
  · rfl
  · rw [State.setUnit_units]; split <;> simp_all

@[simp] theorem State.handOver_pattern_val (s : State) (f : FixtureNo) (i : Indicator) (u : UnitNo) :
    (s.handOver f i).pulse.units[u.val].pattern = s.pulse.units[u.val].pattern := s.handOver_pattern f i u

@[simp] theorem State.handOver_safe (s : State) (f : FixtureNo) (i : Indicator) :
    (s.handOver f i).pulse.safe = s.pulse.safe := by
  unfold State.handOver; split <;> rfl


@[simp] theorem State.refreshIndicator_loader (s : State) (f : FixtureNo) :
    (s.refreshIndicator f).loader = s.loader := by
  unfold State.refreshIndicator; dsimp only; split <;> simp

@[simp] theorem State.refreshIndicator_settings (s : State) (f : FixtureNo) :
    (s.refreshIndicator f).settings = s.settings := by
  unfold State.refreshIndicator; dsimp only; split <;> simp

@[simp] theorem State.refreshIndicator_now (s : State) (f : FixtureNo) :
    (s.refreshIndicator f).now = s.now := by
  unfold State.refreshIndicator; dsimp only; split <;> simp

@[simp] theorem State.refreshIndicator_ports (s : State) (f : FixtureNo) :
    (s.refreshIndicator f).ports = s.ports := by
  unfold State.refreshIndicator; dsimp only; split <;> simp

@[simp] theorem State.refreshIndicator_clock (s : State) (f : FixtureNo) :
    (s.refreshIndicator f).clock = s.clock := by
  unfold State.refreshIndicator; dsimp only; split <;> simp

@[simp] theorem State.refreshIndicator_picture (s : State) (f : FixtureNo) :
    (s.refreshIndicator f).picture = s.picture := by
  unfold State.refreshIndicator; dsimp only; split <;> simp

@[simp] theorem State.refreshIndicator_inputs (s : State) (f : FixtureNo) :
    (s.refreshIndicator f).inputs = s.inputs := by
  unfold State.refreshIndicator; dsimp only; split <;> simp

@[simp] theorem State.refreshIndicator_runners (s : State) (f : FixtureNo) :
    (s.refreshIndicator f).runners = s.runners := by
  unfold State.refreshIndicator; dsimp only; split <;> simp

@[simp] theorem State.refreshIndicator_line (s : State) (f : FixtureNo) :
    (s.refreshIndicator f).line = s.line := by
  unfold State.refreshIndicator; dsimp only; split <;> simp

@[simp] theorem State.refreshIndicator_pending (s : State) (f : FixtureNo) :
    (s.refreshIndicator f).pending = s.pending := by
  unfold State.refreshIndicator; dsimp only; split <;> simp

/-- R18, R20: a fixture's indicator is determined afresh; no other fixture changes. -/
theorem State.refreshIndicator_fixture (s : State) (f g : FixtureNo) :
    (s.refreshIndicator f).fixture g =
      if f = g then { s.fixture f with indicator := indicatorOf s.clock.phase (s.fixture f) } else s.fixture g := by
  unfold State.refreshIndicator
  dsimp only
  split
  · rename_i h
    split
    · subst g
      rw [h]
    · rfl
  · simp

@[simp] theorem State.refreshIndicator_holdOff (s : State) (f : FixtureNo) :
    (s.refreshIndicator f).engine.holdOff = s.engine.holdOff := by
  unfold State.refreshIndicator; dsimp only; split <;> simp

@[simp] theorem State.refreshIndicator_points (s : State) (f : FixtureNo) :
    (s.refreshIndicator f).engine.points = s.engine.points := by
  unfold State.refreshIndicator; dsimp only; split <;> simp

@[simp] theorem State.refreshIndicator_sideTable (s : State) (f : FixtureNo) :
    (s.refreshIndicator f).engine.sideTable = s.engine.sideTable := by
  unfold State.refreshIndicator; dsimp only; split <;> simp

theorem State.refreshIndicator_driver (s : State) (f : FixtureNo) (u : UnitNo) :
    (s.refreshIndicator f).pulse.units[u].driver = s.pulse.units[u].driver := by
  unfold State.refreshIndicator; dsimp only; split
  · rfl
  · rw [State.handOver_driver]; rfl

@[simp] theorem State.refreshIndicator_driver_val (s : State) (f : FixtureNo) (u : UnitNo) :
    (s.refreshIndicator f).pulse.units[u.val].driver = s.pulse.units[u.val].driver := s.refreshIndicator_driver f u

theorem State.refreshIndicator_pattern (s : State) (f : FixtureNo) (u : UnitNo) :
    (s.refreshIndicator f).pulse.units[u].pattern = s.pulse.units[u].pattern := by
  unfold State.refreshIndicator; dsimp only; split
  · rfl
  · rw [State.handOver_pattern]; rfl

@[simp] theorem State.refreshIndicator_pattern_val (s : State) (f : FixtureNo) (u : UnitNo) :
    (s.refreshIndicator f).pulse.units[u.val].pattern = s.pulse.units[u.val].pattern := s.refreshIndicator_pattern f u

@[simp] theorem State.refreshIndicator_safe (s : State) (f : FixtureNo) :
    (s.refreshIndicator f).pulse.safe = s.pulse.safe := by
  unfold State.refreshIndicator; dsimp only; split <;> simp

/-- Claims, control and scoring are untouched by an indicator. -/
@[simp] theorem State.refreshIndicator_claims (s : State) (f g : FixtureNo) :
    ((s.refreshIndicator f).fixture g).claims = (s.fixture g).claims := by
  rw [State.refreshIndicator_fixture]; split <;> simp_all

@[simp] theorem State.refreshIndicator_state (s : State) (f g : FixtureNo) :
    ((s.refreshIndicator f).fixture g).state = (s.fixture g).state := by
  rw [State.refreshIndicator_fixture]; split <;> simp_all

@[simp] theorem State.refreshIndicator_config (s : State) (f g : FixtureNo) :
    ((s.refreshIndicator f).fixture g).config = (s.fixture g).config := by
  rw [State.refreshIndicator_fixture]; split <;> simp_all


end Sys2Proof.Machine
end

