-- ==== Sys2Proof/Laws/PerInstr.lean ====
section
/-! SUPPORT. Laws/PerInstr.lean: for every command, no table word spells it: the opcode table gives no row any bits. -/

namespace Sys2Proof.Laws.NoWordSpells

/-- No word of any length spells this command. -/
def Statement (i : Sys2Proof.Instr) : Prop := ∀ nbits w : Nat, Sys2Proof.decodeTableWord nbits w ≠ some i

theorem reset (straps : BitVec 5) : Statement (.reset straps) := fun _ _ h => nomatch h
theorem loadEnd (miso : List Bool) (pins : LoadPins) : Statement (.loadEnd miso pins) := fun _ _ h => nomatch h
theorem sighting (dt : Nat) (port : PortNo) (robot : Robot) (intent : BitVec 2) : Statement (.sighting dt port robot intent) := fun _ _ h => nomatch h
theorem holdOffExpiry (robot : Robot) (fixture : FixtureNo) : Statement (.holdOffExpiry robot fixture) := fun _ _ h => nomatch h
theorem sightExpiry (port : PortNo) (robot : Robot) : Statement (.sightExpiry port robot) := fun _ _ h => nomatch h
theorem lost (fixture : FixtureNo) : Statement (.lost fixture) := fun _ _ h => nomatch h
theorem queuedLost (fixture : FixtureNo) (robot : Robot) : Statement (.queuedLost fixture robot) := fun _ _ h => nomatch h
theorem overstay (fixture : FixtureNo) : Statement (.overstay fixture) := fun _ _ h => nomatch h
theorem countedTick : Statement (.countedTick) := fun _ _ h => nomatch h
theorem refill (fixture : FixtureNo) : Statement (.refill fixture) := fun _ _ h => nomatch h
theorem periodEnd : Statement (.periodEnd) := fun _ _ h => nomatch h
theorem graceEnd (fixture : FixtureNo) : Statement (.graceEnd fixture) := fun _ _ h => nomatch h
theorem jam (fixture : FixtureNo) : Statement (.jam fixture) := fun _ _ h => nomatch h
theorem unjam (fixture : FixtureNo) : Statement (.unjam fixture) := fun _ _ h => nomatch h
theorem transientEnd (fixture : FixtureNo) : Statement (.transientEnd fixture) := fun _ _ h => nomatch h
theorem inputSample (pins : BitVec 12) : Statement (.inputSample pins) := fun _ _ h => nomatch h
theorem start (dt : Nat) : Statement (.start dt) := fun _ _ h => nomatch h
theorem halt (dt : Nat) : Statement (.halt dt) := fun _ _ h => nomatch h
theorem resume (dt : Nat) : Statement (.resume dt) := fun _ _ h => nomatch h
theorem clear (dt : Nat) : Statement (.clear dt) := fun _ _ h => nomatch h
theorem statusReceived (dt : Nat) (frame : List Byte) : Statement (.statusReceived dt frame) := fun _ _ h => nomatch h
theorem eventFrameReceived (dt : Nat) (frame : List Byte) : Statement (.eventFrameReceived dt frame) := fun _ _ h => nomatch h
theorem frameDiscard (dt : Nat) (frame : List Byte) : Statement (.frameDiscard dt frame) := fun _ _ h => nomatch h
theorem frameAbandon (dt : Nat) (cause : AbandonCause) : Statement (.frameAbandon dt cause) := fun _ _ h => nomatch h
theorem statusTimerExpiry : Statement (.statusTimerExpiry) := fun _ _ h => nomatch h
theorem changeEligible : Statement (.changeEligible) := fun _ _ h => nomatch h
theorem attemptBegin : Statement (.attemptBegin) := fun _ _ h => nomatch h
theorem attemptSuccess : Statement (.attemptSuccess) := fun _ _ h => nomatch h
theorem attemptAbort (dt : Nat) : Statement (.attemptAbort dt) := fun _ _ h => nomatch h
theorem muteTimerExpiry : Statement (.muteTimerExpiry) := fun _ _ h => nomatch h
theorem patternPhaseEnd (unit : UnitNo) : Statement (.patternPhaseEnd unit) := fun _ _ h => nomatch h
theorem delayEnd (runner : RunnerId) : Statement (.delayEnd runner) := fun _ _ h => nomatch h
theorem lampPhaseEnd (unit : UnitNo) : Statement (.lampPhaseEnd unit) := fun _ _ h => nomatch h
theorem matchFrameReceived (dt : Nat) (frame : List Byte) : Statement (.matchFrameReceived dt frame) := fun _ _ h => nomatch h
theorem beaconLevelChange (dt : Nat) (port : PortNo) (active : Bool) : Statement (.beaconLevelChange dt port active) := fun _ _ h => nomatch h
theorem beaconWindowOverrun (port : PortNo) : Statement (.beaconWindowOverrun port) := fun _ _ h => nomatch h
theorem nonSyncCharacter (dt : Nat) (line : List LineRun) : Statement (.nonSyncCharacter dt line) := fun _ _ h => nomatch h
theorem receiverReturnToHunt : Statement (.receiverReturnToHunt) := fun _ _ h => nomatch h
theorem resetAsserted : Statement (.resetAsserted) := fun _ _ h => nomatch h

end Sys2Proof.Laws.NoWordSpells
end

