-- ==== Sys2Proof/Laws/Settle.lean ====
section
/-! SUPPORT. Laws/Settle.lean: a stack of tasks always runs out within its budget, so `settle` is the depth-first run of
the manual's chains: `settle_nil` and `settle_cons` are its two equations, and `settle_keeps` carries a property through
it. -/

namespace Sys2Proof.Machine

/-! ## Credit: what a state can still come to -/

def claimsCredit (c : Claims) : Nat := (if c.holder.isSome then 1150 else 0) + 2300 * c.queue.length

theorem Fixture.credit_def (x : Fixture) : x.credit = claimsCredit x.claims := rfl

def fixturesCredit (s : State) : Nat := (fixtureNumbers.map fun f => (s.fixture f).credit).sum

def driversCredit (p : Pulse) : Nat := (unitNumbers.map fun u => if p.units[u].driver.isSome then 1 else 0).sum

theorem State.credit_def (s : State) :
    s.credit = s.runners.a.credit + s.runners.b.credit + fixturesCredit s + driversCredit s.pulse := rfl

/-- Two states with the same runners, claims and drivers have the same credit. -/
theorem credit_congr {s t : State} (hr : t.runners = s.runners)
    (hf : ∀ f, (t.fixture f).claims = (s.fixture f).claims)
    (hu : ∀ u : UnitNo, t.pulse.units[u].driver = s.pulse.units[u].driver) : t.credit = s.credit := by
  have h1 : fixturesCredit t = fixturesCredit s := by
    unfold fixturesCredit; congr 1
    exact List.map_congr_left fun f _ => by rw [Fixture.credit_def, Fixture.credit_def, hf]
  have h2 : driversCredit t.pulse = driversCredit s.pulse := by
    unfold driversCredit; congr 1
    exact List.map_congr_left fun u _ => by rw [hu]
  rw [State.credit_def, State.credit_def, hr, h1, h2]

theorem sum_eight {f : Fin 8 → Nat} {l : List (Fin 8)} (h : l = [0, 1, 2, 3, 4, 5, 6, 7]) :
    (l.map f).sum = f 0 + f 1 + f 2 + f 3 + f 4 + f 5 + f 6 + f 7 := by
  subst h; simp; omega

/-- A sum over eight in which one summand has changed. -/
theorem sum_change {f g : Fin 8 → Nat} {l : List (Fin 8)} (hl : l = [0, 1, 2, 3, 4, 5, 6, 7]) (i : Fin 8)
    (h : ∀ j, j ≠ i → g j = f j) : (l.map g).sum + f i = (l.map f).sum + g i := by
  rw [sum_eight hl, sum_eight hl]
  fin_cases i <;> simp at * <;>
  · simp [h]
    omega

theorem fixturesCredit_change {s t : State} (f : FixtureNo) (h : ∀ g, g ≠ f → t.fixture g = s.fixture g) :
    fixturesCredit t + (s.fixture f).credit = fixturesCredit s + (t.fixture f).credit :=
  sum_change (f := fun g => (s.fixture g).credit) (g := fun g => (t.fixture g).credit) rfl f fun j hj => by
    simp only [h j hj]

theorem driversCredit_change {p q : Pulse} (u : UnitNo) (h : ∀ v : UnitNo, v ≠ u → q.units[v].driver = p.units[v].driver) :
    driversCredit q + (if p.units[u].driver.isSome then 1 else 0)
      = driversCredit p + (if q.units[u].driver.isSome then 1 else 0) :=
  sum_change (f := fun v => if p.units[v].driver.isSome then 1 else 0)
    (g := fun v => if q.units[v].driver.isSome then 1 else 0) rfl u fun j hj => by simp only [h j hj]

/-- One fixture replaced. -/
theorem credit_setFixture (s : State) (f : FixtureNo) (x : Fixture) :
    (s.setFixture f x).credit + (s.fixture f).credit = s.credit + x.credit := by
  have h := fixturesCredit_change (s := s) (t := s.setFixture f x) f
    fun g hg => by rw [State.setFixture_fixture, if_neg (Ne.symm hg)]
  rw [State.setFixture_fixture_same] at h
  simp only [State.credit_def, State.setFixture_runners, State.setFixture_pulse]
  omega

theorem credit_setClaims (s : State) (f : FixtureNo) (c : Claims) :
    (s.setClaims f c).credit + (s.fixture f).credit = s.credit + claimsCredit c :=
  credit_setFixture s f _

theorem credit_setRunner (s : State) (r : RunnerId) (x : Runner) :
    (s.setRunner r x).credit + (s.runner r).credit = s.credit + x.credit := by
  have h : fixturesCredit (s.setRunner r x) = fixturesCredit s := by
    unfold fixturesCredit; congr 1
    exact List.map_congr_left fun f _ => by rw [State.setRunner_fixture]
  rw [State.credit_def, State.credit_def, State.setRunner_pulse, h]
  cases r <;> simp [State.setRunner, State.runner] <;> omega

theorem credit_setFixtureState (s : State) (f : FixtureNo) (st : FixtureState) :
    (s.setFixtureState f st).credit = s.credit := by
  have h := credit_setFixture s f { s.fixture f with state := st }
  have h' : Fixture.credit { s.fixture f with state := st } = (s.fixture f).credit := rfl
  unfold State.setFixtureState
  omega

theorem credit_createEvent (s : State) (k : EventKind) (f : Option FixtureNo) (r : Robot) (side : Side) (v : Nat) :
    (s.createEvent k f r side v).credit = s.credit :=
  credit_congr (by simp) (by simp) (by simp)

theorem credit_raiseChange (s : State) : s.raiseChange.credit = s.credit :=
  credit_congr (by simp) (by simp) (by simp)

theorem credit_makeHoldOff (s : State) (r : Robot) (f : FixtureNo) : (s.makeHoldOff r f).credit = s.credit :=
  credit_congr (by simp) (by simp) (by simp)

theorem credit_refreshIndicator (s : State) (f : FixtureNo) : (s.refreshIndicator f).credit = s.credit :=
  credit_congr (by simp) (by simp) (by simp)

theorem credit_setRunnerFault (s : State) : s.setRunnerFault.credit = s.credit := by
  unfold State.setRunnerFault
  dsimp only
  split
  · rfl
  · rw [credit_raiseChange]; rfl

/-- A pattern begun on a free unit. -/
theorem credit_drive (s : State) (u : UnitNo) (r : RunnerId) (t : Step) (h : s.pulse.units[u].driver = none) :
    State.credit { s with pulse := s.pulse.drive u r t } = s.credit + 1 := by
  have h1 := driversCredit_change (p := s.pulse) (q := s.pulse.drive u r t) u
    fun v hv => by simp [Pulse.drive, Ne.symm hv]
  have h2 : (s.pulse.drive u r t).units[u].driver = some r := by simp [Pulse.drive]
  rw [h, h2] at h1
  have h3 : fixturesCredit { s with pulse := s.pulse.drive u r t } = fixturesCredit s := rfl
  simp only [State.credit_def, h3]
  simp at h1
  omega

/-- Every pattern stopped is one driver fewer. -/
theorem driversCredit_stop (p : Pulse) (r : RunnerId) :
    driversCredit (p.stop r) + (p.drivenBy r).length = driversCredit p := by
  have key : ∀ l : List UnitNo,
      (l.map fun u => if (p.stop r).units[u].driver.isSome then 1 else 0).sum
        + (l.filter fun u => p.units[u].driver == some r).length
        = (l.map fun u => if p.units[u].driver.isSome then 1 else 0).sum := by
    intro l
    induction l with
    | nil => rfl
    | cons u l ih =>
      simp only [List.map_cons, List.sum_cons, List.filter_cons]
      by_cases h : p.units[u].driver = some r
      · have : (p.stop r).units[u].driver = none := by simp [Pulse.stop, PulseUnit.released] at *; simp [h]
        rw [this, h]
        simp
        simp at ih
        omega
      · have h0 : (p.stop r).units[u].driver = p.units[u].driver := by simp [Pulse.stop] at *; simp [h]
        have h1 : (p.units[u].driver == some r) = false := by simpa using h
        rw [h0, h1]
        simp
        simp at ih
        omega
  exact key unitNumbers

theorem credit_stop (s : State) (r : RunnerId) :
    State.credit { s with pulse := s.pulse.stop r } + (s.pulse.drivenBy r).length = s.credit := by
  have h1 := driversCredit_stop s.pulse r
  have h3 : fixturesCredit { s with pulse := s.pulse.stop r } = fixturesCredit s := rfl
  simp only [State.credit_def, h3]
  omega

/-! ## Every task uses up part of the budget -/

def weights (ts : List Task) : Nat := (ts.map Task.weight).sum

theorem budget_def (s : State) (ts : List Task) : budget s ts = s.credit + weights ts := rfl

@[simp] theorem weights_nil : weights [] = 0 := rfl

@[simp] theorem weights_cons (t : Task) (ts : List Task) : weights (t :: ts) = t.weight + weights ts := by simp [weights]

@[simp] theorem weights_append (ts us : List Task) : weights (ts ++ us) = weights ts + weights us := by simp [weights]

theorem weights_unitFreed (us : List UnitNo) : weights (us.map .unitFreed) = us.length := by
  induction us with
  | nil => rfl
  | cons u us ih => simp [ih, Task.weight]; omega

theorem weights_reportTask (t : Start) (r : Report) : weights (t.reportTask r) ≤ 2 := by
  unfold Start.reportTask; split <;> simp [Task.weight]

theorem weights_startTask (c : FixtureConfig) (f : FixtureNo) (l : Option StepNo) (p : Purpose) :
    weights (c.startTask f l p) ≤ 1100 := by
  unfold FixtureConfig.startTask; split <;> simp [Task.weight]

theorem weights_completeTasks (r : RunnerId) (c : Current) : weights (completeTasks r c) ≤ 3 := by
  have := weights_reportTask c.start .completed
  simp [completeTasks, Task.weight]; omega

/-- The part of a runner's credit that its mode and current list give. -/
theorem Runner.credit_eq (m : RunnerMode) (c : Option Current) (q : List Start) :
    (Runner.mk m c q).credit =
      (match m with
        | .waitingUnit _ => 12
        | .idle | .delay _ | .holding _ | .draining => 0) +
      (match c with
        | some c => 16 * (64 - c.index.val)
        | none => 0) + 1050 * q.length := rfl

/-- A mode other than waiting holds no credit of its own. -/
theorem Runner.credit_mode_le (x : Runner) (m : RunnerMode) (h : ∀ u, m ≠ .waitingUnit u) :
    Runner.credit { x with mode := m } ≤ x.credit := by
  obtain ⟨m', c, q⟩ := x
  cases m <;> simp_all [Runner.credit_eq]

theorem budget_start (s : State) (r : RunnerId) (t : Start) :
    budget (performStart s r t).1 (performStart s r t).2 < s.credit + 1100 := by
  have ha := weights_reportTask t .accepted
  have hd := weights_reportTask t .dropped
  unfold performStart
  dsimp only
  split
  · simp [budget_def]; omega
  · split
    · rename_i h
      have hc := credit_setRunner s r ⟨.draining, some ⟨t, t.list⟩, (s.runner r).queue⟩
      have hx : Runner.credit ⟨.draining, some ⟨t, t.list⟩, (s.runner r).queue⟩
          ≤ (s.runner r).credit + 16 * 64 := by
        generalize s.runner r = x at *
        obtain ⟨m, c, q⟩ := x
        have := t.list.isLt
        simp only [Runner.credit_eq]
        omega
      simp [budget_def, Task.weight]
      omega
    all_goals
      split
      · have hc := credit_setRunner s r ⟨(s.runner r).mode, (s.runner r).current, (s.runner r).queue ++ [t]⟩
        have hx : Runner.credit ⟨(s.runner r).mode, (s.runner r).current, (s.runner r).queue ++ [t]⟩ = (s.runner r).credit + 1050 := by
          generalize s.runner r = x at *
          obtain ⟨m, c, q⟩ := x
          simp only [Runner.credit_eq, List.length_append, List.length_singleton]
          omega
        simp only [budget_def]
        omega
      · simp only [budget_def, credit_createEvent]
        omega

theorem budget_issue (s : State) (r : RunnerId) (u : UnitNo) (t : Step) (h : s.pulse.units[u].driver = none) :
    budget (issue s r u t).1 (issue s r u t).2 + (s.runner r).credit
      ≤ s.credit + 9 + Runner.credit ⟨.draining, (s.runner r).current, (s.runner r).queue⟩ := by
  have hd := credit_drive s u r t h
  unfold issue
  dsimp only
  have hr : State.runner { s with pulse := s.pulse.drive u r t } r = s.runner r := by cases r <;> rfl
  split
  · have hc := credit_setRunner { s with pulse := s.pulse.drive u r t } r ⟨.draining, (s.runner r).current, (s.runner r).queue⟩
    rw [hr] at hc
    simp [budget_def, Task.weight, hr]
    omega
  · have hc := credit_setRunner { s with pulse := s.pulse.drive u r t } r ⟨.holding u, (s.runner r).current, (s.runner r).queue⟩
    rw [hr] at hc
    have hx : Runner.credit ⟨.holding u, (s.runner r).current, (s.runner r).queue⟩
        = Runner.credit ⟨.draining, (s.runner r).current, (s.runner r).queue⟩ :=
      rfl
    simp [budget_def, hr]
    omega

theorem budget_abortAt (s : State) (r : RunnerId) (i : StepNo) :
    budget (abortAt s r i).1 (abortAt s r i).2 ≤ s.credit + 4 := by
  unfold abortAt
  dsimp only
  have hs := credit_stop s r
  have hr : State.runner { s with pulse := s.pulse.stop r } r = s.runner r := by cases r <;> rfl
  have hc := credit_setRunner { s with pulse := s.pulse.stop r } r ⟨.draining, (s.runner r).current, (s.runner r).queue⟩
  have hx := Runner.credit_mode_le (s.runner r) .draining (by simp)
  rw [hr] at hc
  simp only [budget_def, weights_append, weights_unitFreed, weights_cons, weights_nil, Task.weight, hr]
  omega

theorem budget_arrive (s : State) (r : RunnerId) :
    budget (performArrive s r).1 (performArrive s r).2 < s.credit + 16 := by
  unfold performArrive
  dsimp only
  split
  · simp [budget_def]
  · split
    · have := budget_abortAt s r
      rename_i c _ _
      have := this c.index
      omega
    · split
      · have hx := Runner.credit_mode_le (s.runner r) (.delay (s.runners.store[‹Current›.index]).delayTime) (by simp)
        have hc := credit_setRunner s r
          ⟨.delay (s.runners.store[‹Current›.index]).delayTime, (s.runner r).current, (s.runner r).queue⟩
        simp [budget_def] at *
        omega
      · split
        · rename_i h
          have hi := budget_issue s r ‹UnitNo› (s.runners.store[‹Current›.index]) h
          have hx := Runner.credit_mode_le (s.runner r) .draining (by simp)
          omega
        · have hc := credit_setRunner s r ⟨.waitingUnit ‹UnitNo›, (s.runner r).current, (s.runner r).queue⟩
          have hx : Runner.credit ⟨.waitingUnit ‹UnitNo›, (s.runner r).current, (s.runner r).queue⟩ ≤ (s.runner r).credit + 12 := by
            generalize s.runner r = x at *
            obtain ⟨m, c, q⟩ := x
            simp only [Runner.credit_eq]
            omega
          simp [budget_def]
          omega

theorem budget_moveOn (s : State) (r : RunnerId) :
    budget (performMoveOn s r).1 (performMoveOn s r).2 < s.credit + 8 := by
  unfold performMoveOn
  dsimp only
  split
  · simp [budget_def]
  · rename_i c hcur
    split
    · have hx := Runner.credit_mode_le (s.runner r) .draining (by simp)
      have hc := credit_setRunner s r ⟨.draining, (s.runner r).current, (s.runner r).queue⟩
      have hw := weights_completeTasks r c
      split <;> simp only [budget_def, weights_nil] <;> omega
    · split
      · rename_i h
        have hc := credit_setRunner s r
          ⟨.draining, some ⟨c.start, ⟨c.index.val + 1, h⟩⟩, (s.runner r).queue⟩
        have hx : Runner.credit
            ⟨.draining, some ⟨c.start, ⟨c.index.val + 1, h⟩⟩, (s.runner r).queue⟩ + 16
            ≤ (s.runner r).credit := by
          generalize s.runner r = x at *
          obtain ⟨m, d, q⟩ := x
          simp only at hcur
          subst hcur
          simp only [Runner.credit_eq]
          omega
        simp [budget_def, Task.weight]
        omega
      · have := budget_abortAt s r c.index
        omega

theorem State.nextDriver_waits (s : State) (u : UnitNo) (r : RunnerId) (h : s.nextDriver u = some r) :
    (s.runner r).mode = .waitingUnit u := by
  unfold State.nextDriver at h
  split at h
  · simp only [Option.some.injEq] at h; subst h; rename_i h1 _; simpa [Runner.waitsFor, State.runner] using h1
  · simp only [Option.some.injEq] at h; subst h; rename_i _ h1; simpa [Runner.waitsFor, State.runner] using h1
  · rename_i h1 h2
    split at h <;> (simp only [Option.some.injEq] at h; subst h)
    · simpa [Runner.waitsFor, State.runner] using h2
    · simpa [Runner.waitsFor, State.runner] using h1
  · simp at h

theorem budget_unitFreed (s : State) (u : UnitNo) :
    budget (performUnitFreed s u).1 (performUnitFreed s u).2 < s.credit + 1 := by
  unfold performUnitFreed
  split
  · simp [budget_def]
  · rename_i h
    split
    · simp [budget_def]
    · rename_i r hr
      have hw := s.nextDriver_waits u r hr
      split
      · simp [budget_def]
      · have hi := budget_issue s r u (s.runners.store[‹Current›.index]) h
        have hx : Runner.credit ⟨.draining, (s.runner r).current, (s.runner r).queue⟩ + 12 = (s.runner r).credit := by
          generalize s.runner r = x at *
          obtain ⟨m, d, q⟩ := x
          simp only at hw
          subst hw
          simp only [Runner.credit_eq]
          omega
        omega

theorem budget_abortTail (s : State) (r : RunnerId) (i : StepNo) :
    budget (performAbortTail s r i).1 (performAbortTail s r i).2 < s.credit + 4 := by
  unfold performAbortTail
  split
  · simp [budget_def, Task.weight]
  · have := weights_reportTask ‹Current›.start .aborted
    simp [budget_def, Task.weight, credit_setRunnerFault, credit_createEvent]
    omega

theorem budget_nextList (s : State) (r : RunnerId) :
    budget (performNextList s r).1 (performNextList s r).2 < s.credit + 1 := by
  unfold performNextList
  dsimp only
  split
  · have hc := credit_setRunner s r ⟨.idle, none, (s.runner r).queue⟩
    have hx : Runner.credit ⟨.idle, none, (s.runner r).queue⟩ ≤ (s.runner r).credit := by
      generalize s.runner r = x at *
      obtain ⟨m, c, q⟩ := x
      simp only [Runner.credit_eq]
      omega
    simp [budget_def]
    omega
  · rename_i t rest hq
    have hc := credit_setRunner s r ⟨.draining, some ⟨t, t.list⟩, rest⟩
    have hx : Runner.credit ⟨.draining, some ⟨t, t.list⟩, rest⟩ + 26 ≤ (s.runner r).credit := by
      generalize s.runner r = x at *
      obtain ⟨m, c, q⟩ := x
      simp only at hq
      subst hq
      have := t.list.isLt
      simp only [Runner.credit_eq, List.length_cons]
      omega
    simp [budget_def, Task.weight]
    omega

theorem budget_release (s : State) (f : FixtureNo) (c : ReleaseCause) :
    budget (performRelease s f c).1 (performRelease s f c).2 < s.credit + 1 := by
  unfold performRelease
  dsimp only
  split
  · rename_i d h _ hh
    have hs := weights_startTask d f d.secondList .release
    generalize hx : ({ s.fixture f with
        state := .free
        claims := { (s.fixture f).claims with
          holder := none
          allowance := refunded d.params (s.fixture f).claims.allowance h.side c } } : Fixture) = x
    have hc := credit_setFixture s f x
    have h1 : x.credit + 1150 = (s.fixture f).credit := by
      subst hx; simp [Fixture.credit, hh]; omega
    simp [budget_def, Task.weight]
    omega
  · simp [budget_def]

theorem budget_releaseTail (s : State) (f : FixtureNo) (robot : Robot) (side : Side) (c : ReleaseCause) :
    budget (performReleaseTail s f robot side c).1 (performReleaseTail s f robot side c).2 < s.credit + 2 := by
  unfold performReleaseTail
  dsimp only
  split <;>
    simp [budget_def, Task.weight, credit_makeHoldOff, credit_raiseChange, credit_createEvent]

theorem budget_promote (s : State) (f : FixtureNo) :
    budget (performPromote s f).1 (performPromote s f).2 < s.credit + 1 := by
  unfold performPromote
  dsimp only
  split
  · simp [budget_def]
  · split
    · simp [budget_def, credit_refreshIndicator, credit_setFixtureState]
    · rename_i w rest hq
      have hc := credit_setClaims s f ⟨(s.fixture f).claims.holder, rest, (s.fixture f).claims.allowance, (s.fixture f).claims.refillCount, (s.fixture f).claims.inFlight⟩
      have h1 : claimsCredit ⟨(s.fixture f).claims.holder, rest, (s.fixture f).claims.allowance, (s.fixture f).claims.refillCount, (s.fixture f).claims.inFlight⟩ + 2300 = (s.fixture f).credit := by
        simp [Fixture.credit_def, claimsCredit, hq]; omega
      split <;> simp [budget_def, Task.weight, credit_makeHoldOff] <;> omega

theorem budget_grant (s : State) (f : FixtureNo) (robot : Robot) (side : Side) (seen age : Nat) :
    budget (performGrant s f robot side seen age).1 (performGrant s f robot side seen age).2 < s.credit + 2300 := by
  unfold performGrant
  dsimp only
  split
  · simp [budget_def]
  · rename_i c _
    have hs := weights_startTask c f c.firstList .grant
    simp only [budget_def, credit_refreshIndicator, credit_raiseChange, credit_createEvent]
    generalize hx : ({ s.fixture f with
        state := .held
        claims := { (s.fixture f).claims with
          holder := some ⟨robot, side, s.clock.tick, seen, age, 0⟩
          allowance := if c.kind = .dispenser then
              (s.fixture f).claims.allowance.set side ((s.fixture f).claims.allowance.get side - 1)
            else (s.fixture f).claims.allowance } } : Fixture) = x
    have hc := credit_setFixture s f x
    have h1 : x.credit ≤ (s.fixture f).credit + 1150 := by
      subst hx; simp [Fixture.credit]; omega
    omega

theorem budget_phaseRelease (s : State) (f : FixtureNo) :
    budget (performPhaseRelease s f).1 (performPhaseRelease s f).2 < s.credit + 1 := by
  unfold performPhaseRelease
  dsimp only
  split
  · rename_i d h _ hh
    have hs := weights_startTask d f d.secondList .release
    generalize hx : ({ s.fixture f with
        state := .dormant, claims := { (s.fixture f).claims with holder := none } } : Fixture) = x
    have hc := credit_setFixture s f x
    have h1 : x.credit + 1150 = (s.fixture f).credit := by
      subst hx; simp [Fixture.credit, hh]; omega
    simp [budget_def, Task.weight]
    omega
  · simp [budget_def]

theorem budget_phaseTail (s : State) (f : FixtureNo) (robot : Robot) (side : Side) :
    budget (performPhaseTail s f robot side).1 (performPhaseTail s f robot side).2 < s.credit + 1 := by
  unfold performPhaseTail
  dsimp only
  generalize hs : s.createEvent (.release .phase) (some f) robot side ((s.fixture f).eventValue side) = s1
  have h0 : s1.credit = s.credit := by subst hs; exact credit_createEvent ..
  have hc := credit_setClaims s1 f ⟨(s1.fixture f).claims.holder, [], (s1.fixture f).claims.allowance, (s1.fixture f).claims.refillCount, (s1.fixture f).claims.inFlight⟩
  have h1 : claimsCredit ⟨(s1.fixture f).claims.holder, [], (s1.fixture f).claims.allowance, (s1.fixture f).claims.refillCount, (s1.fixture f).claims.inFlight⟩ ≤ (s1.fixture f).credit := by
    simp [Fixture.credit_def, claimsCredit]
  simp [budget_def, credit_refreshIndicator, credit_raiseChange]
  omega

theorem budget_endDispense (s : State) (f : FixtureNo) (c : ReleaseCause) :
    budget (endDispense s f c).1 (endDispense s f c).2 < s.credit + 2 := by
  unfold endDispense
  dsimp only
  have hc := credit_setClaims s f ⟨(s.fixture f).claims.holder, (s.fixture f).claims.queue, (s.fixture f).claims.allowance, (s.fixture f).claims.refillCount, (s.fixture f).claims.inFlight - 1⟩
  have h1 : claimsCredit ⟨(s.fixture f).claims.holder, (s.fixture f).claims.queue, (s.fixture f).claims.allowance, (s.fixture f).claims.refillCount, (s.fixture f).claims.inFlight - 1⟩
      = (s.fixture f).credit := rfl
  split <;> simp [budget_def, Task.weight] <;> omega

theorem budget_report (s : State) (f : FixtureNo) (r : Report) :
    budget (performReport s f r).1 (performReport s f r).2 < s.credit + 2 := by
  unfold performReport
  dsimp only
  split
  · simp [budget_def]
  · split
    · have hc := credit_setClaims s f ⟨(s.fixture f).claims.holder, (s.fixture f).claims.queue, (s.fixture f).claims.allowance, (s.fixture f).claims.refillCount, (s.fixture f).claims.inFlight + 1⟩
      have h1 : claimsCredit ⟨(s.fixture f).claims.holder, (s.fixture f).claims.queue, (s.fixture f).claims.allowance, (s.fixture f).claims.refillCount, (s.fixture f).claims.inFlight + 1⟩
          = (s.fixture f).credit := rfl
      simp [budget_def]
      omega
    · split <;> simp [budget_def, Task.weight]
    all_goals exact budget_endDispense ..

/-- Every task leaves less than it took. -/
theorem budget_perform (s : State) (t : Task) : budget (perform s t).1 (perform s t).2 < s.credit + t.weight := by
  cases t with
  | arrive r => exact budget_arrive s r
  | moveOn r => exact budget_moveOn s r
  | unitFreed u => exact budget_unitFreed s u
  | abortTail r i => exact budget_abortTail s r i
  | nextList r => exact budget_nextList s r
  | start r t => exact budget_start s r t
  | report f r => exact budget_report s f r
  | release f c => exact budget_release s f c
  | releaseTail f robot side c => exact budget_releaseTail s f robot side c
  | promote f => exact budget_promote s f
  | grant f robot side seen age => exact budget_grant s f robot side seen age
  | phaseRelease f => exact budget_phaseRelease s f
  | phaseTail f robot side => exact budget_phaseTail s f robot side

/-! ## The equations of settle -/

@[simp] theorem runTasks_nil (n : Nat) (s : State) : runTasks n s [] = s := by cases n <;> rfl

theorem runTasks_cons (n : Nat) (s : State) (t : Task) (ts : List Task) :
    runTasks (n + 1) s (t :: ts) = runTasks n (perform s t).1 ((perform s t).2 ++ ts) := rfl

/-- Any number of tasks from the budget on gives the same run. -/
theorem runTasks_enough (n : Nat) : ∀ (s : State) (ts : List Task), budget s ts ≤ n → runTasks n s ts = settle s ts := by
  induction n using Nat.strong_induction_on with
  | _ n ih =>
    intro s ts h
    cases ts with
    | nil => simp [settle]
    | cons t ts =>
      have hp := budget_perform s t
      have hb : budget (perform s t).1 ((perform s t).2 ++ ts) < budget s (t :: ts) := by
        simp only [budget_def, weights_append, weights_cons] at *
        omega
      unfold settle
      obtain ⟨m, hm⟩ : ∃ m, budget s (t :: ts) = m + 1 := ⟨budget s (t :: ts) - 1, by omega⟩
      obtain ⟨k, rfl⟩ : ∃ k, n = k + 1 := ⟨n - 1, by omega⟩
      rw [hm, runTasks_cons, runTasks_cons]
      rw [ih k (by omega) _ _ (by omega)]
      by_cases hk : m < k + 1
      · rw [ih m hk _ _ (by omega)]
      · omega

@[simp] theorem settle_nil (s : State) : settle s [] = s := by simp [settle]

/-- The task on top is done first, then what it sets off, then the rest. -/
theorem settle_cons (s : State) (t : Task) (ts : List Task) :
    settle s (t :: ts) = settle (perform s t).1 ((perform s t).2 ++ ts) := by
  have hp := budget_perform s t
  have hb : budget (perform s t).1 ((perform s t).2 ++ ts) < budget s (t :: ts) := by
    simp only [budget_def, weights_append, weights_cons] at *
    omega
  obtain ⟨m, hm⟩ : ∃ m, budget s (t :: ts) = m + 1 := ⟨budget s (t :: ts) - 1, by omega⟩
  have := runTasks_enough m (perform s t).1 ((perform s t).2 ++ ts) (by omega)
  rw [← this, ← runTasks_cons, settle, hm]

theorem settle_append (s : State) (ts us : List Task) : settle s (ts ++ us) = settle (settle s ts) us := by
  induction h : budget s ts using Nat.strong_induction_on generalizing s ts with
  | _ n ih =>
    cases ts with
    | nil => simp
    | cons t ts =>
      have hp := budget_perform s t
      rw [List.cons_append, settle_cons, settle_cons, ← List.append_assoc]
      refine ih _ ?_ _ _ rfl
      subst h
      simp only [budget_def, weights_append, weights_cons] at *
      omega

/-- A property of states that every task keeps, the whole run keeps. -/
theorem settle_keeps (P : State → Prop) (h : ∀ s t, P s → P (perform s t).1) :
    ∀ (s : State) (ts : List Task), P s → P (settle s ts) := by
  have key : ∀ n s ts, P s → P (runTasks n s ts) := by
    intro n
    induction n with
    | zero => intro s ts hs; exact hs
    | succ n ih =>
      intro s ts hs
      cases ts with
      | nil => exact hs
      | cons t ts => exact ih _ _ (h s t hs)
  intro s ts hs
  exact key _ s ts hs

/-- A property of states and stacks that every task keeps, the whole run keeps to the empty stack. -/
theorem settle_keeps_stack (P : State → List Task → Prop)
    (h : ∀ s t ts, P s (t :: ts) → P (perform s t).1 ((perform s t).2 ++ ts)) (s : State) (ts : List Task)
    (hs : P s ts) : P (settle s ts) [] := by
  induction hb : budget s ts using Nat.strong_induction_on generalizing s ts with
  | _ n ih =>
    cases ts with
    | nil => simpa using hs
    | cons t ts =>
      have hp := budget_perform s t
      rw [settle_cons]
      refine ih _ ?_ _ _ (h s t ts hs) rfl
      subst hb
      simp only [budget_def, weights_append, weights_cons] at *
      omega

end Sys2Proof.Machine
end

