-- ==== Sys2Proof/Laws/Tick.lean ====
section
/-! SUPPORT. Laws/Tick.lean: how a counted tick goes through the fixtures (R2): its equations, and the one induction over
it. -/

namespace Sys2Proof.Machine

/-- A tick that no fixture has still to take has nothing waiting. -/
@[simp] theorem tickOn_nil (s : State) : tickOn [] s = { s with clock := { s.clock with ticking := [] } } := rfl

/-- Where the fixture's tick calls for its OVERSTAY or REFILL, the others wait. -/
theorem tickOn_waits {s : State} {f : FixtureNo} (fs : List FixtureNo)
    (h : overstayed f (fixtureTick s f) = true ∨ refillDue f (fixtureTick s f) = true) :
    tickOn (f :: fs) s =
      { fixtureTick s f with clock := { (fixtureTick s f).clock with ticking := fs } } := by
  simp [tickOn, h]

/-- Where it does not, the next fixture takes the tick. -/
theorem tickOn_goes {s : State} {f : FixtureNo} (fs : List FixtureNo)
    (h : overstayed f (fixtureTick s f) = false) (k : refillDue f (fixtureTick s f) = false) :
    tickOn (f :: fs) s = tickOn fs (fixtureTick s f) := by
  simp [tickOn, h, k]

/-- Everything a tick over some fixtures can come to: the first of them have ticked in order, and the rest wait. -/
theorem tickOn_split (fs : List FixtureNo) (s : State) :
    ∃ done rest, fs = done ++ rest ∧
      tickOn fs s = { done.foldl fixtureTick s with clock := { (done.foldl fixtureTick s).clock with ticking := rest } } := by
  induction fs generalizing s with
  | nil => exact ⟨[], [], rfl, rfl⟩
  | cons f fs ih =>
    by_cases h : overstayed f (fixtureTick s f) = true ∨ refillDue f (fixtureTick s f) = true
    · exact ⟨[f], fs, rfl, tickOn_waits fs h⟩
    · obtain ⟨done, rest, e, t⟩ := ih (fixtureTick s f)
      simp only [not_or, Bool.not_eq_true] at h
      exact ⟨f :: done, rest, by simp [e], by rw [tickOn_goes fs h.1 h.2, t]; rfl⟩

/-- What every fixture's tick keeps, and what does not depend on the fixtures still to tick, a tick keeps. -/
theorem tickOn_keeps (P : State → Prop) (tick : ∀ s f, P s → P (fixtureTick s f))
    (mark : ∀ s l, P s → P { s with clock := { s.clock with ticking := l } }) (fs : List FixtureNo) (s : State)
    (h : P s) : P (tickOn fs s) := by
  induction fs generalizing s with
  | nil => exact mark s [] h
  | cons f fs ih =>
    simp only [tickOn]
    split
    · exact mark _ fs (tick s f h)
    · exact ih _ (tick s f h)

theorem finishTick_keeps (P : State → Prop) (tick : ∀ s f, P s → P (fixtureTick s f))
    (mark : ∀ s l, P s → P { s with clock := { s.clock with ticking := l } }) (s : State) (h : P s) :
    P (finishTick s) := by
  have go : ∀ (l : List FixtureNo) (u : State), P u → P (l.foldl fixtureTick u) := by
    intro l
    induction l with
    | nil => exact fun _ hu => hu
    | cons f l ih => exact fun u hu => ih _ (tick u f hu)
  exact mark _ [] (go _ s h)

/-- With nothing waiting a tick need not be finished. -/
theorem finishTick_none (s : State) (h : s.clock.ticking = []) : finishTick s = s := by
  obtain ⟨_, _, _, _, _, ⟨_, _, _, _, _, ticking, _, _⟩, _⟩ := s
  simp only at h; subst h; rfl

end Sys2Proof.Machine
end

