-- ==== Sys2Proof/WellFormed.lean ====
section
/-! DEFINITION. WellFormed.lean: which commands describe an occurrence of their row. A command that is not well-formed
names something the row cannot be (a sighting of robot 0, a STATUS_RECEIVED whose bytes are no valid STATUS frame): the
part then does nothing for it beyond letting its time pass (log entry 3). -/

namespace Sys2Proof

open Sys2Proof.Machine

/-- A frame operand that is judged a valid frame of this kind (R175). -/
def isValidFrame (kind : FrameKind) (frame : List Byte) : Bool :=
  match judge frame with
  | .valid k _ _ => k == kind
  | .incomplete | .discarded => false

/-- A frame operand that is complete and fails a check of Table 10-6. -/
def isDiscardedFrame (frame : List Byte) : Bool := judge frame == .discarded

/-- A robot that a beacon word, a hold-off entry, a sight-list entry or a queue entry can name: 1–63 (R14, R76, R80). -/
def isRobot (r : Robot) : Bool := r != 0

/-- A stretch of LINE_RXD in which the receiver reads a character other than SYNC (R169, R174). -/
def isNonSync (line : List LineRun) : Bool :=
  match readCharacter line with
  | none => false
  | some (.byte c) => c != syncByte
  | some (.framingError _) => true

/-- An abandonment for a framing error carries a character whose stop bit reads dominant (R169). -/
def isAbandonment (cause : AbandonCause) : Bool :=
  match cause with
  | .gap | .lenAbove64 => true
  | .framingError line =>
    match readCharacter line with
    | some (.framingError _) => true
    | some (.byte _) | none => false

/-- The well-formed commands. Operands of the other rows have no ill-formed value: their types hold their ranges. -/
def Instr.wellFormed (i : Instr) : Bool :=
  match i with
  | .sighting _ _ robot _ => isRobot robot
  | .holdOffExpiry robot _ => isRobot robot
  | .sightExpiry _ robot => isRobot robot
  | .queuedLost _ robot => isRobot robot
  | .statusReceived _ frame => isValidFrame .status frame
  | .eventFrameReceived _ frame => isValidFrame .event frame
  | .matchFrameReceived _ frame => isValidFrame .command frame
  | .frameDiscard _ frame => isDiscardedFrame frame
  | .nonSyncCharacter _ line => isNonSync line
  | .frameAbandon _ cause => isAbandonment cause
  | .reset _ | .loadEnd _ _ | .lost _ | .overstay _ | .countedTick | .refill _ | .periodEnd | .graceEnd _ | .jam _
  | .unjam _ | .transientEnd _ | .inputSample _ | .start _ | .halt _ | .resume _ | .clear _
  | .statusTimerExpiry | .changeEligible | .attemptBegin | .attemptSuccess | .attemptAbort _ | .muteTimerExpiry
  | .patternPhaseEnd _ | .delayEnd _ | .lampPhaseEnd _ | .beaconLevelChange _ _ _ | .beaconWindowOverrun _
  | .receiverReturnToHunt | .resetAsserted => true

end Sys2Proof
end

