-- ==== Sys2Proof/Tests/Slice0.lean ====
section
/-! SUPPORT. Tests/Slice0.lean: the smoke tests of the well-formedness checks, worked values of the manual against the
model's operations, one step of each command on a small state, and for every statement with hypotheses a state and
operands that meet them. Each expected value is the manual's own, from the table or rule named. -/

namespace Sys2Proof.Tests

open Sys2Proof.Machine

set_option Elab.async false

/-! ## A small site -/

/-- Station 5 in DRIVE at tick 10, 5.0 s after its load: a GATE on port 0 (hold limit 5.0 s, lost time 1.0 s), a
DISPENSER on port 1 (ACAP 5, A0 3, refill 10 tenths) whose grant list is steps 0–1 of runner A, a ZONE on port 2 (CMAX
10, rate cap 2) and a GOAL fed by IN0 (FIXED side 1, DRIVE value 3, grace 2.0 s, jam time 1.0 s); IN1 is a level HALT
input. Robots of odd number are of side 1, of even number of side 2. U0 is bound ACTUATOR, U2 is the gate's lamp. -/
def gateC : FixtureConfig := ⟨.gate 50 1000, some 0, 0xC, 0x3, none, none, none, some 2, .A, none, none⟩
def dispC : FixtureConfig := ⟨.dispenser 1000 5 3 10, some 1, 0xC, 0x3, none, none, none, none, .A, some 0, none⟩
def zoneC : FixtureConfig := ⟨.zone 10 2, some 2, 0xF, 0x3, none, none, none, none, .A, none, none⟩
def goalC : FixtureConfig :=
  ⟨.goal (some (.fixed 1)) ⟨2, 0, 3, 4⟩ 20 10, none, 0x4, 0, none, none, none, none, .A, none, none⟩

def record (c : FixtureConfig) (st : FixtureState) (i : Indicator) : Fixture :=
  { Fixture.absent with
    config := some c, state := st, indicator := i, claims := { Claims.start with allowance := PerSide.all 3 } }

def delayStep (last : Bool) : Step := ⟨none, 9, 9, 2, .ms10, false, last⟩
def pulseStep : Step := ⟨some 0, 4, 1, 3, .ms100, false, true⟩

def site : State :=
  { State.reset with
    loader := ⟨.ready, 5#5, 5, false⟩
    settings := ⟨1000, 3000, 2000, 1000, true⟩
    now := 5000000
    engine :=
      { Engine.start with
        fixtures := put (put (put (put Engine.start.fixtures 0 (record gateC .free .idle)) 1 (record dispC .free .idle))
          2 (record zoneC .live .idle)) 3 (record goalC .counting .idle)
        sideTable := Vector.ofFn fun r => if r.val = 0 then 0 else if r.val % 2 = 1 then 1 else 2 }
    clock := ⟨.drive, .idle, 10, 40000, false, [], ⟨0, 0, 100, 50⟩, ⟨0, 0, 100, 150⟩⟩
    inputs := ⟨put (put Inputs.start.records 0 ⟨.activeHigh, .edge, .piece 3, false, 0, false⟩)
      1 ⟨.activeLow, .level, .command .halt, false, 0, false⟩, 0, 0x002#12⟩
    runners := { Runners.start with
      store := put (put (put Runners.start.store 0 (delayStep false)) 1 (delayStep true)) 2 pulseStep }
    pulse := { Pulse.start with
      units := put (put Pulse.start.units 0 { PulseUnit.start with binding := .actuator })
        2 { PulseUnit.start with
            binding := .lamp, lamp := { Lamp.start with handed := some .idle, running := some (.index 1), left := 500000 } }
      patterns := put Pulse.start.patterns 1 (.blink 4 3 .ms100) }
    picture := { Picture.start with peers := put Picture.start.peers 3 ⟨true, 500000, .drive, .idle, 9, []⟩ }
    line := { Line.start with receiver := .hunt, idle := 500 } }

/-- The site with one fixture as `x` makes it. -/
def withFixture (f : FixtureNo) (x : Fixture → Fixture) (s : State) : State := s.setFixture f (x (s.fixture f))

def holder37 : Holder := ⟨37, 1, 7, 4900, 100000, 3⟩

/-- The site with the gate HELD by robot 37 since tick 7, and these robots waiting. -/
def held (q : List Waiter) (h : Holder := holder37) : State :=
  withFixture 0 (fun x => { x with
    state := .held, indicator := .side1, claims := { x.claims with holder := some h, queue := q } }) site

def inPhase (p : Phase) (s : State) : State := { s with clock := { s.clock with phase := p, resume := .drive } }

/-- The site HALTED in DRIVE. -/
def halted (s : State) : State :=
  { inPhase .halted s with pulse := { s.pulse with safe := true } }

def withGoal (x : Fixture → Fixture) : State := withFixture 3 x site

def withSights (p : PortNo) (l : List Sight) (s : State) : State := s.setPort p { s.ports[p] with sights := l }

/-- The state that a command leaves. -/
def after (c : Instr) (s : State) : State :=
  match exec c s with
  | .next t => t
  | .fault _ | .refused _ => s

def loading : State := after (.reset 0b00101#5) site

/-! ## Well-formedness: each check refuses an ill-formed term -/

def statusFrame : List Byte := frameBytes .status 9 0 (statusPayload site.snapshot)
def eventFrame : List Byte := frameBytes .event 9 3 (eventPayload ⟨3, .grant, some 0, 37, 1, 0, 10⟩)
def haltFrame : List Byte := frameBytes .command 9 0 (commandPayload .halt 10)
def badFrame : List Byte := [0xC3, 0, 9, 9, 0, 0, 0]

theorem test_wf_sighting : (Instr.sighting 0 0 0 1).wellFormed = false ∧ (Instr.sighting 0 0 63 1).wellFormed = true := by
  decide +kernel
theorem test_wf_holdOffExpiry : (Instr.holdOffExpiry 0 7).wellFormed = false := by decide +kernel
theorem test_wf_sightExpiry : (Instr.sightExpiry 3 0).wellFormed = false := by decide +kernel
theorem test_wf_queuedLost : (Instr.queuedLost 0 0).wellFormed = false := by decide +kernel
theorem test_wf_statusReceived :
    (Instr.statusReceived 0 haltFrame).wellFormed = false ∧ (Instr.statusReceived 0 statusFrame).wellFormed = true := by
  decide +kernel
theorem test_wf_eventFrame :
    (Instr.eventFrameReceived 0 statusFrame).wellFormed = false ∧
      (Instr.eventFrameReceived 0 eventFrame).wellFormed = true := by decide +kernel
theorem test_wf_matchFrame :
    (Instr.matchFrameReceived 0 eventFrame).wellFormed = false ∧
      (Instr.matchFrameReceived 0 haltFrame).wellFormed = true := by decide +kernel
theorem test_wf_frameDiscard :
    (Instr.frameDiscard 0 haltFrame).wellFormed = false ∧ (Instr.frameDiscard 0 badFrame).wellFormed = true := by
  decide +kernel
/-- R169: a line that stands dominant for 60 µs gives a framing error, one that stays recessive no character. -/
theorem test_wf_nonSyncCharacter :
    (Instr.nonSyncCharacter 0 (characterRuns 0xC3#8)).wellFormed = false ∧
      (Instr.nonSyncCharacter 0 [⟨false, 90⟩]).wellFormed = false ∧
      (Instr.nonSyncCharacter 0 [⟨true, 60⟩]).wellFormed = true := by decide +kernel
theorem test_wf_frameAbandon :
    (Instr.frameAbandon 0 (.framingError (characterRuns 0x55#8))).wellFormed = false ∧
      (Instr.frameAbandon 0 (.framingError [⟨true, 60⟩])).wellFormed = true := by decide +kernel

/-! ## Worked values of the manual -/

/-- R171: the bytes 31 hex to 39 hex give 29B1 hex. -/
theorem test_crc_check_value :
    crc [0x31#8, 0x32#8, 0x33#8, 0x34#8, 0x35#8, 0x36#8, 0x37#8, 0x38#8, 0x39#8] = 0x29B1#16 := by decide +kernel

/-- R169: least significant bit first, so a start bit and 8D hex are 0 1 0 1 1 0 0 0 1 and the stop bit 1; a receiver that
sees a glitch off the middle of a bit reads the same; a line dominant for 60 µs is a framing error, read at 38 µs. -/
theorem test_read_character :
    readCharacter [⟨false, 7⟩, ⟨true, 4⟩, ⟨false, 4⟩, ⟨true, 4⟩, ⟨false, 8⟩, ⟨true, 12⟩, ⟨false, 4⟩] =
      some (.byte 0x8D#8) ∧
    readCharacter [⟨true, 4⟩, ⟨false, 3⟩, ⟨true, 5⟩, ⟨false, 8⟩, ⟨true, 12⟩, ⟨false, 4⟩] = some (.byte 0x8D#8) ∧
    readCharacter [⟨true, 60⟩] = some (.framingError 22) := by decide +kernel

/-- R188: the read command is 03 hex and three bytes of 0, most significant bit first, each bit taken as SPI_SCK falls and
held as it rises; nothing is sent once the load has ended. -/
theorem test_read_command :
    loading.loader.spiSends.take 16 = (List.replicate 6 false ++ [true, true]).flatMap (fun b => [(false, b), (true, b)]) ∧
      loading.loader.spiSends.length = 64 ∧ site.loader.spiSends = [] := by decide +kernel

/-- Section 4.2: robot 37's REQUEST is 1001 0101 with check nibble 0001. -/
theorem test_beacon_word : beaconWord 37 1 =
    [true, false, false, true, false, true, false, true, false, false, false, true] := by decide +kernel

/-- Table 1-5, side set 1 and 3. -/
theorem test_admission_examples :
    let plain : FixtureConfig := { gateC with sideSet := 0x5 }
    let ranged : FixtureConfig := { plain with range := some ⟨20, 39⟩ }
    let both : FixtureConfig := { ranged with digits := some ⟨8, 56⟩ }
    plain.admits 12 1 = true ∧ plain.sideTest 2 = false ∧ ranged.windowTest 12 = false ∧ both.admits 12 1 = true ∧
      both.windowTest 44 = false ∧ plain.sideTest 0 = false := by decide +kernel

/-- Table 3-2 from t0 to t5 and t10 to t12, t20 to t21. -/
theorem test_zone_taken :
    (Control.tick ⟨1, 20, 0, false⟩ 20 ⟨0, 2, 0, 0⟩) = ⟨1, 18, 0, false⟩ ∧
    (Control.tick ⟨1, 14, 0, false⟩ 20 ⟨1, 2, 0, 0⟩) = ⟨1, 14, 0, true⟩ ∧
    (Control.tick ⟨1, 14, 0, true⟩ 20 ⟨0, 2, 0, 0⟩) = ⟨1, 12, 0, false⟩ ∧
    (Control.tick ⟨1, 2, 0, false⟩ 20 ⟨0, 2, 0, 0⟩) = ⟨0, 0, 2, false⟩ ∧
    (Control.tick ⟨0, 0, 2, false⟩ 20 ⟨0, 2, 0, 0⟩) = ⟨0, 2, 2, false⟩ ∧
    (Control.tick ⟨0, 18, 2, false⟩ 20 ⟨0, 2, 0, 0⟩) = ⟨2, 20, 0, false⟩ := by decide +kernel

/-- Table 3-3, ticks 4, 5 and 9. -/
theorem test_challenger_switch :
    (Control.tick ⟨0, 6, 1, false⟩ 10 ⟨0, 0, 3, 0⟩) = ⟨0, 3, 1, false⟩ ∧
    (Control.tick ⟨0, 3, 1, false⟩ 10 ⟨0, 0, 3, 0⟩) = ⟨0, 0, 3, false⟩ ∧
    (Control.tick ⟨0, 9, 3, false⟩ 10 ⟨0, 0, 3, 0⟩) = ⟨3, 10, 0, false⟩ := by decide +kernel

/-- Table 10-9, after the frame of station 5: stations 4, 7 and 20. -/
theorem test_hold_offs :
    holdOffBits 1 (slot 4 5) = 134 ∧ holdOffBits 1 (slot 7 5) = 76 ∧ holdOffBits 2 (slot 20 5) = 166 ∧
      slot 5 5 = 31 := by decide +kernel

/-- Table 5-2. -/
theorem test_boundaries : boundaries ⟨150, 0, 1200, 300⟩ = ⟨150, 150, 1350, 1650⟩ := by decide +kernel

/-- R191, Table 11-6: a sight window of 50 ms becomes 100 ms; a side of 6 becomes 4. -/
theorem test_clamps : clamp 100 2000 50 = 100 ∧ clampSide 6 = 4 ∧ clamp 5 100 200 = 100 := by decide +kernel

/-- R187: STRAP0 and STRAP2 high are station 5. -/
theorem test_straps : strapNumber 0b00101#5 = 5 := by decide +kernel

/-- Table 9-3: index 2 is 500 ms high, index 4 is 800 ms low. -/
theorem test_lamp_times :
    (LampPattern.blink 4 4 .ms100).phaseTime true = 500000 ∧
      (LampPattern.blink 0 7 .ms100).phaseTime false = 800000 := by decide +kernel

/-! ## One step of each command -/

/-- A script of SETTINGS, PERIODS and END: a good load of a station without fixtures (section 11.4). Its sight window of
50 ms is below the range. -/
def smallScript : List Byte :=
  let image : List Byte := [0x4A, 0x4B, 1, 0, 30, 1, 9, 3, 0xE8, 3, 0xE8, 0, 50, 3, 0xE8, 0,
    3, 8, 0, 150, 0, 0, 4, 0xB0, 1, 44, 0, 0]
  image ++ crcBytes image

/-- The levels of SPI_MISO while the loader reads it. -/
def smallMemory : List Bool := smallScript.flatMap spiBits

theorem test_reset : loading.loader = ⟨.loading, 5#5, 5, true⟩ ∧ loading.engine = Engine.start := by decide +kernel

theorem test_resetAsserted :
    (after .resetAsserted site).loader = ⟨.held, 5#5, 5, false⟩ ∧ (after .resetAsserted site).clock.phase = .idle := by
  decide +kernel

/-- R191, R194, Table 5-2: the sight window is clamped to 100 ms. -/
theorem test_loadEnd_good :
    (after (.loadEnd smallMemory ⟨0, 0⟩) loading).loader.load = .ready ∧
      (after (.loadEnd smallMemory ⟨0, 0⟩) loading).settings.sightWindow = 100 ∧
      (after (.loadEnd smallMemory ⟨0, 0⟩) loading).clock.ends = ⟨150, 150, 1350, 1650⟩ := by decide +kernel

/-- R186: the line stands dominant for 30 µs after the load. -/
theorem test_loadEnd_line :
    (after (.loadEnd smallMemory ⟨0, 30⟩) loading).line.busy = 30 ∧
      ((after (.loadEnd smallMemory ⟨0, 30⟩) loading).advance 40).line.idle = 10 := by decide +kernel

/-- R190: a memory that nothing drives reads as FF hex and has no magic. -/
theorem test_loadEnd_bad : (after (.loadEnd [] ⟨0, 0⟩) loading).loader.load = .unconfigured := by decide +kernel

/-- R23, R27: the stamp is the tick. -/
theorem test_sighting_request :
    ((after (.sighting 0 0 37 1) site).fixture 0).claims.holder = some ⟨37, 1, 10, 5000, 0, 0⟩ := by decide +kernel

/-- R33: robot 37 is the holder and releases. -/
theorem test_sighting_release :
    ((after (.sighting 0 0 37 2) (held [])).fixture 0).state = .free := by decide +kernel

/-- R14, R16: the entry is gone at its expiry, 500 ms on. -/
theorem test_holdOffExpiry :
    (after (.holdOffExpiry 9 0) (site.setHoldOff [⟨9, 0, 5500⟩])).engine.holdOff = [] ∧
      (after (.holdOffExpiry 9 0) (site.setHoldOff [⟨9, 0, 5500⟩])).now = 5500000 := by decide +kernel

/-- R83: last seen at 4000 ms with a window of 2000 ms. -/
theorem test_sightExpiry :
    (after (.sightExpiry 2 12) (withSights 2 [⟨12, 2, 4000⟩] site)).now = 6000000 ∧
      ((after (.sightExpiry 2 12) (withSights 2 [⟨12, 2, 4000⟩] site)).ports[2]).sights = [] := by decide +kernel

/-- R31, R14: a lost holder has a hold-off entry of 1000 ms from 5900 ms. -/
theorem test_lost :
    ((after (.lost 0) (held [])).fixture 0).claims.holder = none ∧
      (after (.lost 0) (held [])).engine.holdOff = [⟨37, 0, 6900⟩] := by decide +kernel

/-- R32: no event. -/
theorem test_queuedLost :
    ((after (.queuedLost 0 12) (held [⟨12, 2, 4500, 500000⟩])).fixture 0).claims.queue = [] ∧
      (after (.queuedLost 0 12) (held [⟨12, 2, 4500, 500000⟩])).line.queue = [] := by decide +kernel

/-- R30, R35: the waiting robot follows with the current tick as its stamp. -/
theorem test_overstay :
    ((after (.overstay 0) (held [⟨12, 2, 4500, 500000⟩] { holder37 with held := 50 })).fixture 0).claims.holder
      = some ⟨12, 2, 10, 4500, 500000, 0⟩ := by decide +kernel

/-- R90, R30. -/
theorem test_countedTick :
    (after .countedTick (held [])).clock.tick = 11 ∧ (after .countedTick (held [])).clock.tenth = 0 ∧
      ((after .countedTick (held [])).fixture 0).claims.holder.map Holder.held = some 4 := by decide +kernel

def refillAt (n : Nat) : State := withFixture 1 (fun x => { x with claims := { x.claims with refillCount := n } }) site

/-- R39: at 10 of 10 tenths every side rises; at 9 nothing happens. -/
theorem test_refill :
    ((after (.refill 1) (refillAt 10)).fixture 1).claims.allowance = PerSide.all 4 ∧
      after (.refill 1) (refillAt 9) = refillAt 9 := by decide +kernel

/-- The gate at its hold limit and robot 12 waiting; one tick calls for OVERSTAY before the zone above has ticked. -/
def limited : State := withSights 2 [⟨12, 2, 4950⟩] (held [⟨12, 2, 4500, 500000⟩] { holder37 with held := 49 })

/-- R2: the gate is finished, with its grant, before the zone takes the tick. -/
theorem test_tick_waits :
    (after .countedTick limited).clock.ticking = [1, 2, 3, 4, 5, 6, 7] ∧
      ((after .countedTick limited).fixture 2).control.level = 0 ∧
      ((after (.overstay 0) (after .countedTick limited)).fixture 2).control.level = 1 ∧
      (after (.overstay 0) (after .countedTick limited)).clock.ticking = [] := by decide +kernel

def atTick (n : Nat) : State := { site with clock := { site.clock with tick := n, boundaryDue := true } }

/-- R90: DRIVE ends at its end tick, 100, and not before. -/
theorem test_periodEnd :
    (after .periodEnd (atTick 100)).clock.phase = .endgame ∧ (after .periodEnd (atTick 99)).clock.phase = .drive := by
  decide +kernel

def inGrace : State :=
  withGoal fun x => { x with
    state := .grace, scoring := { x.scoring with graceLeft := 400000, credited := some .auto } }

/-- R64: a grace that ends in DRIVE, in the count mask, leaves the goal COUNTING. -/
theorem test_graceEnd :
    ((after (.graceEnd 3) inGrace).fixture 3).state = .counting ∧
      (after (.graceEnd 3) inGrace).now = 5400000 := by decide +kernel

/-- The goal's input stands at this level, and has for this time. -/
def goalInputFor (active : Bool) (time : Nat) (s : State) : State :=
  withFixture 3 (fun x => { x with scoring := { x.scoring with jamTimer := time } })
    (s.setInput 0 { s.inputs.records[0] with qualified := active })

/-- R67: the jam time is 1.0 s. -/
theorem test_jam :
    (after (.jam 3) (goalInputFor true 300000 site)).now = 5700000 ∧
      ((after (.jam 3) (goalInputFor true 300000 site)).fixture 3).state = .jammed := by decide +kernel

def jammed : State := withGoal fun x => { x with state := .jammed }

/-- R69: a goal jammed from COUNTING counts again in its mask. -/
theorem test_unjam : ((after (.unjam 3) (goalInputFor false 0 jammed)).fixture 3).state = .counting := by decide +kernel

def refusedGate : State :=
  withFixture 0 (fun x => { x with transient := some .refused, transientLeft := 250000, indicator := .refused }) site

/-- R19: the FREE gate shows IDLE again. -/
theorem test_transientEnd : ((after (.transientEnd 0) refusedGate).fixture 0).indicator = .idle := by decide +kernel

def onceActive : State := site.setInput 0 { site.inputs.records[0] with disagreeing := 1 }

/-- Table 7-2, R129, R61: the second active sample changes the level, and the EDGE activation is a piece of value 3. -/
theorem test_inputSample :
    (after (.inputSample 0x003#12) onceActive).engine.points.one = 3 ∧
      (after (.inputSample 0x003#12) site).engine.points.one = 0 := by decide +kernel

/-- The site in IDLE, every fixture DORMANT. -/
def idleSite : State :=
  { inPhase .idle site with
    engine := { site.engine with fixtures := Vector.ofFn fun i =>
      let x := site.engine.fixtures[i]
      if x.state = .dead then x else { x with state := .dormant, indicator := .dormant } } }

/-- R92: AUTO and TRANSIT have length 0. -/
theorem test_start :
    (after (.start 0) idleSite).clock.phase = .drive ∧ (after (.start 0) idleSite).clock.tick = 0 ∧
      ((after (.start 0) idleSite).fixture 0).state = .free := by decide +kernel

/-- R93, R43: the hold stays. -/
theorem test_halt :
    (after (.halt 0) (held [])).clock.phase = .halted ∧ (after (.halt 0) (held [])).clock.resume = .drive ∧
      ((after (.halt 0) (held [])).fixture 0).claims.holder = some holder37 := by decide +kernel

theorem test_resume :
    (after (.resume 0) (halted (held []))).clock.phase = .drive ∧
      ((after (.resume 0) (halted (held []))).fixture 0).state = .held := by decide +kernel

/-- R95: accepted while HALTED, ignored in DRIVE. -/
theorem test_clear :
    (after (.clear 0) (halted (held []))).clock.phase = .idle ∧
      ((after (.clear 0) (halted (held []))).fixture 0).state = .dormant ∧ after (.clear 0) site = site := by
  decide +kernel

/-- R110: station 9's own summary, read back. -/
theorem test_statusReceived :
    ((after (.statusReceived 0 statusFrame) site).peer 9).tick = 10 ∧
      ((after (.statusReceived 0 statusFrame) site).peer 9).entries = site.summary ∧
      (after (.statusReceived 0 statusFrame) site).line.lastSender = 9 := by decide +kernel

theorem test_eventFrameReceived :
    (after (.eventFrameReceived 0 eventFrame) site).line.lastSender = 9 ∧
      (after (.eventFrameReceived 0 eventFrame) site).picture.request = none := by decide +kernel

/-- R175: kind 9 is none of Table 10-1. -/
theorem test_frameDiscard : (after (.frameDiscard 0 badFrame) site).line.lastSender = 0 := by decide +kernel

/-- A frame in progress, its fourth character 10 µs ago. -/
def inFrame : State :=
  { site with line := { site.line with receiver := .frame, received := [0xC3#8, 9, 3, 9], idle := 10 } }

/-- R174, R178: the gap is over 25 µs after the fourth character; a framing error, read 38 µs after it, leaves the line
dominant for 22 µs yet, so that HUNT comes 22 + 25 µs on. -/
theorem test_frameAbandon :
    (after (.frameAbandon 0 .gap) inFrame).now = 5000015 ∧ (after (.frameAbandon 0 .gap) inFrame).line.receiver = .skip ∧
      (after .receiverReturnToHunt (after (.frameAbandon 0 (.framingError [⟨true, 60⟩])) inFrame)).now
        = 5000000 + 28 + 47 := by decide +kernel

def due (r : Option Request) : State := { site with picture := { site.picture with statusTimer := 900000, request := r } }

/-- R115: the interval is 1000 ms. -/
theorem test_statusTimerExpiry :
    (after .statusTimerExpiry (due none)).now = 5100000 ∧
      (after .statusTimerExpiry (due none)).picture.request.map Request.cls = some .periodic := by decide +kernel

theorem test_changeEligible : (after .changeEligible (due (some ⟨.change, 5020000⟩))).now = 5020000 := by decide +kernel

def grantEvent : Event := ⟨0, .grant, some 0, 37, 1, 0, 10⟩
def queued (q : List QueuedFrame) : State := { site with line := { site.line with queue := q } }
def waitingHalt : State := queued [⟨.command .halt, 4990000, false⟩]

/-- R178, Table 10-8: slot 4 and class 0 are 18 bit times, 72 µs; the idle time of 500 µs waits for 872 µs. -/
theorem test_attemptBegin :
    (after .attemptBegin waitingHalt).now = 5000372 ∧
      (after .attemptBegin waitingHalt).line.attempt.map Attempt.left = some 400 := by decide +kernel

def sending (f : QueuedFrame) (item : Item) (aborts : Nat) : State :=
  { site with line := { site.line with
      queue := [{ f with sending := true }], aborts := aborts, receiver := .hunt
      attempt := some ⟨item, haltFrame, 400⟩ } }

def sendingEvent : State := sending ⟨.event grantEvent, 4990000, false⟩ .event 3

theorem test_attemptSuccess :
    (after .attemptSuccess sendingEvent).line.queue = [] ∧ (after .attemptSuccess sendingEvent).line.aborts = 0 ∧
      (after .attemptSuccess sendingEvent).line.lastSender = 5 := by decide +kernel

/-- R180, R183: the 16th abort mutes. R174: an abort inside SYNC leaves HUNT, one inside the third character FRAME. A bit
is read back at its middle: of the first one at 2 µs; after the last stop bit's, 398 µs, no more. -/
theorem test_attemptAbort :
    (after (.attemptAbort 8) sendingEvent).line.aborts = 4 ∧
      (after (.attemptAbort 8) (sending ⟨.event grantEvent, 0, false⟩ .event 15)).line.muted = some .collisions ∧
      (after (.attemptAbort 8) sendingEvent).line.receiver = .hunt ∧
      (after (.attemptAbort 90) sendingEvent).line.receiver = .frame ∧
      (after (.attemptAbort 90) sendingEvent).line.received = [0xC3#8, 3] ∧
      (after (.attemptAbort 0) sendingEvent).now = 5000002 ∧
      (after (.attemptAbort 398) sendingEvent).line.attempt = none ∧
      (after (.attemptAbort 399) sendingEvent).line.attempt = some ⟨.event, haltFrame, 1⟩ := by decide +kernel

/-- R180, Table 10-8: after an abort in SYNC's start bit the station waits for the next idle time: slot 4, 82 bit times from
the abort for an event. -/
theorem test_abortInStartBit :
    attemptWait (after (.attemptAbort 0) sendingEvent) = some 328 ∧
      (after (.matchFrameReceived 0 haltFrame) (after (.attemptAbort 0) sendingEvent)).now = 5000402 := by decide +kernel

/-- R180: a HALT frame of station 9 that wins in SYNC's second bit, or in the third character, ends 400 µs after both
attempts began, also where the character it was in has ended since. -/
theorem test_winnersFrame :
    (after (.matchFrameReceived 0 haltFrame) (after (.attemptAbort 6) sendingEvent)).now = 5000400 ∧
      (after (.matchFrameReceived 0 haltFrame) ((after (.attemptAbort 6) sendingEvent).advance 90)).now = 5000400 ∧
      (after (.matchFrameReceived 0 haltFrame) ((after (.attemptAbort 90) sendingEvent).advance 60)).now = 5000400 := by
  decide +kernel

def muted : State := { site with line := { site.line with muted := some .twin, muteTimer := 10000000 } }

/-- R184: FAULT LINE_MUTED with the cause's value, 2 for twin. -/
theorem test_muteTimerExpiry :
    (after .muteTimerExpiry muted).line.muted = none ∧ (after .muteTimerExpiry muted).line.queue.map (·.body) =
      [.event ⟨0, .fault .lineMuted, none, 0, 0, 2, 10⟩] := by decide +kernel

/-- U0 driven by runner A, which holds its last step there; `isHigh` and `repeats` say where its pattern stands. -/
def pulsing (isHigh : Bool) (repeats : Nat) : State :=
  { site with
    runners := { site.runners with a := ⟨.holding 0, some ⟨⟨2, 1, .release⟩, 2⟩, []⟩ }
    pulse := { site.pulse with units := put site.pulse.units 0 { site.pulse.units[0] with
      pattern := some ⟨4, 1, 100000, repeats, isHigh, 70000⟩, driver := some .A, lastDriver := some .A } } }

/-- R157, R146: the LOW phase lasts L + 1 ticks; the last one ends the pattern and the list. -/
theorem test_patternPhaseEnd :
    ((after (.patternPhaseEnd 0) (pulsing true 3)).pulse.units[0]).pattern.map Pattern.left = some 200000 ∧
      (after (.patternPhaseEnd 0) (pulsing false 1)).runners.a = Runner.start := by decide +kernel

/-- Runner A in the delay of a step of its list. -/
def delaying (index : StepNo) (q : List Start) : State :=
  { site with runners := { site.runners with a := ⟨.delay 1000, some ⟨⟨0, 1, .release⟩, index⟩, q⟩ } }

/-- The dispenser HELD by robot 37, its grant list at a delay step of runner A. -/
def dispensing (index : StepNo) : State :=
  withFixture 1 (fun x => { x with state := .held, claims := { x.claims with holder := some holder37, inFlight := 1 } })
    { site with runners := { site.runners with a := ⟨.delay 1000, some ⟨⟨0, 1, .grant⟩, index⟩, []⟩ } }

/-- R144: a delay step of H 9, L 9, N 2 and 10 ms lasts 400 ms; after the last step the runner is IDLE. -/
theorem test_delayEnd :
    (after (.delayEnd .A) (delaying 0 [])).runners.a.mode = .delay 400000 ∧
      (after (.delayEnd .A) (delaying 1 [])).runners.a = Runner.start := by decide +kernel

def blinking (pending : Option LampTarget) : State :=
  let x := site.pulse.units[2]
  site.setUnit 2 { x with lamp := { x.lamp with isHigh := true, left := 30000, pending := pending } }

/-- R166: the low phase of BLINK H 4, L 3 lasts 400 ms. -/
theorem test_lampPhaseEnd :
    ((after (.lampPhaseEnd 2) (blinking none)).pulse.units[2]).lamp.left = 400000 ∧
      ((after (.lampPhaseEnd 2) (blinking none)).pulse.units[2]).lamp.isHigh = false := by decide +kernel

/-- R97: HALT from station 9. -/
theorem test_matchFrameReceived :
    (after (.matchFrameReceived 0 haltFrame) site).clock.phase = .halted := by decide +kernel

def decoding (d : DecoderState) (active : Bool) (elapsed : Nat) (bits : List Bool) : State :=
  site.setPort 0 { site.ports[0] with active := active, decoder := d, elapsed := elapsed, bits := bits }

/-- R74: a trailing mark of 5 u completes robot 37's REQUEST. -/
theorem test_beaconLevelChange :
    ((after (.beaconLevelChange 250 0 false) (decoding .trailMark true 0 (beaconWord 37 1))).fixture 0).state = .held ∧
      ((after (.beaconLevelChange 600 0 true) (decoding .bitSpace false 0 [])).ports[0]).bits = [true] := by
  decide +kernel

/-- R75: a bit mark has passed its window at 8 u. -/
theorem test_beaconWindowOverrun :
    (after (.beaconWindowOverrun 0) (decoding .bitMark true 100 [])).now = 5000300 ∧
      ((after (.beaconWindowOverrun 0) (decoding .bitMark true 100 [])).ports[0]).decoder = .waitIdle := by
  decide +kernel

def skipping (idle : Nat) : State := { site with line := { site.line with receiver := .skip, idle := idle } }

/-- SKIP on a line that stands dominant for 22 µs yet. -/
def fallen : State := { skipping 0 with line := (skipping 0).line.fallen 22 }

theorem test_nonSyncCharacter :
    (after (.nonSyncCharacter 0 (characterRuns 0x55#8)) site).line.receiver = .skip ∧
      (after (.nonSyncCharacter 0 (characterRuns 0x55#8)) inFrame).line.received = [0xC3#8, 9, 3, 9, 0x55] := by
  decide +kernel

/-- R169: a character takes 10 bit times, 40 µs, from the line's return to recessive on; of one that began 10 µs ago in a
frame 30 µs are left; a framing error is judged at the middle of the stop bit, 38 µs from the edge. -/
theorem test_characterTime :
    (after (.nonSyncCharacter 0 (characterRuns 0x55#8)) fallen).now = 5000062 ∧
      (after (.nonSyncCharacter 0 (characterRuns 0x55#8)) inFrame).now = 5000030 ∧
      (after (.nonSyncCharacter 0 [⟨true, 60⟩]) (skipping 0)).now = 5000038 := by decide +kernel

/-- R169, R180: LINE_RXD reads dominant until the line returns to recessive, and at an abort what the mismatch showed: SYNC,
C3 hex, sends start, 1, 1, 0: dominant against its first data bit, recessive against its third. -/
theorem test_lineReads :
    fallen.line.reads = some true ∧ (fallen.advance 22).line.reads = some false ∧
      (after (.attemptAbort 6) sendingEvent).line.reads = some true ∧
      ((after (.attemptAbort 6) sendingEvent).advance 2).line.reads = none ∧
      (after (.attemptAbort 14) sendingEvent).line.reads = some false := by decide +kernel

/-- R174: more than 6 bit times, 24 µs. -/
theorem test_receiverReturnToHunt :
    (after .receiverReturnToHunt (skipping 5)).line.receiver = .hunt ∧
      (after .receiverReturnToHunt (skipping 5)).now = 5000020 := by decide +kernel

/-! ## Witnesses: for each statement with hypotheses, a state and operands that meet them together -/

theorem witness_StepRunsTheFrontCommand :
    ({ site with pending := [.countedTick, .refill 1] } : State).pending = .countedTick :: [.refill 1] := rfl

/-! ### Invariants: a busy state and its step -/

/-- The site with a hold and a waiting robot at the gate, a hold-off entry, a sight-list entry, a queued event, a list in
its delay step on runner A with a start behind it, and a sighting of a third robot next. -/
def busy : State :=
  let s := held [⟨12, 2, 4950, 50000⟩]
  { (withSights 2 [⟨12, 2, 4950⟩] s).setHoldOff [⟨9, 0, 5500⟩] with
    runners := (delaying 0 [⟨0, 1, .release⟩]).runners
    line := (queued [⟨.event grantEvent, 4990000, false⟩]).line
    pending := [.sighting 100 0 15 1] }

def busyNext : State := after (.sighting 100 0 15 1) { busy with pending := [] }

theorem busy_step : step busy = .next busyNext := rfl

/-- The step is not idle: the robot joins the wait queue. -/
theorem busy_moves : ((busyNext.fixture 0).claims.queue.map Waiter.robot) = [12, 15] := by decide +kernel

theorem witness_HoldOffListStaysBounded : HoldOffsBounded busy ∧ step busy = .next busyNext :=
  ⟨by unfold HoldOffsBounded; decide +kernel, busy_step⟩

theorem witness_SightListsStayBounded : SightsBounded busy ∧ step busy = .next busyNext :=
  ⟨by unfold SightsBounded; decide +kernel, busy_step⟩

theorem witness_QueuesStayBounded : QueuesBounded busy ∧ step busy = .next busyNext :=
  ⟨by unfold QueuesBounded; decide +kernel, busy_step⟩

theorem witness_ZonesStaySound : ZonesSound busy ∧ step busy = .next busyNext := by
  refine ⟨fun f => ⟨fun c cmax rate hc hp => ?_, ?_⟩, busy_step⟩
  · have h : ∀ f : FixtureNo, (busy.fixture f).control.level = 0 := by decide +kernel
    rw [h]; exact Nat.zero_le _
  · revert f; decide +kernel

theorem dispenserOf (f : FixtureNo) (c : FixtureConfig) (hc : (busy.fixture f).config = some c)
    (hk : c.kind = .dispenser) : f = 1 ∧ c = dispC := by
  have h : ∀ g : FixtureNo, ∀ d ∈ (busy.fixture g).config, d.kind = .dispenser → g = 1 ∧ d = dispC := by decide +kernel
  exact h f c hc hk

theorem witness_AllowancesStaySound : AllowancesSound busy ∧ step busy = .next busyNext := by
  refine ⟨fun f c lost acap initial period hc hp => ?_, busy_step⟩
  obtain ⟨rfl, rfl⟩ := dispenserOf f c hc (by simp [FixtureConfig.kind, hp, KindParams.kind])
  simp only [dispC, KindParams.dispenser.injEq] at hp
  obtain ⟨-, rfl, rfl, -⟩ := hp
  decide +kernel

theorem witness_CountsStaySaturated : CountsSaturate busy ∧ step busy = .next busyNext :=
  ⟨by unfold CountsSaturate; decide +kernel, busy_step⟩

/-- ClaimsSound in the form that Lean can evaluate. -/
theorem claimsSound_of {s : State}
    (h : ∀ f : FixtureNo, ∀ c ∈ (s.fixture f).config, c.kind.claimable = true →
      ((s.fixture f).state = .held ↔ (s.fixture f).claims.holder.isSome = true) ∧
      ((s.fixture f).state = .held → inMask c.liveMask s.clock.matchPhase = true) ∧
      ((s.fixture f).state ≠ .held → (s.fixture f).claims.queue = []) ∧
      ((s.fixture f).claims.queue.Pairwise fun v w => v.robot ≠ w.robot) ∧
      (∀ h ∈ (s.fixture f).claims.holder, ∀ w ∈ (s.fixture f).claims.queue, w.robot ≠ h.robot) ∧
      ((s.fixture f).state = .dormant → inMask c.liveMask s.clock.phase = false) ∧
      ((s.fixture f).state = .dead ∨ (s.fixture f).state = .dormant ∨ (s.fixture f).state = .free ∨
        (s.fixture f).state = .held)) : ClaimsSound s :=
  fun f c hc hk => h f c hc hk

theorem witness_ClaimsStaySound : ClaimsSound busy ∧ step busy = .next busyNext :=
  ⟨claimsSound_of (by decide +kernel), busy_step⟩

/-- Two gates, each with a holder of its own. -/
def twoGates : State :=
  { (withFixture 4 (fun _ => { record gateC .held .side2 with
      claims := { Claims.start with holder := some ⟨12, 2, 8, 4900, 0, 2⟩ } }) (held [])) with
    pending := [.sighting 0 0 37 0] }

theorem witness_SingleHoldIsKept :
    SingleHold twoGates ∧ (twoGates.settings.singleHold = true ∧ twoGates.isGate 0 ∧ twoGates.isGate 4) ∧
      step twoGates = .next (after (.sighting 0 0 37 0) { twoGates with pending := [] }) := by
  refine ⟨fun _ f g hfg _ _ h k hh hk => ?_, by unfold State.isGate; decide +kernel, rfl⟩
  have all : ∀ f g : FixtureNo, f ≠ g → ∀ h ∈ (twoGates.fixture f).claims.holder,
      ∀ k ∈ (twoGates.fixture g).claims.holder, h.robot ≠ k.robot := by decide +kernel
  exact all f g hfg h hh k hk

/-- A pattern in progress that a HALT is about to stop. -/
def beforeHalt : State := { pulsing true 3 with pending := [.halt 0] }

theorem witness_HaltStaysSafe :
    HaltSound beforeHalt ∧ step beforeHalt = .next (after (.halt 0) { beforeHalt with pending := [] }) :=
  ⟨by unfold HaltSound; decide +kernel, rfl⟩

theorem witness_ResumeAndMuteStaySound :
    let s : State := { muted with pending := [.halt 0] }
    ResumeSound s ∧ MuteSound s ∧ step s = .next (after (.halt 0) { s with pending := [] }) :=
  ⟨by unfold ResumeSound; decide +kernel, by unfold MuteSound; decide +kernel, rfl⟩

/-- Station 0, with a HALT given to it. -/
def stationZero : State := { site with loader := ⟨.ready, 0#5, 0, false⟩, pending := [.halt 0] }

theorem witness_StationZeroStaysSilent :
    StationZeroSilent stationZero ∧ stationZero.loader.station = 0 ∧
      step stationZero = .next (after (.halt 0) { stationZero with pending := [] }) :=
  ⟨by unfold StationZeroSilent; decide +kernel, rfl, rfl⟩

/-- A station whose script is unusable, given a START. -/
def unconfigured : State := { after (.loadEnd [] ⟨0, 0⟩) loading with pending := [.start 100] }

theorem witness_UnconfiguredStaysInert :
    UnconfiguredInert unconfigured ∧ unconfigured.loader.load = .unconfigured ∧
      step unconfigured = .next (after (.start 100) { unconfigured with pending := [] }) := by
  have quiet : unconfigured.picture.request = none ∧ unconfigured.picture.inFlight = none := by decide +kernel
  refine ⟨?_, by decide +kernel, rfl⟩
  simp only [UnconfiguredInert, quiet.1, quiet.2, reduceCtorEq, false_imp_iff, implies_true, and_true]
  decide +kernel

theorem witness_ConfigurationStaysUntilReset :
    (Instr.halt 0).reconfigures = false ∧ exec (.halt 0) busy = .next (after (.halt 0) busy) := ⟨rfl, rfl⟩

theorem witness_PhaseChangesOnlyAtItsCommands :
    (Instr.sighting 100 0 15 1).changesPhase = false ∧ (Instr.countedTick).changesPhase = false ∧
      exec (.sighting 100 0 15 1) busy = .next (after (.sighting 100 0 15 1) busy) := ⟨rfl, rfl, rfl⟩

/-- A HALT; a CLEAR that DRIVE does not accept, given here and received in a frame. -/
theorem witness_PointsFallOnlyAtClear :
    (Instr.halt 0).bringsClear busy = false ∧ CountsSaturate busy ∧ exec (.halt 0) busy = .next (after (.halt 0) busy) ∧
      (Instr.clear 0).bringsClear busy = false ∧
      (Instr.matchFrameReceived 0 (frameBytes .command 9 0 (commandPayload .clear 10))).bringsClear busy = false :=
  ⟨rfl, witness_CountsStaySaturated.1, rfl, by decide +kernel, by decide +kernel⟩

/-! ### Load -/

theorem witness_UnusableScriptLeavesUnconfigured :
    loading.loader.load = .loading ∧ judgeScript (scriptImage []) = .unusable .magic ∧
      judgeScript (scriptImage ([0x4A#8, 0x4B#8, 2#8].flatMap spiBits)) = .unusable .version ∧
      judgeScript (scriptImage ([0x4A#8, 0x4B#8, 1#8, 0, 9].flatMap spiBits)) = .unusable .noEnd ∧
      judgeScript (scriptImage ([0x4A#8, 0x4B#8, 1#8, 0, 9, 0, 0, 0, 0].flatMap spiBits)) = .unusable .badCrc ∧
      judgeScript (scriptImage
        (([0x4A#8, 0x4B#8, 1#8, 0, 9, 0, 0] ++ crcBytes [0x4A#8, 0x4B#8, 1#8, 0, 9, 0, 0]).flatMap spiBits))
        = .unusable .missing := by decide +kernel

theorem witness_GoodScriptConfiguresEveryBlock :
    loading.loader.load = .loading ∧ judgeScript (scriptImage smallMemory) =
      .good [⟨1, [3, 0xE8, 3, 0xE8, 0, 50, 3, 0xE8, 0]⟩, ⟨3, [0, 150, 0, 0, 4, 0xB0, 1, 44]⟩] := by decide +kernel

/-! ### Claims -/

/-- Both clauses, each at its last moment. -/
theorem witness_ExpiriesRemoveTheirEntry :
    (let s := site.setHoldOff [⟨9, 0, 5000⟩, ⟨9, 1, 5500⟩]
     s.running = true ∧ s.engine.holdOff.find? (fun x => x.isFor 9 0) = some ⟨9, 0, 5000⟩ ∧ s.now ≤ 5000 * 1000) ∧
    (let s := withSights 2 [⟨12, 2, 3000⟩, ⟨13, 1, 4000⟩] site
     s.running = true ∧ (s.ports[2]).sights.find? (fun x => x.robot == 12) = some ⟨12, 2, 3000⟩ ∧
       s.now ≤ (3000 + s.settings.sightWindow) * 1000) := by decide +kernel

theorem witness_RequestIsGranted :
    site.ready = true ∧ (37 : Robot) ≠ 0 ∧ site.claimable 0 = some 0 ∧ (site.fixture 0).config = some gateC ∧
      gateC.kind = .gate ∧ gateC.firstList = none ∧ ¬IsHeldOff (site.advance 200) 0 37 ∧ ¬IsPresentAt site 0 37 ∧
      firstFailure (site.advance 200) 0 gateC 37 = none ∧ (site.fixture 0).state = .free := by
  decide +kernel

/-- The wait queue with this many of robots 12, 14, 16 and 18. -/
def waiting (n : Nat) : State :=
  held (([12, 14, 16, 18] : List Robot).take n |>.map fun r => ⟨r, 2, 4900, 100000⟩)

/-- A full queue (FULL, check 9), and a DORMANT gate out of its mask (PHASE, check 3). -/
theorem witness_RequestIsRefused :
    ((waiting 4).ready = true ∧ (9 : Robot) ≠ 0 ∧ (waiting 4).claimable 0 = some 0 ∧
      ((waiting 4).fixture 0).config = some gateC ∧ ((waiting 4).fixture 0).state ≠ .dead ∧
      ¬IsHeldOff ((waiting 4).advance 0) 0 9 ∧ ¬IsPresentAt (waiting 4) 0 9 ∧
      firstFailure ((waiting 4).advance 0) 0 gateC 9 = some .full) ∧
    (idleSite.ready = true ∧ idleSite.claimable 0 = some 0 ∧ (idleSite.fixture 0).config = some gateC ∧
      (idleSite.fixture 0).state ≠ .dead ∧ ¬IsHeldOff (idleSite.advance 0) 0 9 ∧ ¬IsPresentAt idleSite 0 9 ∧
      firstFailure (idleSite.advance 0) 0 gateC 9 = some .phase) := by
  decide +kernel

/-- Each other reason of Table 1-9 as the first that fails: robot 0 of no side, a window, a link to a zone without owner,
a GATE held at a fresh peer, and an allowance of 0; and the outcomes of Table 2-1 that are no refusal. -/
theorem witness_RequestIsRefused_reasons :
    firstFailure site 0 gateC 0 = some .side ∧
      firstFailure site 0 { gateC with range := some ⟨1, 8⟩ } 9 = some .window ∧
      firstFailure site 0 { gateC with link := some ⟨5, 2, .ownerMine⟩ } 9 = some .link ∧
      firstFailure (site.setPeer 9 ⟨true, 0, .drive, .idle, 10, [⟨1, .gate, .held, 9, 8⟩]⟩) 0 gateC 9
        = some .elsewhere ∧
      firstFailure (withFixture 1 (fun x => { x with claims := Claims.start }) site) 1 dispC 9 = some .allowance ∧
      IsHeldOff (site.setHoldOff [⟨9, 0, 5000⟩]) 0 9 ∧ IsPresentAt (waiting 3) 0 14 ∧
      firstFailure (waiting 3) 0 gateC 9 = none ∧ firstFailure site 0 gateC 9 = none := by
  decide +kernel

/-- Set aside at the very moment of the expiry, and a full sight list that the robot is not on; queued in the last place;
queued already, with REQUEST, PRESENT and RELEASE; and a DISPENSER's holder. -/
theorem witness_RequestIsSetAsideOrQueued :
    (let s := site.setHoldOff [⟨9, 0, 5000⟩]
     s.ready = true ∧ (9 : Robot) ≠ 0 ∧ s.claimable 0 = some 0 ∧ (s.fixture 0).config = some gateC ∧
       (s.fixture 0).state ≠ .dead ∧ IsHeldOff (s.advance 0) 0 9) ∧
    ((waiting 3).ready = true ∧ (waiting 3).claimable 0 = some 0 ∧ ((waiting 3).fixture 0).config = some gateC ∧
      ((waiting 3).fixture 0).state = .held ∧ ¬IsHeldOff ((waiting 3).advance 0) 0 9 ∧ ¬IsPresentAt (waiting 3) 0 9 ∧
      firstFailure ((waiting 3).advance 0) 0 gateC 9 = none) ∧
    (IsPresentAt (waiting 3) 0 14 ∧ ((waiting 3).fixture 0).claims.holder.map Holder.robot ≠ some 14 ∧
      ∃ w ∈ ((waiting 3).fixture 0).claims.queue, w.robot = 14) ∧
    ((dispensing 0).claimable 1 = some 1 ∧ dispC.kind = .dispenser ∧
      ((dispensing 0).fixture 1).claims.holder.map Holder.robot = some holder37.robot) := by
  decide +kernel

/-- A full sight list; and the entry of R82 leaves it for a robot that is not on it. -/
def fullSights : List Sight :=
  [⟨12, 2, 4900⟩, ⟨14, 2, 4800⟩, ⟨16, 2, 4700⟩, ⟨18, 2, 4600⟩, ⟨20, 2, 4500⟩, ⟨22, 2, 4400⟩, ⟨24, 2, 4300⟩, ⟨26, 2, 4300⟩]

theorem witness_RequestIsSetAsideOrQueued_sights :
    fullSights.length = 8 ∧ (∀ x ∈ fullSights, x.robot ≠ 9) ∧
      (let s := withSights 0 fullSights site
       (s.ready = true → 100 ≤ s.settings.sightWindow) ∧ ((s.ports[0]).sights.Pairwise fun x y => x.robot ≠ y.robot) ∧
         ∀ e ∈ (s.ports[0]).sights,
           e.robot ≠ 0 ∧ e.side = s.sideOf e.robot ∧ s.now ≤ (e.lastSeen + s.settings.sightWindow) * 1000) ∧
      addSight fullSights ⟨9, 1, 5000⟩ = fullSights.eraseIdx 6 ++ [⟨9, 1, 5000⟩] := by decide +kernel

/-- A holder at its lost time and at its hold limit. -/
def overdue : Holder := { holder37 with age := 1000000, held := 50 }

/-- The first three clauses together, each at its bound. -/
theorem witness_GateHoldEnds :
    let s := held [] overdue
    s.ready = true ∧ (s.fixture 0).config = some gateC ∧ gateC.params = .gate 50 1000 ∧ gateC.secondList = none ∧
      (s.fixture 0).state = .held ∧ (s.fixture 0).claims.holder = some overdue ∧ (s.fixture 0).claims.queue = [] ∧
      (s.claimable 0 = some 0 ∧ overdue.robot ≠ 0) ∧
      (s.clock.phase ≠ .halted ∧ overdue.age ≤ 1000 * 1000) ∧ ((50 : Nat) ≠ 0 ∧ 50 ≤ overdue.held) := by decide +kernel

/-- The gate with an on-release list, at its limit with robots waiting: its runner idle, busy, or full. -/
def releasing (run : Runner) : State :=
  (withFixture 0 (fun x => { x with config := some { gateC with secondList := some 1 } })
    (held [⟨12, 2, 4900, 100000⟩, ⟨14, 2, 4900, 100000⟩] overdue)).setRunner .A run

def busyRunner (q : List Start) : Runner := ⟨.delay 1000, some ⟨⟨0, 1, .release⟩, 0⟩, q⟩

/-- For each cause of a GATE the statement says how such a hold ends. -/
theorem witness_GateHoldEnds_lists :
    ∀ run ∈ [Runner.start, busyRunner [], busyRunner (List.replicate 4 ⟨0, 1, .release⟩)],
      ∀ cause ∈ [ReleaseCause.released, .lost, .overstay, .yield],
        (holdEnded (releasing run) 0 { gateC with secondList := some 1 } overdue cause).isSome = true := by decide +kernel

/-- R34, R141: the on-release list joins a busy runner's queue, and the waiting robot becomes holder. -/
theorem test_onReleaseList :
    let t := after (.overstay 0) (releasing (busyRunner []))
    t.runners.a.queue = [⟨1, 0, .release⟩] ∧ (t.fixture 0).claims.holder.map Holder.robot = some 12 := by decide +kernel

/-- YIELD: the holder's stamp is 7 at station 5; a peer's lower stamp, and an equal one of a lower station. -/
theorem witness_GateHoldEnds_yield :
    ∀ x ∈ [((9 : StationNo), 6), (3, 7)],
      let s := held [] overdue
      let e : SummaryEntry := ⟨4, .gate, .held, 37, x.2⟩
      let y : Status := { site.snapshot with entries := [e] }
      s.hears = true ∧ s.line.continues (frameBytes .status x.1.val 0 (statusPayload y)) = true ∧
        judge (frameBytes .status x.1.val 0 (statusPayload y)) = .valid .status x.1 (statusPayload y) ∧
        x.1 ≠ s.loader.station ∧ readStatus (statusPayload y) = some ⟨y.phase, y.resume, y.tick, [e]⟩ ∧
        s.settings.singleHold = true ∧ s.clock.phase ≠ .idle ∧ e.who = overdue.robot.val ∧
        (e.stamp < overdue.stamp ∨ (e.stamp = overdue.stamp ∧ x.1.val < s.loader.station.val)) ∧
        ∀ g, g ≠ 0 → s.yields x.1 [e] g = false := by decide +kernel

/-- The gate at its limit, with these robots waiting; robot 12 holds another gate of the station. -/
def promoting (q : List Robot) : State :=
  withFixture 0 (fun x => { x with claims := { x.claims with
    holder := some overdue, queue := q.map fun r => ⟨r, 2, 4900, 100000⟩ } }) twoGates

/-- Robot 12 is dropped, with robot 14 behind it and alone. -/
theorem witness_PromotionGrantsTheHead :
    ∀ q ∈ [[(12 : Robot), 14, 16], [12]],
      (promoting q).ready = true ∧ ((promoting q).fixture 0).config = some gateC ∧ gateC.params = .gate 50 1000 ∧
        gateC.firstList = none ∧ gateC.secondList = none ∧ gateC.link = none ∧
        ((promoting q).fixture 0).state = .held ∧ ((promoting q).fixture 0).claims.holder = some overdue ∧
        (promoting q).clock.phase ≠ .halted ∧ (50 : Nat) ≠ 0 ∧ 50 ≤ overdue.held ∧
        (promoting q).claimFault 0 gateC 12 ≠ none ∧ (promoting q).claimFault 0 gateC 14 = none ∧
        (((promoting q).fixture 0).claims.queue =
            [⟨12, 2, 4900, 100000⟩] ++ ⟨14, 2, 4900, 100000⟩ :: [⟨16, 2, 4900, 100000⟩] ∨
          ((promoting q).fixture 0).claims.queue = [⟨12, 2, 4900, 100000⟩]) := by decide +kernel

/-- The dispenser's grant list ends with its last delay, or meets a step that names the lamp's unit; robot 12 waits, and
the runner takes up what the grant hands it. -/
theorem witness_PromotionGrantsTheHead_dispenser :
    (let s := withFixture 1 (fun x => { x with claims := { x.claims with queue := [⟨12, 2, 4900, 100000⟩] } }) (dispensing 1)
     let u := s.advance 1000
     let e := holdEnded ((u.setRunner .A ⟨.draining, some ⟨⟨0, 1, .grant⟩, 1⟩, []⟩).setClaims 1
       { (u.fixture 1).claims with inFlight := 0 }) 1 dispC holder37 .done
     s.running = true ∧ (s.runner .A).mode = .delay 1000 ∧ (s.runner .A).current = some ⟨⟨0, 1, .grant⟩, 1⟩ ∧
       s.pulse.drivenBy .A = [] ∧ (s.fixture 1).config = some dispC ∧ dispC.kind = .dispenser ∧
       (s.fixture 1).state = .held ∧ (s.fixture 1).claims.holder = some holder37 ∧ (s.fixture 1).claims.inFlight = 1 ∧
       (s.runners.store[(1 : StepNo)]).last = true ∧ (e.bind fun t => nextTaken t .A) = some (after (.delayEnd .A) s) ∧
       ((after (.delayEnd .A) s).fixture 1).claims.holder.map Holder.robot = some 12) ∧
    (let d := dispensing 0
     let s := { d with runners := { d.runners with store := put d.runners.store 1 ⟨some 2, 9, 9, 2, .ms10, false, true⟩ } }
     (s.runners.store[(0 : StepNo)]).last = false ∧ s.pulse.stepError s.runners.store[(1 : StepNo)] = true ∧
       ((after (.delayEnd .A) s).fixture 1).state = .free ∧ (after (.delayEnd .A) s).runners.fault = true) := by
  decide +kernel

/-- The runner busy, with three starts behind its list: room for one. The runner idle, its first step a delay. -/
theorem witness_DispenserGrantQueuesItsList :
    (let s := delaying 0 (List.replicate 3 ⟨0, 1, .release⟩)
     s.ready = true ∧ (37 : Robot) ≠ 0 ∧ s.claimable 1 = some 1 ∧ (s.fixture 1).config = some dispC ∧
       dispC.kind = .dispenser ∧ dispC.firstList = some 0 ∧ ¬IsHeldOff (s.advance 50) 1 37 ∧ ¬IsPresentAt s 1 37 ∧
       firstFailure (s.advance 50) 1 dispC 37 = none ∧ (s.fixture 1).state = .free ∧
       (s.runner dispC.runner).mode ≠ .idle ∧ (s.runner dispC.runner).queue.length < 4) ∧
    (site.ready = true ∧ site.claimable 1 = some 1 ∧ (site.fixture 1).config = some dispC ∧
      ¬IsHeldOff (site.advance 50) 1 37 ∧ ¬IsPresentAt site 1 37 ∧ firstFailure (site.advance 50) 1 dispC 37 = none ∧
      (site.fixture 1).state = .free ∧ (site.runner dispC.runner).mode = .idle ∧
      (site.runners.store[0]).unit = none) := by decide +kernel

/-- The start queue full; and step 0 naming the lamp's unit, at an idle runner. -/
def fullRunner : State := delaying 0 (List.replicate 4 ⟨0, 1, .release⟩)
def badStep : State :=
  { site with runners := { site.runners with store := put site.runners.store 0 ⟨some 2, 9, 9, 2, .ms10, false, true⟩ } }

/-- Both failures of a start at the grant, with all their hypotheses. -/
theorem witness_DispenserGrantQueuesItsList_aborted :
    (∀ s ∈ [fullRunner, badStep], s.ready = true ∧ s.claimable 1 = some 1 ∧ (s.fixture 1).config = some dispC ∧
      ¬IsHeldOff (s.advance 50) 1 37 ∧ ¬IsPresentAt s 1 37 ∧ firstFailure (s.advance 50) 1 dispC 37 = none ∧
      (s.fixture 1).state = .free ∧ dispC.secondList = none ∧ (s.fixture 1).claims.queue = [] ∧
      (s.fixture 1).claims.holder = none ∧ (s.fixture 1).claims.allowance = PerSide.all 3 ∧
      dispC.params = .dispenser 1000 5 3 10) ∧
    ((fullRunner.runner dispC.runner).mode ≠ .idle ∧ 4 ≤ (fullRunner.runner dispC.runner).queue.length) ∧
    ((badStep.runner dispC.runner).mode = .idle ∧ (badStep.runner dispC.runner).queue = [] ∧
      badStep.pulse.drivenBy dispC.runner = [] ∧ (badStep.fixture 1).claims.inFlight = 0 ∧
      (badStep.runners.store[0]).unit = some 2 ∧ (badStep.pulse.units[2]).binding ≠ .actuator) := by decide +kernel

/-- R141, R42: an overflow gives the allowance back: GRANT, FAULT ACTION_OVERFLOW and RELEASE ABORTED. R149: a step error
does so with FAULT ACTION_ERROR of step 0, and sets RUNNER_FAULT. -/
theorem test_startFailsAtGrant :
    ((after (.sighting 0 1 37 1) fullRunner).line.queue.map fun q => q.event?.map fun e => (e.1.kind, e.1.value)) =
        [some (.grant, 2), some (.fault .actionOverflow, 0), some (.release .aborted, 3)] ∧
      ((after (.sighting 0 1 37 1) badStep).line.queue.map fun q => q.event?.map fun e => (e.1.kind, e.1.value)) =
        [some (.grant, 2), some (.fault .actionError, 0), some (.release .aborted, 3)] ∧
      (after (.sighting 0 1 37 1) badStep).runners.fault = true := by decide +kernel

theorem witness_QueuedRobotIsLost :
    let s := held [⟨12, 2, 4000, 1000000⟩, ⟨14, 2, 4900, 100000⟩]
    s.ready = true ∧ (s.fixture 0).config = some gateC ∧
      (s.fixture 0).claims.queue.find? (fun x => x.robot == 12) = some ⟨12, 2, 4000, 1000000⟩ ∧
      s.clock.phase ≠ .halted ∧ (1000000 : Nat) ≤ gateC.params.lostTime * 1000 := by decide +kernel

/-! ### The match -/

/-- A gate HELD, a dispenser at its refill period, a zone LIVE, and the tick at its top. -/
def fullTick : State :=
  let s := withFixture 1 (fun x => { x with claims := { x.claims with refillCount := 10 } }) (held [])
  { s with clock := { s.clock with tick := 65535 } }

/-- A tick that the dispenser's refill period holds up, and one that no fixture does. -/
theorem witness_CountedTickCounts :
    (∀ s ∈ [fullTick, held []], s.ready = true ∧ s.clock.phase.running = true ∧ s.clock.ticking = [] ∧
      (s.fixture 0).state = .held ∧ (s.fixture 1).config = some dispC ∧ (s.fixture 2).state = .live ∧
      ∀ g : FixtureNo, ∀ d ∈ (s.fixture g).config, d.kind = .zone → d.firstList = none) ∧
    (after .countedTick fullTick).clock.ticking = [2, 3, 4, 5, 6, 7] ∧
      (after .countedTick (held [])).clock.ticking = [] := by decide +kernel

theorem witness_CountedTickCounts_zones (f : FixtureNo) (c : FixtureConfig) (cmax rate : Nat)
    (hc : (fullTick.fixture f).config = some c) (hp : c.params = .zone cmax rate) : c.firstList = none :=
  (witness_CountedTickCounts.1 fullTick (by simp)).2.2.2.2.2.2 f c hc (by simp [FixtureConfig.kind, hp, KindParams.kind])

/-- At the period, below it, and with a period of 0. -/
theorem witness_RefillRaisesEverySide :
    ((refillAt 10).fixture 1).config = some dispC ∧ dispC.params = .dispenser 1000 5 3 10 ∧
      ((refillAt 10).fixture 1).state ≠ .dead ∧ 10 ≤ ((refillAt 10).fixture 1).claims.refillCount ∧
      ((refillAt 9).fixture 1).state ≠ .dead ∧ ¬10 ≤ ((refillAt 9).fixture 1).claims.refillCount ∧
      (let s := withFixture 1 (fun x => { x with config := some { dispC with params := .dispenser 1000 5 3 0 } }) site
       (s.fixture 1).config = some { dispC with params := .dispenser 1000 5 3 0 } ∧ (s.fixture 1).state ≠ .dead) := by
  decide +kernel

/-- The end tick of DRIVE, where the goal leaves its mask, and that of ENDGAME, where the gate does. -/
theorem witness_PeriodEndMovesThePhaseOn :
    (∀ s ∈ [atTick 100, { held [] with clock := { site.clock with phase := .endgame, tick := 150, boundaryDue := true } }],
      s.ready = true ∧ s.clock.phase.running = true ∧ s.clock.boundaryDue = true ∧
        s.clock.ends.get s.clock.phase ≤ s.clock.tick ∧ s.loader.station ≠ 0 ∧ s.clock.ticking = [] ∧
        (s.fixture 3).state = .counting ∧
        (∀ f : FixtureNo, ∀ c ∈ (s.fixture f).config, c.kind.claimable = true → c.secondList = none) ∧
        ∀ f : FixtureNo, ∀ c ∈ (s.fixture f).config, inMask c.liveMask (after .periodEnd s).clock.phase = false →
          f ≠ 0 → (s.fixture f).state ≠ .held) := by decide +kernel

theorem witness_PeriodEndMovesThePhaseOn_claims : ClaimsSound (atTick 100) ∧
    ClaimsSound { held [] with clock := { site.clock with phase := .endgame, tick := 150, boundaryDue := true } } :=
  ⟨claimsSound_of (by decide +kernel), claimsSound_of (by decide +kernel)⟩

/-- A goal in GRACE, and one JAMMED from GRACE with its grace running. -/
theorem witness_GraceEnds :
    (inGrace.ready = true ∧ (inGrace.fixture 3).config = some goalC ∧ goalC.kind = .goal ∧
      inGrace.clock.phase ≠ .halted ∧ (inGrace.fixture 3).state = .grace) ∧
    (let s := withGoal fun x => { x with
       state := .jammed, scoring := { x.scoring with graceLeft := 0, credited := some .auto, jamFromGrace := true } }
     s.ready = true ∧ (s.fixture 3).config = some goalC ∧ s.clock.phase ≠ .halted ∧ (s.fixture 3).state = .jammed ∧
       (s.fixture 3).scoring.jamFromGrace = true ∧ (s.fixture 3).scoring.credited ≠ none) := by decide +kernel

/-- Both clauses at their bounds: an input active for the jam time, and one inactive for 1.0 s. -/
theorem witness_GoalsJamAndUnjam :
    (let s := goalInputFor true 1000000 site
     s.ready = true ∧ (s.fixture 3).config = some goalC ∧ goalC.params = .goal (some (.fixed 1)) ⟨2, 0, 3, 4⟩ 20 10 ∧
       (s.fixture 3).state ≠ .dead ∧ s.clock.phase ≠ .halted ∧ (s.fixture 3).state ≠ .jammed ∧
       s.goalInput 3 = true ∧ (s.fixture 3).scoring.jamTimer ≤ 10 * 100000) ∧
    (let s := goalInputFor false 1000000 jammed
     s.ready = true ∧ (s.fixture 3).config = some goalC ∧ s.clock.phase ≠ .halted ∧ (s.fixture 3).state = .jammed ∧
       s.goalInput 3 = false ∧ (s.fixture 3).scoring.jamTimer ≤ 1000000) := by decide +kernel

theorem witness_TransientEnds :
    refusedGate.running = true ∧ (refusedGate.fixture 0).transient = some .refused := by decide +kernel

/-- An input without a route, one with its second disagreeing sample, and a PIECE input to a goal that is not DEAD. -/
theorem witness_SampleQualifiesEveryInput :
    onceActive.ready = true ∧ (onceActive.inputs.records[5]).route = .none ∧
      (onceActive.inputs.records[0]).route = .piece 3 ∧ (onceActive.inputs.records[0]).disagreeing = 1 ∧
      (onceActive.fixture 3).state ≠ .dead := by decide +kernel

/-- IN1 alone becomes active at the sample instant, by each route and in each mode; IN0's piece is taken by itself. -/
theorem witness_SampleQualifiesEveryInput_latch :
    (∀ c ∈ [Command.start, .halt, .resume, .clear], ∀ mode ∈ [InputMode.edge, .level],
      let s := site.setInput 1 ⟨.activeLow, mode, .command c, false, 1, false⟩
      let u := sampleRecords (s.advance (1000 - s.inputs.sampleTimer)) 0 Input.sample
      (u.inputs.records[1]).latch = true ∧ ∀ j : InputNo, j ≠ 1 → (u.inputs.records[j]).latch = false) ∧
    (let u := sampleRecords (onceActive.advance (1000 - onceActive.inputs.sampleTimer)) 0x003#12 Input.sample
     (u.inputs.records[0]).latch = true ∧ ∀ j : InputNo, j ≠ 0 → (u.inputs.records[j]).latch = false) := by
  decide +kernel

/-- A COUNTING goal, one in GRACE, and each of the three cases in which a piece is ignored. -/
theorem witness_PieceIsCounted :
    ((site.fixture 3).config = some goalC ∧ goalC.params = .goal (some (.fixed 1)) ⟨2, 0, 3, 4⟩ 20 10 ∧
      goalC.firstList = none ∧ site.clock.phase ≠ .halted ∧ (site.fixture 3).state = .counting ∧ site.ready = true ∧
      site.loader.station ≠ 0) ∧
    ((inGrace.fixture 3).config = some goalC ∧ (inGrace.fixture 3).state = .grace ∧
      (inGrace.fixture 3).scoring.credited = some .auto) ∧
    ((halted site).fixture 3).config = some goalC ∧ (halted site).clock.phase = .halted ∧
    (idleSite.fixture 3).config = some goalC ∧ (idleSite.fixture 3).state = .dormant ∧
    (jammed.fixture 3).config = some goalC ∧ (jammed.fixture 3).state = .jammed := by decide +kernel

theorem witness_StartBeginsTheMatch :
    (idleSite.ready = true ∧ idleSite.clock.phase = .idle ∧
      (∀ f, (idleSite.fixture f).state = .dead ∨ (idleSite.fixture f).state = .dormant) ∧
      (∀ f, (idleSite.fixture f).claims.holder = none) ∧ (idleSite.fixture 1).config = some dispC) ∧
    (site.ready = true ∧ site.clock.phase ≠ .idle) := by decide +kernel

theorem witness_HaltFreezesTheStation :
    (pulsing true 3).ready = true ∧ (pulsing true 3).clock.phase ≠ .halted ∧ HaltSound (pulsing true 3) :=
  ⟨by decide +kernel, by decide +kernel, by unfold HaltSound; decide +kernel⟩

theorem witness_HaltFreezesTheStation_aborted :
    (dispensing 0).ready = true ∧ (dispensing 0).clock.phase ≠ .halted ∧ HaltSound (dispensing 0) ∧
      ((dispensing 0).fixture 1).config = some dispC ∧ dispC.params = .dispenser 1000 5 3 10 ∧
      ((dispensing 0).fixture 1).state = .held ∧ ((dispensing 0).fixture 1).claims.holder = some holder37 ∧
      ((dispensing 0).fixture 1).claims.queue = [] ∧ ((dispensing 0).fixture 1).claims.inFlight = 1 ∧
      ((dispensing 0).runner .A).current = some ⟨⟨0, 1, .grant⟩, 0⟩ ∧ ((dispensing 0).runner .A).queue = [] ∧
      ((dispensing 0).runner .B).current = none ∧ ((dispensing 0).runner .B).queue = [] := by
  unfold HaltSound; decide +kernel

/-- The level HALT input of the site, active or not. -/
def withStop (active : Bool) (s : State) : State :=
  s.setInput 1 { s.inputs.records[1] with qualified := active }

theorem witness_ResumeReturns :
    ((halted (held [])).ready = true ∧ (halted (held [])).clock.phase = .halted ∧
      (halted (held [])).haltInput = false ∧ ResumeSound (halted (held [])) ∧ ClaimsSound (halted (held []))) ∧
    ((withStop true (halted site)).ready = true ∧ (withStop true (halted site)).clock.phase = .halted ∧
      (withStop true (halted site)).haltInput = true) :=
  ⟨⟨by decide +kernel, by decide +kernel, by decide +kernel, by unfold ResumeSound; decide +kernel,
    claimsSound_of (by decide +kernel)⟩, by decide +kernel⟩

theorem witness_ClearReturnsToTheStart :
    (halted (held [])).ready = true ∧ (halted (held [])).clock.phase.running = false ∧
      (inPhase .over (held [])).clock.phase.running = false := by decide +kernel

/-! ### The arena line -/

/-- A status whose phase code is 7, and one that bears the own number. -/
def ownStatus : List Byte := frameBytes .status 5 0 (statusPayload site.snapshot)
def oddStatus : List Byte := frameBytes .status 9 0 (7#8 :: (statusPayload site.snapshot).drop 1)

theorem witness_StatusReplacesItsRow :
    site.hears = true ∧ site.line.continues statusFrame = true ∧
      judge statusFrame = .valid .status 9 (statusPayload site.snapshot) ∧
      (9 : StationNo) ≠ site.loader.station ∧ (readStatus (statusPayload site.snapshot)).isSome = true ∧
      judge oddStatus = .valid .status 9 (7#8 :: (statusPayload site.snapshot).drop 1) ∧
      readStatus (7#8 :: (statusPayload site.snapshot).drop 1) = none ∧
      judge ownStatus = .valid .status site.loader.station (statusPayload site.snapshot) := by decide +kernel

/-- Statuses of station 9: HALTED in DRIVE and in IDLE, IDLE and OVER. -/
def haltedStatus (p r : Phase) : Status := { site.snapshot with phase := p, resume := r }

theorem witness_LateJoinAdoptsARunningPhase_others :
    ∀ x ∈ [(Phase.halted, Phase.drive), (.halted, .idle), (.idle, .idle), (.over, .drive)],
      judge (frameBytes .status 9 0 (statusPayload (haltedStatus x.1 x.2))) =
          .valid .status 9 (statusPayload (haltedStatus x.1 x.2)) ∧
        readStatus (statusPayload (haltedStatus x.1 x.2)) = some ⟨x.1, x.2, 10, site.summary⟩ ∧
        idleSite.line.continues (frameBytes .status 9 0 (statusPayload (haltedStatus x.1 x.2))) = true := by
  decide +kernel

/-- R104: of a HALTED peer in IDLE the tick becomes 0. -/
theorem test_lateJoinHalted :
    (let t := after (.statusReceived 0 (frameBytes .status 9 0 (statusPayload (haltedStatus .halted .drive)))) idleSite
     t.clock.phase = .halted ∧ t.clock.resume = .drive ∧ t.clock.tick = 10) ∧
    (after (.statusReceived 0 (frameBytes .status 9 0 (statusPayload (haltedStatus .halted .idle)))) idleSite).clock.tick
      = 0 := by decide +kernel

theorem witness_LateJoinAdoptsARunningPhase :
    idleSite.hears = true ∧ idleSite.line.continues statusFrame = true ∧ idleSite.ready = true ∧
      judge statusFrame = .valid .status 9 (statusPayload site.snapshot) ∧ (9 : StationNo) ≠ idleSite.loader.station ∧
      readStatus (statusPayload site.snapshot) = some ⟨.drive, .idle, 10, site.summary⟩ ∧
      (idleSite.clock.phase = .idle ∧ idleSite.commandQueued .start = false ∧ Phase.drive.running = true) ∧
      (site.hears = true ∧ site.line.continues statusFrame = true ∧ site.ready = true ∧ site.clock.phase ≠ .idle) := by decide +kernel

/-- A peer's event, one that bears the own number, a discarded frame, and one that does not continue a frame in progress. -/
theorem witness_EventAndDiscardedFramesChangeNothingElse :
    site.hears = true ∧ site.line.continues eventFrame = true ∧ site.line.continues badFrame = true ∧
      judge eventFrame = .valid .event 9 (eventPayload ⟨3, .grant, some 0, 37, 1, 0, 10⟩) ∧
      judge (frameBytes .event 5 3 (eventPayload grantEvent)) = .valid .event 5 (eventPayload grantEvent) ∧
      judge badFrame = .discarded ∧ inFrame.hears = true ∧ inFrame.line.continues badFrame = false ∧
      inFrame.line.continues eventFrame = true := by decide +kernel

/-- A HALT that DRIVE accepts, and a START that it does not; a RESUME under an active level HALT input; a value of 5. -/
theorem witness_MatchFrameAppliesItsCommand :
    site.hears = true ∧ site.line.continues haltFrame = true ∧ site.ready = true ∧ judge haltFrame = .valid .command 9 (commandPayload .halt 10) ∧
      (9 : StationNo) ≠ site.loader.station ∧ payloadCommand (commandPayload .halt 10) = some .halt ∧
      Command.halt.accepted site.clock.phase = true ∧
      (let y := frameBytes .command 9 0 (commandPayload .start 0)
       judge y = .valid .command 9 (commandPayload .start 0) ∧ payloadCommand (commandPayload .start 0) = some .start ∧
         Command.start.accepted site.clock.phase = false) ∧
      (let y := frameBytes .command 9 0 (commandPayload .resume 0)
       judge y = .valid .command 9 (commandPayload .resume 0) ∧
         payloadCommand (commandPayload .resume 0) = some .resume ∧ (withStop true (halted site)).hears = true ∧
         (withStop true (halted site)).line.continues y = true ∧ (withStop true (halted site)).haltInput = true) ∧
      judge (frameBytes .command 9 0 [5#8, 0, 10]) = .valid .command 9 [5#8, 0, 10] := by decide +kernel

theorem witness_MatchFrameTickIsNotRead :
    judge haltFrame = .valid .command 9 (commandPayload .halt 10) ∧
      judge (frameBytes .command 9 0 (commandPayload .halt 65535)) =
        .valid .command 9 (commandPayload .halt 65535) ∧
      payloadCommand (commandPayload .halt 10) = payloadCommand (commandPayload .halt 65535) ∧
      site.line.continues haltFrame = site.line.continues (frameBytes .command 9 0 (commandPayload .halt 65535)) := by
  decide +kernel

/-- Each cause of an abandonment; a character of each kind in each state; SKIP on a line still dominant. -/
theorem witness_ReceiverStatesFollow :
    (inFrame.hears = true ∧ inFrame.line.receiver = .frame ∧ inFrame.line.busy = 0 ∧
      inFrame.line.unheard = false ∧ inFrame.line.abandonTime .gap = some 15 ∧ inFrame.line.abandonTime (.framingError [⟨true, 60⟩]) = some 28) ∧
    (let l : Line := { inFrame.line with received := [0xC3#8] }
     ({ inFrame with line := l } : State).hears = true ∧ l.abandonTime .lenAbove64 = some 30) ∧
    (readCharacter (characterRuns 0x55#8) = some (.byte 0x55) ∧ readCharacter [⟨true, 60⟩] = some (.framingError 22) ∧
      site.hears = true ∧ site.line.receiver = .hunt ∧ (skipping 24).hears = true ∧
      (skipping 24).line.receiver = .skip ∧ judge (inFrame.line.received ++ [0x55]) = .incomplete) ∧
    (fallen.hears = true ∧ fallen.line.receiver = .skip ∧ fallen.line.busy = 22) ∧
    (let s := after (.attemptAbort 6) sendingEvent
     s.hears = true ∧ s.line.receiver = .hunt ∧ s.line.unheard = true ∧ s.line.busy = 34 ∧
       s.line.abandonTime .lenAbove64 = some 74) := by decide +kernel

/-- The timer at its interval; a CHANGE at its moment. -/
theorem witness_StatusRequestsFallDue :
    (let s := { site with picture := { site.picture with statusTimer := 1000000 } }
     s.ready = true ∧ s.loader.station ≠ 0 ∧ s.picture.statusRaised = false ∧
       s.picture.statusTimer ≤ s.settings.statusInterval * 1000) ∧
    (let s := due (some ⟨.change, 5000000⟩)
     s.running = true ∧ s.picture.request = some ⟨.change, 5000000⟩ ∧ s.now ≤ 5000000) := by decide +kernel

/-- Slot 4: a PERIODIC status at 146 bit times, an event at 82 and a MATCH frame at 18, the idle time being 125. In DRIVE
HALT passes its check and START, RESUME and CLEAR do not; in IDLE START passes. -/
theorem witness_AttemptSendsTheHead :
    (attemptWait (due (some ⟨.periodic, 0⟩)) = some 84 ∧
      ((due (some ⟨.periodic, 0⟩)).advance 84).head = some .status ∧
      (due (some ⟨.periodic, 0⟩)).picture.request = some ⟨.periodic, 0⟩) ∧
    (let s := queued [⟨.event grantEvent, 4990000, false⟩]
     attemptWait s = some 628 ∧ (s.advance 628).head = some (.event grantEvent)) ∧
    (let s := queued [⟨.event grantEvent, 4990000, false⟩, ⟨.command .start, 4990000, false⟩, ⟨.command .halt, 0, false⟩]
     attemptWait s = some 372 ∧ Command.start.accepted s.clock.phase = false ∧ Command.clear.accepted s.clock.phase = false) ∧
    (let s := queued [⟨.command .start, 4990000, false⟩]
     attemptWait s = some 372 ∧ s.line.queue = [⟨.command .start, 4990000, false⟩] ∧
       Command.start.accepted s.clock.phase = false ∧ Command.start.accepted idleSite.clock.phase = true ∧
       attemptWait { idleSite with line := s.line } = some 372) := by decide +kernel

/-- An event, a status whose snapshot carried EVENTS_LOST, and a HALT being sent; one more abort short of muting. Bits'
middles: of SYNC's start bit, of its first data bit, of the third character's start bit and a later one, of the last stop
bit, and past it. -/
theorem witness_AttemptsEnd :
    (let s := sending ⟨.event grantEvent, 0, false⟩ .event 14
     s.running = true ∧ s.line.attempt = some ⟨.event, haltFrame, 400⟩ ∧ s.line.aborts < 15 ∧ s.line.receiver = .hunt) ∧
    (let a : Attempt := ⟨.event, haltFrame, 400⟩
     a.left ≤ 40 * a.bytes.length ∧ ReadBackAt a 0 2 ∧ ReadBackAt a 3 6 ∧ ReadBackAt a 80 82 ∧ ReadBackAt a 90 90 ∧
       ReadBackAt a 398 398 ∧ 398 < 40 * a.bytes.length ∧ 90 / 40 < haltFrame.length ∧ ReadBackAt a 399 402) ∧
    site.line.attempt = none ∧
    (let t := sending ⟨.event grantEvent, 0, false⟩ .status 14
     let s : State := { t with picture := { t.picture with inFlight := some ⟨⟨.periodic, 4000000⟩, true, false⟩ } }
     s.running = true ∧ s.line.attempt = some ⟨.status, haltFrame, 400⟩ ∧ s.line.aborts < 15 ∧
       s.picture.inFlight = some ⟨⟨.periodic, 4000000⟩, true, false⟩) ∧
    (let s := sending ⟨.command .halt, 0, false⟩ (.command .halt) 0
     s.ready = true ∧ s.line.attempt = some ⟨.command .halt, haltFrame, 400⟩ ∧
       Command.halt.accepted s.clock.phase = true ∧ Command.halt.accepted (halted s).clock.phase = false) ∧
    (let s := withStop true (halted (sending ⟨.command .resume, 0, false⟩ (.command .resume) 0))
     s.ready = true ∧ s.line.attempt = some ⟨.command .resume, haltFrame, 400⟩ ∧ s.haltInput = true) := by
  decide +kernel

theorem witness_MutingBeginsAndEnds :
    (let s := sending ⟨.event grantEvent, 0, false⟩ .event 15
     s.ready = true ∧ s.loader.station ≠ 0 ∧ s.line.attempt = some ⟨.event, haltFrame, 400⟩ ∧ s.line.aborts = 15 ∧
       ReadBackAt ⟨.event, haltFrame, 400⟩ 8 10) ∧
    (muted.ready = true ∧ muted.loader.station ≠ 0 ∧ muted.line.muted = some .twin ∧ muted.line.queue = []) := by
  decide +kernel

/-! ### Runners, pulse units, beacons -/

/-- The end of the last LOW phase: its runner holds its list's last step there; or times a delay, while the other runner
waits for the unit. -/
theorem witness_PhasesOfPatternsAndLamps_end :
    (let s := pulsing false 1
     s.running = true ∧ s.pulse.safe = false ∧ (s.pulse.units[0]).pattern = some ⟨4, 1, 100000, 1, false, 70000⟩ ∧
       (s.pulse.units[0]).driver = some .A ∧ (s.runner .A).mode ≠ .waitingUnit 0 ∧ (s.runner .B).mode ≠ .waitingUnit 0 ∧
       (s.runner .A).current = some ⟨⟨2, 1, .release⟩, 2⟩ ∧ s.pulse.drivenBy .A = [0] ∧ (s.runner .A).queue = [] ∧
       (s.runner .A).mode = .holding 0 ∧ (s.runners.store[2]).last = true) ∧
    (let p := pulsing false 1
     let s : State := { p with runners := { p.runners with
       a := ⟨.delay 1000, some ⟨⟨0, 1, .release⟩, 0⟩, []⟩, b := ⟨.waitingUnit 0, some ⟨⟨2, 1, .release⟩, 2⟩, []⟩ } }
     s.running = true ∧ (s.runner .A).mode = .delay 1000 ∧ (s.runner .B).mode = .waitingUnit 0 ∧
       (s.runner .B).current = some ⟨⟨2, 1, .release⟩, 2⟩ ∧ (s.runners.store[2]).goOn = false ∧
       (s.runner .A).mode ≠ .waitingUnit 0) := by decide +kernel

/-- A HIGH phase, a LOW phase with one repeat left after it, and a BLINK with and without a pending pattern. -/
theorem witness_PhasesOfPatternsAndLamps :
    ((pulsing true 1).running = true ∧ (pulsing true 1).pulse.safe = false ∧
      ((pulsing true 1).pulse.units[0]).pattern = some ⟨4, 1, 100000, 1, true, 70000⟩) ∧
    (((pulsing false 2).pulse.units[0]).pattern = some ⟨4, 1, 100000, 2, false, 70000⟩) ∧
    (∀ p ∈ [none, some (LampTarget.index 3)], (blinking p).running = true ∧
      ((blinking p).pulse.units[2]).binding = .lamp ∧ ((blinking p).pulse.units[2]).lamp.running = some (.index 1) ∧
      (blinking p).pulse.patterns[1] = .blink 4 3 .ms100 ∧ ((blinking p).pulse.units[2]).lamp.pending = p) := by
  decide +kernel

/-- The last step, a step with a delay step next to it, and the last step of a grant list. -/
theorem witness_DelayEndMovesOn :
    (let s := delaying 1 []
     s.running = true ∧ (s.runner .A).mode = .delay 1000 ∧ (s.runner .A).current = some ⟨⟨0, 1, .release⟩, 1⟩ ∧
       (s.runners.store[1]).last = true ∧ s.pulse.drivenBy .A = [] ∧ (s.runner .A).queue = [] ∧
       Purpose.release ≠ .grant) ∧
    (let s := delaying 0 []
     s.running = true ∧ (s.runner .A).mode = .delay 1000 ∧ (s.runner .A).current = some ⟨⟨0, 1, .release⟩, 0⟩ ∧
       (s.runners.store[0]).last = false ∧ (1 : StepNo).val = (0 : StepNo).val + 1 ∧
       (s.runners.store[1]).unit = none) ∧
    (let s := dispensing 1
     s.running = true ∧ (s.runner .A).mode = .delay 1000 ∧ (s.runner .A).current = some ⟨⟨0, 1, .grant⟩, 1⟩ ∧
       (s.runners.store[1]).last = true ∧ s.pulse.drivenBy .A = [] ∧ (s.runner .A).queue = [] ∧
       (s.fixture 1).config = some dispC ∧ dispC.kind = .dispenser ∧ dispC.secondList = none ∧
       (s.fixture 1).state = .held ∧ (s.fixture 1).claims.holder = some holder37 ∧ (s.fixture 1).claims.queue = [] ∧
       (s.fixture 1).claims.inFlight = 1) := by decide +kernel

/-- A mark that ends, a space that ends at each bound of its windows, and an overrun at its moment. -/
theorem witness_DecoderFollowsTheLevels :
    (let s := decoding .headerMark true 850 []
     s.ready = true ∧ (s.ports[0]).active = true ∧ (s.ports[0]).decoder ≠ .trailMark ∧ (s.ports[0]).elapsed / 50 = 17) ∧
    (∀ e ∈ [150, 399, 400, 599, 600, 949, 950], (decoding .bitSpace false e []).ready = true ∧
      ((decoding .bitSpace false e []).ports[0]).active = false ∧
      ((decoding .bitSpace false e []).ports[0]).decoder = .bitSpace) ∧
    ((decoding .hunt false 90 []).ready = true ∧ ((decoding .hunt false 90 []).ports[0]).active = false) ∧
    (∀ e ∈ [399, 400, 649, 650], ((decoding .headerSpace false e [true]).ports[0]).active = false ∧
      ((decoding .headerSpace false e [true]).ports[0]).decoder = .headerSpace) ∧
    (∀ e ∈ [149, 150, 399, 400], (let s := decoding .trailMark true e (beaconWord 37 1)
      s.ready = true ∧ (s.ports[0]).active = true ∧ (s.ports[0]).decoder = .trailMark ∧
        readWord (s.ports[0]).bits = some (37, .request)) ∧
      readWord ((decoding .trailMark true e (beaconWord 0 1)).ports[0]).bits = none) ∧
    (let s := decoding .headerMark true 1200 []
     s.ready = true ∧ (s.ports[0]).decoder.overrunAt = some 24 ∧ (s.ports[0]).elapsed ≤ 24 * 50) := by decide +kernel

/-! ### Operations and forms -/

/-- A full list, whose robot 5 entry expires first. -/
def fullList : List HoldOff :=
  [⟨5, 0, 5100⟩, ⟨6, 0, 5200⟩, ⟨7, 0, 5300⟩, ⟨8, 0, 5400⟩, ⟨9, 0, 5500⟩, ⟨10, 0, 5600⟩, ⟨11, 0, 5700⟩, ⟨12, 0, 5800⟩]

/-- The three clauses: a listed pair, a new pair with one place left, and a new pair with none. -/
theorem witness_HoldOffEntryIsMade :
    (fullList.length ≤ 8 ∧ (fullList.Pairwise fun x y => ¬(x.robot = y.robot ∧ x.fixture = y.fixture)) ∧
      (∃ x ∈ fullList, x.robot = 7 ∧ x.fixture = 0)) ∧
    ((∀ x ∈ fullList.tail, ¬(x.robot = 5 ∧ x.fixture = 1)) ∧ fullList.tail.length < 8) ∧
    ((∀ x ∈ fullList, ¬(x.robot = 5 ∧ x.fixture = 1)) ∧ fullList.length = 8) := by decide +kernel

/-- The lengths that each kind takes, with the shortest and the longest status. -/
theorem witness_FrameRoundTrip :
    (31 : StationNo) ≠ 0 ∧ lengthFits .command (commandPayload .clear 65535) = true ∧
      lengthFits .event (eventPayload grantEvent) = true ∧ lengthFits .status (List.replicate 14 0#8) = true ∧
      lengthFits .status (List.replicate 13 0#8 ++ [8#8] ++ List.replicate 40 0#8) = true := by decide +kernel

/-- Eight entries, each field at the top of its range. -/
theorem witness_StatusPayloadRoundTrip :
    let x : Status := { site.snapshot with
      tick := 65535, entries := List.replicate 8 ⟨7, .goal, .jammed, 255, 65535⟩ }
    x.resume ≠ .halted ∧ x.tick < 65536 ∧ x.entries.length ≤ 8 ∧
      ∀ e ∈ x.entries, e.kind.admits e.state = true ∧ e.who < 256 ∧ e.stamp < 65536 := by decide +kernel

theorem witness_BeaconWordRoundTrip : (1 : Robot) ≠ 0 ∧ (63 : Robot) ≠ 0 := by decide +kernel

theorem witness_OwnLinkFollowsItsTable :
    (⟨5, 2, .ownerMine⟩ : Link).station = site.loader.station ∧ (site.fixture 2).config = some zoneC := by decide +kernel

/-- Two sides present, one, and none; a zone alone at the station, and one with an on-change list at a busy runner. -/
def loneZone : State :=
  { site with engine := { site.engine with
      fixtures := put Engine.start.fixtures 2 { record zoneC .live .idle with control := ⟨2, 1, 0, false⟩ } } }

theorem witness_ContestedTickFreezes_lone :
    (let s := withSights 2 [⟨13, 1, 4950⟩] loneZone
     s.ready = true ∧ s.clock.phase.running = true ∧ s.clock.ticking = [] ∧ (s.fixture 2).config = some zoneC ∧
       zoneC.params = .zone 10 2 ∧ zoneC.firstList = none ∧ (s.fixture 2).state = .live ∧
       ∀ g, g ≠ 2 → (s.fixture g).config = none ∨ (s.fixture g).state = .dead) ∧
    ((delaying 0 []).runner zoneC.runner).mode ≠ .idle ∧ ((delaying 0 []).runner zoneC.runner).queue.length < 4 ∧
      (delaying 0 []).clock.phase ≠ .halted := by decide +kernel

/-- R52, R54: the owner's last level falls: OWNER with side 0 and the previous owner 2 as its value, at tick 11. -/
theorem test_zoneLost :
    ((after .countedTick (withSights 2 [⟨13, 1, 4950⟩] loneZone)).fixture 2).control = ⟨0, 0, 1, false⟩ ∧
      (after .countedTick (withSights 2 [⟨13, 1, 4950⟩] loneZone)).line.queue.map (·.body) =
        [.event ⟨0, .owner, some 2, 0, 0, 2, 11⟩] := by decide +kernel

theorem witness_ContestedTickFreezes :
    ∀ l ∈ [[⟨12, 2, 4950⟩, ⟨13, 1, 4950⟩], [⟨12, 2, 4950⟩], []],
      (withSights 2 l site).ready = true ∧ (withSights 2 l site).clock.phase.running = true ∧
        (withSights 2 l site).clock.ticking = [] ∧ ((withSights 2 l site).fixture 0).claims.holder = none ∧
        ((withSights 2 l site).fixture 1).claims.refillCount + 1 < 10 ∧
        ((withSights 2 l site).fixture 2).config = some zoneC ∧ zoneC.params = .zone 10 2 ∧
        ((withSights 2 l site).fixture 2).state = .live ∧
        (presentSides (((withSights 2 l site).advance 60000).zoneRates zoneC 2)).length = l.length := by decide +kernel

theorem witness_HoldOffsNeverMeet : (31 : StationNo) ≠ 1 ∧ (0 : Nat) ≤ 2 ∧ (2 : Nat) ≤ 2 ∧ (0 : Nat) < 2 := by decide

end Sys2Proof.Tests
end

section
/-! Proofs for 01_fixtures_and_admission.md, part 1: the orders by which a full list gives way (R15, R82), the hold-off
list, links to the own station, expiries, and the end of a transient. -/

namespace Sys2Proof.Machine

/-! ## The entry that a full list loses -/

/-- The first entry by a strict order, as `firstHoldOff` and `evictSight` find it. -/
def firstBy {α : Type} (before : α → α → Bool) (x : α) (l : List α) : α :=
  l.foldl (fun m y => if before y m then y else m) x

/-- It is an entry of the list, and no other goes before it. -/
theorem firstBy_spec {α : Type} {before : α → α → Bool} (irrefl : ∀ a, before a a = false)
    (trans : ∀ a b c, before a b = true → before b c = true → before a c = true) (x : α) (l : List α) :
    firstBy before x l ∈ x :: l ∧ ∀ y ∈ x :: l, before y (firstBy before x l) = false := by
  have go : ∀ (l seen : List α) (m : α), m ∈ seen → (∀ y ∈ seen, before y m = false) →
      firstBy before m l ∈ seen ++ l ∧ ∀ y ∈ seen ++ l, before y (firstBy before m l) = false := by
    intro l
    induction l with
    | nil => intro seen m hm hmin; simpa [firstBy] using ⟨hm, hmin⟩
    | cons z l ih =>
      intro seen m hm hmin
      have next := ih (seen ++ [z]) (if before z m then z else m)
      simp only [List.append_assoc, List.singleton_append] at next
      refine next ?_ ?_
      · split <;> simp [hm]
      · intro y hy
        rcases List.mem_append.mp hy with hy | hy
        · split
          · rename_i hz
            by_contra hyz
            have := trans y z m (by simpa using hyz) hz
            simp [hmin y hy] at this
          · exact hmin y hy
        · obtain rfl : y = z := by simpa using hy
          split
          · exact irrefl y
          · simpa using ‹¬before y m = true›
  exact go l [x] x (by simp) (by simp [irrefl])

theorem firstHoldOff_eq (x : HoldOff) (l : List HoldOff) : firstHoldOff x l = firstBy HoldOff.before x l := rfl

theorem HoldOff.before_iff (x y : HoldOff) : x.before y = true ↔
    x.expiry < y.expiry ∨ (x.expiry = y.expiry ∧
      (x.fixture.val < y.fixture.val ∨ (x.fixture.val = y.fixture.val ∧ x.robot.val < y.robot.val))) := by
  simp [HoldOff.before]

/-- R15: the entry a full hold-off list loses expires first, and is of the lowest fixture and then the lowest robot among
several. -/
theorem firstHoldOff_spec (x : HoldOff) (l : List HoldOff) :
    firstHoldOff x l ∈ x :: l ∧ ∀ y ∈ x :: l, (firstHoldOff x l).expiry < y.expiry ∨
      ((firstHoldOff x l).expiry = y.expiry ∧ ((firstHoldOff x l).fixture < y.fixture ∨
        ((firstHoldOff x l).fixture = y.fixture ∧ (firstHoldOff x l).robot ≤ y.robot))) := by
  have irrefl (a : HoldOff) : a.before a = false := by
    rw [Bool.eq_false_iff, Ne, HoldOff.before_iff]; omega
  have trans (a b c : HoldOff) : a.before b = true → b.before c = true → a.before c = true := by
    simp only [HoldOff.before_iff]; omega
  obtain ⟨mem, least⟩ := firstBy_spec irrefl trans x l
  refine ⟨mem, fun y hy => ?_⟩
  have notBefore := least y hy
  rw [Bool.eq_false_iff, Ne, HoldOff.before_iff, ← firstHoldOff_eq] at notBefore
  simp only [Fin.lt_def, Fin.le_def, Fin.ext_iff]
  omega

/-! ## The hold-off list (R14–R17) -/

/-- R17: no two entries for one robot and fixture. -/
abbrev OnePerPair (l : List HoldOff) : Prop := l.Pairwise fun x y => ¬(x.robot = y.robot ∧ x.fixture = y.fixture)

theorem HoldOff.isFor_iff (x : HoldOff) (r : Robot) (f : FixtureNo) :
    x.isFor r f = true ↔ x.robot = r ∧ x.fixture = f := by simp [HoldOff.isFor]

theorem OnePerPair.nodup {l : List HoldOff} (h : OnePerPair l) : l.Nodup :=
  h.imp fun {_ _} hne heq => hne ⟨by rw [heq], by rw [heq]⟩

/-- In such a list an entry is told by its pair. -/
theorem OnePerPair.eq_of_pair {l : List HoldOff} (h : OnePerPair l) {x y : HoldOff} (hx : x ∈ l) (hy : y ∈ l)
    (hr : x.robot = y.robot) (hf : x.fixture = y.fixture) : x = y := by
  have keys : (l.map fun x => (x.robot, x.fixture)).Nodup :=
    List.pairwise_map.mpr (h.imp fun hne heq => hne (Prod.mk.injEq .. ▸ heq))
  exact List.inj_on_of_nodup_map keys hx hy (by rw [hr, hf])

/-- R15, first case: a pair that is listed has its entry replaced in place. -/
theorem addHoldOff_listed {l : List HoldOff} {e : HoldOff} (h : ∃ x ∈ l, x.robot = e.robot ∧ x.fixture = e.fixture) :
    addHoldOff l e = l.map fun x => if x.isFor e.robot e.fixture then e else x := by
  have hany : l.any (·.isFor e.robot e.fixture) = true := by simpa [HoldOff.isFor_iff] using h
  simp [addHoldOff, hany]

theorem addHoldOff_unlisted {l : List HoldOff} {e : HoldOff}
    (h : ∀ x ∈ l, ¬(x.robot = e.robot ∧ x.fixture = e.fixture)) :
    addHoldOff l e = if l.length < 8 then l ++ [e] else evictHoldOff l ++ [e] := by
  have hany : l.any (·.isFor e.robot e.fixture) = false := by
    simpa [List.any_eq_false, HoldOff.isFor_iff] using h
  simp only [addHoldOff, hany, Bool.false_eq_true, if_false]; rfl

theorem mem_addHoldOff_listed {l : List HoldOff} {e : HoldOff}
    (h : ∃ x ∈ l, x.robot = e.robot ∧ x.fixture = e.fixture) (x : HoldOff) :
    x ∈ addHoldOff l e ↔ x = e ∨ (x ∈ l ∧ ¬(x.robot = e.robot ∧ x.fixture = e.fixture)) := by
  rw [addHoldOff_listed h, List.mem_map]
  constructor
  · rintro ⟨y, hy, rfl⟩
    split
    · exact .inl rfl
    · rename_i hne; exact .inr ⟨hy, by simpa [HoldOff.isFor_iff] using hne⟩
  · rintro (rfl | ⟨hx, hne⟩)
    · obtain ⟨y, hy, hpair⟩ := h
      exact ⟨y, hy, if_pos ((HoldOff.isFor_iff ..).mpr hpair)⟩
    · exact ⟨x, hx, if_neg (mt (HoldOff.isFor_iff ..).mp hne)⟩

/-- R15: what a full list loses, with all that is left. -/
theorem evictHoldOff_spec {l : List HoldOff} (hne : l ≠ []) (h : OnePerPair l) :
    ∃ y ∈ l, (∀ x ∈ l, y.expiry < x.expiry ∨ (y.expiry = x.expiry ∧ (y.fixture < x.fixture ∨
        (y.fixture = x.fixture ∧ y.robot ≤ x.robot)))) ∧
      (∀ x, x ∈ evictHoldOff l ↔ x ∈ l ∧ x ≠ y) ∧ (evictHoldOff l).length + 1 = l.length := by
  obtain ⟨x, rest, rfl⟩ := List.exists_cons_of_ne_nil hne
  obtain ⟨mem, first⟩ := firstHoldOff_spec x rest
  refine ⟨firstHoldOff x rest, mem, first, fun z => ?_, ?_⟩
  · simp only [evictHoldOff]
    rw [h.nodup.mem_erase_iff]; exact and_comm
  · simp only [evictHoldOff]
    have := List.length_erase_of_mem mem
    have := List.length_pos_of_mem mem
    omega

theorem evictHoldOff_sublist (l : List HoldOff) : (evictHoldOff l).Sublist l := by
  cases l with
  | nil => exact .slnil
  | cons x rest => exact List.erase_sublist

theorem OnePerPair.append {l : List HoldOff} {e : HoldOff} (h : OnePerPair l)
    (hne : ∀ x ∈ l, ¬(x.robot = e.robot ∧ x.fixture = e.fixture)) : OnePerPair (l ++ [e]) :=
  List.pairwise_append.mpr ⟨h, List.pairwise_singleton _ _, fun x hx y hy => by
    obtain rfl : y = e := by simpa using hy
    exact hne x hx⟩

/-- R17: an entry made keeps one entry to a pair. -/
theorem OnePerPair.addHoldOff {l : List HoldOff} (h : OnePerPair l) (e : HoldOff) : OnePerPair (addHoldOff l e) := by
  by_cases listed : ∃ x ∈ l, x.robot = e.robot ∧ x.fixture = e.fixture
  · rw [addHoldOff_listed listed]
    refine List.Pairwise.map _ (fun a b hab => ?_) h
    have pair (x : HoldOff) : (if x.isFor e.robot e.fixture then e else x).robot = x.robot ∧
        (if x.isFor e.robot e.fixture then e else x).fixture = x.fixture := by
      split
      · rename_i hx; obtain ⟨hr, hf⟩ := (HoldOff.isFor_iff ..).mp hx; exact ⟨hr.symm, hf.symm⟩
      · exact ⟨rfl, rfl⟩
    rw [(pair a).1, (pair a).2, (pair b).1, (pair b).2]
    exact hab
  · have unlisted : ∀ x ∈ l, ¬(x.robot = e.robot ∧ x.fixture = e.fixture) := fun x hx hp => listed ⟨x, hx, hp⟩
    rw [addHoldOff_unlisted unlisted]
    split
    · exact h.append unlisted
    · exact OnePerPair.append (h.sublist (evictHoldOff_sublist l))
        fun x hx => unlisted x ((evictHoldOff_sublist l).subset hx)

/-- R17: an entry made keeps the list within its room. -/
theorem length_addHoldOff_le {l : List HoldOff} (e : HoldOff) (h : OnePerPair l) (hl : l.length ≤ 8) :
    (addHoldOff l e).length ≤ 8 := by
  by_cases listed : ∃ x ∈ l, x.robot = e.robot ∧ x.fixture = e.fixture
  · simpa [addHoldOff_listed listed] using hl
  · rw [addHoldOff_unlisted fun x hx hp => listed ⟨x, hx, hp⟩]
    split
    · simpa using by omega
    · obtain ⟨_, _, _, _, hlen⟩ := evictHoldOff_spec (l := l) (by rintro rfl; simp at *) h
      simpa using by omega

theorem State.heldOff_iff (s : State) (r : Robot) (f : FixtureNo) : s.heldOff r f = true ↔ IsHeldOff s f r := by
  simp only [State.heldOff, List.any_eq_true, Bool.and_eq_true, HoldOff.isFor_iff, decide_eq_true_eq, and_assoc]; rfl

/-- Check 1 of Table 2-1 alone sets a REQUEST aside. -/
theorem State.judgeClaim_eq_setAside (s : State) (f : FixtureNo) (c : FixtureConfig) (r : Robot) :
    s.judgeClaim f c r = .setAside ↔ s.heldOff r f = true := by
  unfold State.judgeClaim
  dsimp only
  split
  · simp [*]
  · simp only [*, Bool.false_eq_true, iff_false]
    split
    · simp
    · split
      · simp
      · split
        · simp
        · split <;> simp

/-- Settles O54: the three cases of R15 are the three branches of `addHoldOff`. -/
theorem holdOffEntryIsMade : Obligations.HoldOffEntryIsMade := by
  unfold Obligations.HoldOffEntryIsMade
  intro l e _ hpairs
  refine ⟨fun listed => ⟨?_, mem_addHoldOff_listed listed⟩, fun unlisted hlt => ?_, fun unlisted hfull => ?_⟩
  · simp [addHoldOff_listed listed]
  · rw [addHoldOff_unlisted unlisted, if_pos hlt]
  · obtain ⟨y, hy, first, left, hlen⟩ := evictHoldOff_spec (l := l) (by rintro rfl; simp at hfull) hpairs
    have hadd : addHoldOff l e = evictHoldOff l ++ [e] := by rw [addHoldOff_unlisted unlisted, if_neg (by omega)]
    have hmem (x : HoldOff) : x ∈ addHoldOff l e ↔ x = e ∨ (x ∈ l ∧ x ≠ y) := by
      rw [hadd, List.mem_append, left, List.mem_singleton]; exact or_comm
    refine ⟨y, hy, first, hmem, by rw [hadd]; simpa using by omega, fun s c hs => ?_⟩
    rw [Ne, State.judgeClaim_eq_setAside, State.heldOff_iff]
    rintro ⟨x, hx, hr, hf, -⟩
    rcases (hmem x).mp (hs ▸ hx) with rfl | ⟨hxl, hxy⟩
    · exact unlisted y hy ⟨hr.symm, hf.symm⟩
    · exact hxy (OnePerPair.eq_of_pair hpairs hxl hy hr hf)

/-! ## Links to the own station (R11) -/

/-- R10, R11: a link to the own station reads the own fixture table. -/
theorem State.linkMet_own {s : State} {l : Link} (h : l.station = s.loader.station) (side : Side) :
    s.linkMet l side = linkOwn l.test (s.fixture l.fixture) side := by
  simp [State.linkMet, h]

theorem Kind.claimable_iff (k : Kind) : k.claimable = true ↔ k = .gate ∨ k = .dispenser := by
  cases k <;> simp [Kind.claimable]

/-- No link is met by an absent fixture. -/
theorem linkOwn_absent (t : LinkTest) {x : Fixture} (side : Side) (h : x.config = none) : linkOwn t x side = false := by
  simp [linkOwn, Fixture.kind?, h]

/-- No link is met by a DEAD fixture. -/
theorem linkOwn_dead (t : LinkTest) {x : Fixture} (side : Side) (h : x.state = .dead) : linkOwn t x side = false := by
  unfold linkOwn; split <;> simp [h]

/-- Settles O58, by the rows of Table 1-6. -/
theorem ownLinkFollowsItsTable : Obligations.OwnLinkFollowsItsTable := by
  unfold Obligations.OwnLinkFollowsItsTable
  intro s l side hown
  rw [State.linkMet_own hown]
  generalize s.fixture l.fixture = x
  cases hc : x.config with
  | none => simp [linkOwn_absent _ _ hc]
  | some c =>
    by_cases hdead : x.state = .dead
    · simp [linkOwn_dead _ _ hdead, hdead]
    · have hk : x.kind? = some c.kind := by simp [Fixture.kind?, hc]
      simp only [linkOwn, hk, Option.some.injEq, exists_eq_left', ne_eq, hdead, not_false_eq_true,
        true_and]
      cases l.test with
      | ownerMine => simp [and_assoc]
      | ownerSide n => simp [and_assoc]
      | peerFree => simp [Kind.claimable_iff]
      | sideHolds => cases x.claims.holder <;> simp [Kind.claimable_iff, and_assoc]

/-! ## Expiries (R16, R19, R83) -/

theorem State.advance_now (s : State) (d : Nat) (h : s.running = true) : (s.advance d).now = s.now + d := by
  simp [State.advance_running s d h]

theorem State.advance_ports (s : State) (d : Nat) (h : s.running = true) (p : PortNo) :
    (s.advance d).ports[p] = s.ports[p].advance (s.now + d) s.settings.sightWindow d := by
  simp [State.advance_running s d h]

/-- Settles O21: the missing time passes, and of the entries that still stand the filter takes the named one. -/
theorem expiriesRemoveTheirEntry : Obligations.ExpiriesRemoveTheirEntry := by
  unfold Obligations.ExpiriesRemoveTheirEntry
  refine ⟨fun s r f e hrun hfind hnow => ?_, fun s p r e hrun hfind hnow => ?_⟩
  · have hwait : holdOffWait r f s = some (e.expiry * 1000 - s.now) := by simp [holdOffWait, hfind, Config.ms]
    have htime : s.now + (e.expiry * 1000 - s.now) = e.expiry * 1000 := by omega
    refine ⟨dropHoldOff r f (s.advance (e.expiry * 1000 - s.now)), onExpiry_some hwait, ?_, fun x => ?_, ?_⟩
    · simp [dropHoldOff, State.advance_now, hrun, htime]
    · simp [dropHoldOff, State.advance_holdOff, State.advance_now, hrun, htime, HoldOff.stands, HoldOff.isFor,
        Config.ms]
      tauto
    · simp [dropHoldOff, State.advance_now, hrun]
  · have hwait : sightWait p r s = some ((e.lastSeen + s.settings.sightWindow) * 1000 - s.now) := by
      simp only [sightWait, hfind, Config.ms, Option.map_some]
    have htime : s.now + ((e.lastSeen + s.settings.sightWindow) * 1000 - s.now) =
        (e.lastSeen + s.settings.sightWindow) * 1000 := by omega
    refine ⟨dropSight p r (s.advance ((e.lastSeen + s.settings.sightWindow) * 1000 - s.now)), onExpiry_some hwait,
      ?_, fun x => ?_, ?_⟩
    · simp [dropSight, State.advance_now, hrun, htime]
    · simp only [dropSight, State.setPort_ports, if_true, State.advance_ports _ _ hrun, Port.advance,
        State.setPort_now, State.advance_now _ _ hrun, htime, List.mem_filter, Sight.stands, Config.ms]
      simp
      tauto
    · simp only [dropSight, State.setPort_ports, if_true, State.setPort_now, State.advance_now _ _ hrun]
      rw [Nat.add_sub_cancel_left]

/-- Settles O34. -/
theorem transientEnds : Obligations.TransientEnds := by
  unfold Obligations.TransientEnds
  intro s f x hrun htr
  have hwait : transientWait f s = some (s.fixture f).transientLeft := by simp [transientWait, htr]
  refine ⟨endTransient f (s.advance (s.fixture f).transientLeft), onExpiry_some hwait, ?_⟩
  generalize hu : s.advance (s.fixture f).transientLeft = u
  have hphase : u.clock.phase = s.clock.phase := by rw [← hu, State.advance_phase]
  have hstate : (u.fixture f).state = (s.fixture f).state := by rw [← hu, State.advance_fixture_state]
  have hnow : u.now = s.now + (s.fixture f).transientLeft := by rw [← hu, State.advance_now _ _ hrun]
  have hfix : (endTransient f u).fixture f = { u.fixture f with
      transient := none, transientLeft := 0, indicator := indicatorOf u.clock.phase
        { u.fixture f with transient := none, transientLeft := 0 } } := by
    simp [endTransient, State.refreshIndicator_fixture]
  simp only [hfix, hphase, hstate]
  simp only [endTransient, RestAs, State.refreshIndicator_now, State.setFixture_now, hnow,
    State.refreshIndicator_line, State.setFixture_line, State.refreshIndicator_picture, State.setFixture_picture,
    State.refreshIndicator_holdOff, State.setFixture_holdOff, true_and]
  refine ⟨?_, fun g hg => ?_, ?_⟩
  · unfold indicatorOf stateIndicator
    split
    · rfl
    · dsimp only
      split
      · simp [*]
      · rfl
  · simp [State.refreshIndicator_fixture, Ne.symm hg]
  · simp

end Sys2Proof.Machine
end

section
/-! Proofs for 01_fixtures_and_admission.md, part 2: what a sighting comes to (R24, R28, R33, R78, R81, R82). -/

namespace Sys2Proof.Machine

/-! ## Sight lists (R81, R82) -/

theorem Sight.before_iff (x y : Sight) : x.before y = true ↔
    x.lastSeen < y.lastSeen ∨ (x.lastSeen = y.lastSeen ∧ x.robot.val < y.robot.val) := by
  simp [Sight.before]

/-- R82: the entry a full sight list loses was last seen longest ago, and is of the lowest robot among several. -/
theorem evictSight_spec {l : List Sight} (hne : l ≠ []) (h : l.Nodup) :
    ∃ y ∈ l, (∀ x ∈ l, y.lastSeen < x.lastSeen ∨ (y.lastSeen = x.lastSeen ∧ y.robot ≤ x.robot)) ∧
      ∀ x, x ∈ evictSight l ↔ x ∈ l ∧ x ≠ y := by
  obtain ⟨x, rest, rfl⟩ := List.exists_cons_of_ne_nil hne
  have irrefl (a : Sight) : a.before a = false := by rw [Bool.eq_false_iff, Ne, Sight.before_iff]; omega
  have trans (a b c : Sight) : a.before b = true → b.before c = true → a.before c = true := by
    simp only [Sight.before_iff]; omega
  obtain ⟨mem, least⟩ := firstBy_spec irrefl trans x rest
  refine ⟨_, mem, fun z hz => ?_, fun z => ?_⟩
  · have notBefore := least z hz
    rw [Bool.eq_false_iff, Ne, Sight.before_iff] at notBefore
    simp only [Fin.le_def]
    omega
  · show z ∈ (x :: rest).erase (firstBy Sight.before x rest) ↔ _
    rw [h.mem_erase_iff]; exact and_comm

/-- R81, R82: what `addSight` makes of a list in which no robot stands twice. -/
theorem addSight_updates {l : List Sight} (h : l.Pairwise fun x y => x.robot ≠ y.robot) (e : Sight) :
    SightUpdated l (addSight l e) e := by
  by_cases listed : ∃ x ∈ l, x.robot = e.robot
  · have hany : l.any (·.robot == e.robot) = true := by simpa using listed
    have hadd (x : Sight) : x ∈ addSight l e ↔ x = e ∨ (x ∈ l ∧ x.robot ≠ e.robot) := by
      simp only [addSight, hany, if_true, List.mem_map, beq_iff_eq]
      constructor
      · rintro ⟨y, hy, rfl⟩
        split
        · exact .inl rfl
        · exact .inr ⟨hy, ‹_›⟩
      · rintro (rfl | ⟨hx, hne⟩)
        · obtain ⟨y, hy, hr⟩ := listed
          exact ⟨y, hy, if_pos hr⟩
        · exact ⟨x, hx, if_neg hne⟩
    refine ⟨fun x hx => by simp [hadd, hx], fun _ x hx => ?_, fun unlisted => ?_⟩
    · rw [hadd]
      have : x ≠ e := fun h => hx (by rw [h])
      tauto
    · obtain ⟨x, hx, hr⟩ := listed
      exact absurd hr (unlisted x hx)
  · have unlisted : ∀ x ∈ l, x.robot ≠ e.robot := fun x hx hr => listed ⟨x, hx, hr⟩
    have hany : l.any (·.robot == e.robot) = false := by simpa [List.any_eq_false] using unlisted
    have hadd : addSight l e = if l.length < 8 then l ++ [e] else evictSight l ++ [e] := by
      simp only [addSight, hany, Bool.false_eq_true, if_false]; rfl
    refine ⟨fun x hx => ?_, fun hroom x hx => ?_, fun _ hfull => ?_⟩
    · have hsub : ∀ x ∈ evictSight l, x ∈ l := fun x => by
        cases l with
        | nil => exact id
        | cons z rest => exact List.mem_of_mem_erase
      have : x ∉ l := fun hxl => unlisted x hxl hx
      have : x ∉ evictSight l := fun hxl => this (hsub x hxl)
      rw [hadd]; split <;> simp [*]
    · have : x ≠ e := fun h => hx (by rw [h])
      rcases hroom with h | h
      · exact absurd h listed
      · simp [hadd, h, this]
    · have nodup : l.Nodup := h.imp fun {a b} hne heq => hne (by rw [heq])
      obtain ⟨y, hy, first, left⟩ := evictSight_spec (l := l) (by rintro rfl; simp at hfull) nodup
      refine ⟨y, hy, first, fun x hx => ?_⟩
      have : x ≠ e := fun h => hx (by rw [h])
      simp [hadd, hfull, left, this]

/-! ## Beacon words (R73, R76) -/

/-- The bits of a number, most significant first, spell it. -/
theorem bitsValue_bitsOf (w n : Nat) : bitsValue (bitsOf w n) = n % 2 ^ w := by
  have go : ∀ w acc, (bitsOf w n).foldl (fun n b => 2 * n + b.toNat) acc = acc * 2 ^ w + n % 2 ^ w := by
    intro w
    induction w with
    | zero => intro acc; simp [bitsOf, Nat.mod_one]
    | succ w ih =>
      intro acc
      have hbits : bitsOf (w + 1) n = n.testBit w :: bitsOf w n := by simp [bitsOf, List.range_succ]
      rw [hbits, List.foldl_cons, ih, Nat.mod_pow_succ, ← Nat.toNat_testBit, Nat.pow_succ]
      ring
  simpa [bitsValue] using go w 0

@[simp] theorem bitsOf_length (w n : Nat) : (bitsOf w n).length = w := by simp [bitsOf]

/-- R73, R76: a beacon word reads back as its robot and intent. -/
theorem readWord_beaconWord {r : Robot} (hr : r ≠ 0) (i : BitVec 2) :
    readWord (beaconWord r i) = some (r, Intent.ofValue i.toNat) := by
  have hpayload : bitsValue (bitsOf 8 (r.val * 4 + i.toNat)) = r.val * 4 + i.toNat := by
    rw [bitsValue_bitsOf]; omega
  have hcheck : bitsValue (bitsOf 4 (checkNibble (r.val * 4 + i.toNat))) = checkNibble (r.val * 4 + i.toNat) := by
    rw [bitsValue_bitsOf]; unfold checkNibble; omega
  have hrobot : Fin.ofNat 64 ((r.val * 4 + i.toNat) / 4) = r := by
    apply Fin.ext; simp only [Fin.ofNat]; omega
  have hintent : Intent.ofValue (r.val * 4 + i.toNat) = Intent.ofValue i.toNat := by
    unfold Intent.ofValue; rw [Nat.mul_add_mod_self_right]
  simp only [readWord, beaconWord, List.take_left' (bitsOf_length 8 _), List.drop_left' (bitsOf_length 8 _), hpayload,
    hcheck, hrobot, hintent, List.length_append, bitsOf_length]
  simp [hr]

/-! ## What the fixture engine is asked (R3, R23) -/

@[simp] theorem State.setPort_setPort (s : State) (p : PortNo) (x y : Port) :
    (s.setPort p x).setPort p y = s.setPort p y := by
  simp [State.setPort, put]

@[simp] theorem State.setClaims_same (s : State) (f : FixtureNo) : s.setClaims f (s.fixture f).claims = s := by
  have h : put s.engine.fixtures f s.engine.fixtures[f] = s.engine.fixtures := by simp [put]
  show { s with engine := { s.engine with fixtures := put s.engine.fixtures f s.engine.fixtures[f] } } = s
  rw [h]

/-- R3: the port's claimable fixture depends on the fixtures' configuration alone. -/
theorem State.claimable_congr {s t : State} (h : ∀ f, (t.fixture f).config = (s.fixture f).config) (p : PortNo) :
    t.claimable p = s.claimable p := by
  simp only [State.claimable, h]

/-- R3: a port's claimable fixture is a GATE or DISPENSER. -/
theorem State.claimable_kind {s : State} {p : PortNo} {f : FixtureNo} {c : FixtureConfig} (h : s.claimable p = some f)
    (hc : (s.fixture f).config = some c) : c.kind.claimable = true := by
  have := List.find?_some h
  simp only [hc, Bool.and_eq_true] at this
  exact this.1

theorem Claims.holds_iff (c : Claims) (r : Robot) : c.holds r = true ↔ c.holder.map Holder.robot = some r := by
  unfold Claims.holds; cases c.holder <;> simp

theorem Claims.queued_iff (c : Claims) (r : Robot) : c.queued r = true ↔ ∃ w ∈ c.queue, w.robot = r := by
  simp [Claims.queued]

@[simp] theorem Claims.advance_holds (c : Claims) (e : Nat) (r : Robot) : (c.advance e).holds r = c.holds r := by
  unfold Claims.holds Claims.advance; cases c.holder <;> rfl

@[simp] theorem Claims.advance_queued (c : Claims) (e : Nat) (r : Robot) : (c.advance e).queued r = c.queued r := by
  simp [Claims.queued, Claims.advance, Function.comp_def]

/-- R24: a sighting changes what the claims know of its robot, not which robot holds. -/
@[simp] theorem Claims.refresh_holderRobot (c : Claims) (r : Robot) (seen : Nat) :
    (c.refresh r seen).holder.map Holder.robot = c.holder.map Holder.robot := by
  have (h : Holder) : (if h.robot = r then { h with lastSeen := seen, age := 0 } else h).robot = h.robot := by
    split <;> rfl
  simp [Claims.refresh, Function.comp_def, this]

/-- R24: nor which robots wait, and in which order. -/
@[simp] theorem Claims.refresh_queueRobots (c : Claims) (r : Robot) (seen : Nat) :
    (c.refresh r seen).queue.map Waiter.robot = c.queue.map Waiter.robot := by
  have (w : Waiter) : (if w.robot = r then { w with lastSeen := seen, age := 0 } else w).robot = w.robot := by
    split <;> rfl
  simp [Claims.refresh, Function.comp_def, this]

@[simp] theorem Claims.refresh_holds (c : Claims) (r q : Robot) (seen : Nat) :
    (c.refresh r seen).holds q = c.holds q := by
  rw [Bool.eq_iff_iff, Claims.holds_iff, Claims.holds_iff, Claims.refresh_holderRobot]

@[simp] theorem Claims.refresh_queued (c : Claims) (r q : Robot) (seen : Nat) :
    (c.refresh r seen).queued q = c.queued q := by
  rw [Bool.eq_iff_iff, Claims.queued_iff, Claims.queued_iff, ← List.mem_map, ← List.mem_map, Claims.refresh_queueRobots]

/-- R24: the sighting of a robot that does not hold leaves the holder. -/
theorem Claims.refresh_holder {c : Claims} {r : Robot} (h : c.holds r = false) (seen : Nat) :
    (c.refresh r seen).holder = c.holder := by
  unfold Claims.holds at h
  unfold Claims.refresh
  cases hh : c.holder with
  | none => rfl
  | some k => simp_all

/-- R24: the sighting of a robot that is not queued leaves the queue. -/
theorem Claims.refresh_queue {c : Claims} {r : Robot} (h : c.queued r = false) (seen : Nat) :
    (c.refresh r seen).queue = c.queue := by
  have hne : ∀ w ∈ c.queue, w.robot ≠ r := by simpa [Claims.queued, List.any_eq_false] using h
  exact (List.map_congr_left fun w hw => if_neg (hne w hw)).trans (List.map_id _)

/-- R24: a sighting leaves the claims of a fixture at which its robot is neither holder nor queued. -/
theorem Claims.refresh_absent {c : Claims} {r : Robot} (hh : c.holds r = false) (hq : c.queued r = false) (seen : Nat) :
    c.refresh r seen = c := by
  have holder := Claims.refresh_holder hh seen
  have queue := Claims.refresh_queue hq seen
  simp only [Claims.refresh] at holder queue ⊢
  rw [holder, queue]

/-- R33: what is left of a queue does not show that the robot that leaves has been seen. -/
theorem Claims.refresh_queue_without (c : Claims) (r : Robot) (seen : Nat) :
    (c.refresh r seen).queue.filter (fun w => w.robot != r) = c.queue.filter fun w => w.robot != r := by
  simp only [Claims.refresh]
  induction c.queue with
  | nil => rfl
  | cons w rest ih => by_cases h : w.robot = r <;> simp [h, ih]

/-- R33: a robot that leaves the queue leaves the claims of the others as they were before it was seen. -/
theorem Claims.refresh_without {c : Claims} {r : Robot} (h : c.holds r = false) (seen : Nat) :
    ({ c.refresh r seen with queue := (c.refresh r seen).queue.filter fun w => w.robot != r } : Claims) =
      { c with queue := c.queue.filter fun w => w.robot != r } := by
  rw [Claims.refresh_queue_without]
  have holder := Claims.refresh_holder h seen
  simp only [Claims.refresh] at holder ⊢
  rw [holder]

theorem joinQueue_fixture (s : State) (f : FixtureNo) (r : Robot) : (joinQueue s f r).fixture f =
    { s.fixture f with claims := { (s.fixture f).claims with
        queue := (s.fixture f).claims.queue ++ [⟨r, s.sideOf r, s.nowMs, 0⟩] } } := by
  simp [joinQueue]

theorem dropQueued_fixture (s : State) (f : FixtureNo) (r : Robot) : (dropQueued s f r).fixture f =
    { s.fixture f with claims := { (s.fixture f).claims with
        queue := (s.fixture f).claims.queue.filter fun w => w.robot != r } } := by
  simp [dropQueued]

theorem dropQueued_holdOff (s : State) (f : FixtureNo) (r : Robot) :
    (dropQueued s f r).engine.holdOff = (s.makeHoldOff r f).engine.holdOff := by
  simp only [dropQueued, State.makeHoldOff_holdOff]; rfl

theorem State.isPresentAt_iff (s : State) (f : FixtureNo) (r : Robot) :
    IsPresentAt s f r ↔ (s.fixture f).claims.holds r = true ∨ (s.fixture f).claims.queued r = true := by
  rw [Claims.holds_iff, Claims.queued_iff]

theorem State.advance_holds (s : State) (d : Nat) (f : FixtureNo) (r : Robot) :
    ((s.advance d).fixture f).claims.holds r = (s.fixture f).claims.holds r := by
  cases h : s.running with
  | true => simp [s.advance_fixture d f h, Fixture.advance]
  | false => rw [s.advance_stopped d h]

theorem State.advance_queued (s : State) (d : Nat) (f : FixtureNo) (r : Robot) :
    ((s.advance d).fixture f).claims.queued r = (s.fixture f).claims.queued r := by
  cases h : s.running with
  | true => simp [s.advance_fixture d f h, Fixture.advance]
  | false => rw [s.advance_stopped d h]

theorem failsCheck_of_firstFailure_none {s : State} {f : FixtureNo} {c : FixtureConfig} {r : Robot}
    (h : firstFailure s f c r = none) (reason : Reason) : failsCheck s f c r reason = false := by
  simpa using List.find?_eq_none.mp h reason (by cases reason <;> simp)

/-- Table 2-1: where none of checks 3 to 9 fails, none of checks 3 to 8 gives a reason. -/
theorem State.claimFault_none {s : State} {f : FixtureNo} {c : FixtureConfig} {r : Robot}
    (h : firstFailure s f c r = none) : s.claimFault f c r = none := by
  have passes := failsCheck_of_firstFailure_none h
  have phase := passes .phase
  have side := passes .side
  have window := passes .window
  have link := passes .link
  have elsewhere := passes .elsewhere
  have allowance := passes .allowance
  simp only [failsCheck] at phase side window link elsewhere allowance
  unfold State.claimFault
  simp only [phase, side, window, elsewhere, allowance, Bool.false_eq_true, if_false]
  cases hl : c.link with
  | none => rfl
  | some l =>
    rw [hl, Option.any_some] at link
    simp only [link, Bool.false_eq_true, if_false]

/-- Check 3 of Table 2-1: a claim that passes is made in the live mask. -/
theorem State.claimFault_none_phase {s : State} {f : FixtureNo} {c : FixtureConfig} {r : Robot}
    (h : s.claimFault f c r = none) : inMask c.liveMask s.clock.phase = true := by
  by_contra hm
  rw [Bool.not_eq_true] at hm
  simp only [State.claimFault, hm, Bool.not_false, if_true, reduceCtorEq] at h

/-- The checks of a claim read no port. -/
theorem State.setPort_claimFault (s : State) (p : PortNo) (x : Port) (f : FixtureNo) (c : FixtureConfig) (r : Robot) :
    (s.setPort p x).claimFault f c r = s.claimFault f c r := rfl

/-! ## A sighting, step by step (R78) -/

/-- The station as a word has completed on a port and its robot stands in the port's sight list. -/
def State.sighted (u : State) (p : PortNo) (r : Robot) (i : BitVec 2) : State :=
  u.setPort p { u.ports[p] with
    active := false, decoder := .hunt, elapsed := 0, bits := beaconWord r i
    sights := addSight u.ports[p].sights ⟨r, u.sideOf r, u.nowMs⟩ }

/-- The same, with the robot's last-seen time refreshed at a fixture. -/
def State.seenAt (u : State) (p : PortNo) (r : Robot) (i : BitVec 2) (f : FixtureNo) : State :=
  (u.sighted p r i).setClaims f ((u.fixture f).claims.refresh r u.nowMs)

/-- What a sighting does at a fixture once its robot has been refreshed (R78 step 2). -/
def State.actOn (v : State) (f : FixtureNo) (c : FixtureConfig) (r : Robot) (i : Intent) : State :=
  match i with
  | .present => v
  | .request => takeRequest v f c r
  | .release => takeRelease v f c r

theorem sightingAtFixture_eq {v : State} {p : PortNo} {f : FixtureNo} {c : FixtureConfig} (r : Robot) (i : Intent)
    (hclaim : v.claimable p = some f) (hc : (v.fixture f).config = some c) (halive : (v.fixture f).state ≠ .dead) :
    sightingAtFixture v p r i = (v.setClaims f ((v.fixture f).claims.refresh r v.nowMs)).actOn f c r i := by
  cases i <;> simp only [sightingAtFixture, hclaim, hc, if_neg halive, State.actOn]

/-- R78: a SIGHTING at a configured station, once its time has passed. -/
theorem exec_sighting {s : State} (dt : Nat) (p : PortNo) {r : Robot} (i : BitVec 2) (hready : s.ready = true)
    (hr : r ≠ 0) : exec (.sighting dt p r i) s =
      .next (sightingAtFixture ((s.advance dt).sighted p r i) p r (Intent.ofValue i.toNat)) := by
  have hready' : (s.advance dt).ready = true := by simpa using hready
  show Host.Outcome.next (completeWord p r i (s.advance dt)) = _
  simp only [completeWord, hready', if_true, judgeWord, State.setPort_ports, readWord_beaconWord hr, takeSighting,
    State.setPort_setPort]
  rfl

/-- R78: a SIGHTING on the port of a claimable fixture that is not DEAD. -/
theorem exec_sighting_at {s : State} (dt : Nat) {p : PortNo} {r : Robot} (i : BitVec 2) {f : FixtureNo}
    {c : FixtureConfig} (hready : s.ready = true) (hr : r ≠ 0) (hclaim : s.claimable p = some f)
    (hc : (s.fixture f).config = some c) (halive : (s.fixture f).state ≠ .dead) :
    exec (.sighting dt p r i) s =
      .next (((s.advance dt).seenAt p r i f).actOn f c r (Intent.ofValue i.toNat)) := by
  rw [exec_sighting dt p i hready hr, sightingAtFixture_eq (f := f) (c := c) _ _ ?_ ?_ ?_]
  · rfl
  · rw [State.claimable_congr (s := s) (by simp [State.sighted])]; exact hclaim
  · simpa [State.sighted] using hc
  · simpa [State.sighted] using halive

/-- Check 1 of Table 2-1 sets a REQUEST aside, and check 2 takes one as a refresh: it does nothing more. -/
theorem takeRequest_idle {v : State} {f : FixtureNo} {r : Robot} (c : FixtureConfig)
    (h : v.heldOff r f = true ∨ (v.fixture f).claims.holds r = true ∨ (v.fixture f).claims.queued r = true) :
    takeRequest v f c r = v := by
  have hj : v.judgeClaim f c r = .setAside ∨ v.judgeClaim f c r = .refresh := by
    unfold State.judgeClaim
    by_cases ho : v.heldOff r f = true
    · simp [ho]
    · rcases h with h | h | h
      · exact absurd h ho
      · simp [ho, h]
      · simp [ho, h]
  unfold takeRequest
  rcases hj with hj | hj <;> rw [hj]

/-- Check 9 of Table 2-1: a REQUEST that passes at a HELD fixture with room joins the queue. -/
theorem takeRequest_queued {v : State} {f : FixtureNo} {r : Robot} {c : FixtureConfig} (ho : v.heldOff r f = false)
    (hh : (v.fixture f).claims.holds r = false) (hq : (v.fixture f).claims.queued r = false)
    (hpass : v.claimFault f c r = none) (hstate : (v.fixture f).state = .held)
    (hroom : (v.fixture f).claims.queue.length < 4) : takeRequest v f c r = joinQueue v f r := by
  have hj : v.judgeClaim f c r = .queued := by
    simp [State.judgeClaim, ho, hh, hq, hpass, hstate, Config.waitRoom, hroom]
  simp [takeRequest, hj]

/-- R33: a RELEASE by a robot that neither holds nor waits does nothing. -/
theorem takeRelease_absent {v : State} {f : FixtureNo} {r : Robot} (c : FixtureConfig)
    (hh : (v.fixture f).claims.holds r = false) (hq : (v.fixture f).claims.queued r = false) :
    takeRelease v f c r = v := by simp [takeRelease, hh, hq]

/-- R33: a DISPENSER's hold ends with its list, not with a sighting. -/
theorem takeRelease_dispenser {v : State} {f : FixtureNo} {r : Robot} {c : FixtureConfig} (hk : c.kind = .dispenser)
    (hh : (v.fixture f).claims.holds r = true) : takeRelease v f c r = v := by simp [takeRelease, hh, hk]

/-- R33: a RELEASE by a robot that waits takes it out of the queue. -/
theorem takeRelease_queued {v : State} {f : FixtureNo} {r : Robot} (c : FixtureConfig)
    (hh : (v.fixture f).claims.holds r = false) (hq : (v.fixture f).claims.queued r = true) :
    takeRelease v f c r = dropQueued v f r := by simp [takeRelease, hh, hq]

section
variable (u : State) (p : PortNo) (r : Robot) (i : BitVec 2) (f : FixtureNo)

/-- R24: what a sighting leaves at its fixture before it acts. -/
theorem State.seenAt_fixture : (u.seenAt p r i f).fixture f =
    { u.fixture f with claims := (u.fixture f).claims.refresh r u.nowMs } := by
  simp [State.seenAt, State.sighted]

@[simp] theorem State.seenAt_holds (q : Robot) :
    ((u.seenAt p r i f).fixture f).claims.holds q = (u.fixture f).claims.holds q := by
  simp [State.seenAt_fixture]

@[simp] theorem State.seenAt_queued (q : Robot) :
    ((u.seenAt p r i f).fixture f).claims.queued q = (u.fixture f).claims.queued q := by
  simp [State.seenAt_fixture]

@[simp] theorem State.seenAt_holdOff : (u.seenAt p r i f).engine.holdOff = u.engine.holdOff := rfl

@[simp] theorem State.seenAt_heldOff (q : Robot) (g : FixtureNo) :
    (u.seenAt p r i f).heldOff q g = u.heldOff q g := rfl

/-- The sighting of a robot that neither holds nor waits changes nothing but its port. -/
theorem State.seenAt_absent (hh : (u.fixture f).claims.holds r = false) (hq : (u.fixture f).claims.queued r = false) :
    u.seenAt p r i f = u.sighted p r i := by
  have same : (u.sighted p r i).fixture f = u.fixture f := rfl
  rw [State.seenAt, Claims.refresh_absent hh hq, ← same, State.setClaims_same]

/-- What is common to the sightings that neither grant, refuse nor release: they change no more than the claims of their
fixture, the hold-off list, and their port, whose sight list has the robot's entry. -/
structure State.SightingOnly (u t : State) (p : PortNo) (r : Robot) (f : FixtureNo) : Prop where
  line : t.line = u.line
  picture : t.picture = u.picture
  rest : RestAs u t f
  ports : ∀ q, q ≠ p → t.ports[q] = u.ports[q]
  sights : (t.ports[p]).sights = addSight (u.ports[p]).sights ⟨r, u.sideOf r, u.nowMs⟩

theorem State.seenAt_only : u.SightingOnly (u.seenAt p r i f) p r f where
  line := rfl
  picture := rfl
  rest := ⟨fun g hg => by simp [State.seenAt, State.sighted, Ne.symm hg], rfl, rfl, rfl, rfl, rfl, rfl, rfl, rfl, rfl⟩
  ports := fun q hq => by simp [State.seenAt, State.sighted, Ne.symm hq]
  sights := by simp [State.seenAt, State.sighted]

variable {u p r f}

theorem State.SightingOnly.setClaims {t : State} (h : u.SightingOnly t p r f) (c : Claims) :
    u.SightingOnly (t.setClaims f c) p r f where
  line := h.line
  picture := h.picture
  rest := by
    obtain ⟨fixtures, rest⟩ := h.rest
    exact ⟨fun g hg => by simpa [Ne.symm hg] using fixtures g hg, rest⟩
  ports := h.ports
  sights := h.sights

theorem State.SightingOnly.makeHoldOff {t : State} (h : u.SightingOnly t p r f) :
    u.SightingOnly (t.makeHoldOff r f) p r f where
  line := by simpa using h.line
  picture := by simpa using h.picture
  rest := by simpa [RestAs] using h.rest
  ports := by simpa using h.ports
  sights := by simpa using h.sights

end

/-- R80: time alone leaves no robot twice in a sight list. -/
theorem SightsBounded.advance_pairwise {s : State} (h : SightsBounded s) (dt : Nat) (p : PortNo) :
    ((s.advance dt).ports[p]).sights.Pairwise fun x y => x.robot ≠ y.robot := by
  obtain ⟨-, ports⟩ := h
  obtain ⟨-, pairwise, -⟩ := ports p
  cases hrun : s.running with
  | true => rw [State.advance_ports s dt hrun]; exact pairwise.filter _
  | false => rw [s.advance_stopped dt hrun]; exact pairwise

/-- The cases of a sighting at a fixture that refresh its robot and do nothing more (R16, R24, R33). -/
theorem actOn_onlySeen {u : State} {p : PortNo} {r : Robot} {i : BitVec 2} {f : FixtureNo} {c : FixtureConfig}
    (h : i = 0 ∨ i = 3 ∨ (i = 1 ∧ (IsHeldOff u f r ∨ IsPresentAt u f r)) ∨
      (i = 2 ∧ (¬IsPresentAt u f r ∨ (c.kind = .dispenser ∧ (u.fixture f).claims.holds r = true)))) :
    (u.seenAt p r i f).actOn f c r (Intent.ofValue i.toNat) = u.seenAt p r i f := by
  rcases h with rfl | rfl | ⟨rfl, h⟩ | ⟨rfl, h⟩
  · rfl
  · rfl
  · refine takeRequest_idle c ?_
    rwa [State.seenAt_heldOff, State.heldOff_iff, State.seenAt_holds, State.seenAt_queued, ← State.isPresentAt_iff]
  · rw [State.isPresentAt_iff, not_or, Bool.not_eq_true, Bool.not_eq_true] at h
    rcases h with ⟨hh, hq⟩ | ⟨hk, hh⟩
    · exact takeRelease_absent c (by simpa using hh) (by simpa using hq)
    · exact takeRelease_dispenser hk (by simpa using hh)

/-- The REQUEST that joins the wait queue (R28). -/
theorem actOn_joins {u : State} {p : PortNo} {r : Robot} {f : FixtureNo} {c : FixtureConfig} (hoff : ¬IsHeldOff u f r)
    (habsent : ¬IsPresentAt u f r) (hpass : firstFailure u f c r = none) (hstate : (u.fixture f).state = .held) :
    (u.seenAt p r 1 f).actOn f c r .request = joinQueue (u.sighted p r 1) f r := by
  rw [State.isPresentAt_iff, not_or, Bool.not_eq_true, Bool.not_eq_true] at habsent
  obtain ⟨hh, hq⟩ := habsent
  have hroom : (u.fixture f).claims.queue.length < 4 := by
    have := failsCheck_of_firstFailure_none hpass .full
    simpa [failsCheck, hstate] using this
  rw [State.seenAt_absent u p r 1 f hh hq]
  refine takeRequest_queued ?_ hh hq (State.claimFault_none hpass) hstate hroom
  rw [← State.heldOff_iff, Bool.not_eq_true] at hoff
  exact hoff

/-- The RELEASE of a robot that waits (R33). -/
theorem actOn_leaves {u : State} {p : PortNo} {r : Robot} {f : FixtureNo} (c : FixtureConfig)
    (hh : (u.fixture f).claims.holds r = false) (hq : (u.fixture f).claims.queued r = true) :
    (u.seenAt p r 2 f).actOn f c r .release = dropQueued (u.seenAt p r 2 f) f r :=
  takeRelease_queued c (by simpa using hh) (by simpa using hq)

/-- Settles O24: the outcome of `actOn` in each of the three cases; what is common to them is `SightingOnly`. -/
theorem requestIsSetAsideOrQueued : Obligations.RequestIsSetAsideOrQueued := by
  unfold Obligations.RequestIsSetAsideOrQueued
  intro s dt p r i f c hready hr hclaim hc halive u x onlySeen joins leaves hcase
  have hside : u.sideOf r = s.sideOf r := s.advance_sideOf dt r
  have hpresent : IsPresentAt u f r ↔ IsPresentAt s f r := by
    simp only [State.isPresentAt_iff, u, State.advance_holds, State.advance_queued]
  have hholds : (s.fixture f).claims.holder.map Holder.robot = some r ↔ x.claims.holds r = true := by
    rw [← Claims.holds_iff]; simp only [x, u, State.advance_holds]
  have hqueued : (∃ w ∈ (s.fixture f).claims.queue, w.robot = r) ↔ x.claims.queued r = true := by
    rw [← Claims.queued_iff]; simp only [x, u, State.advance_queued]
  have hstate : x.state = (s.fixture f).state := s.advance_fixture_state dt f
  obtain ⟨t, ht⟩ : ∃ t, (u.seenAt p r i f).actOn f c r (Intent.ofValue i.toNat) = t := ⟨_, rfl⟩
  have honly : onlySeen → t = u.seenAt p r i f := by
    intro h
    simp only [onlySeen, ← hpresent, hholds] at h
    exact ht ▸ actOn_onlySeen h
  have hjoin : joins → t = joinQueue (u.sighted p r i) f r ∧ u.seenAt p r i f = u.sighted p r i := by
    rintro ⟨rfl, hoff, habsent, hpass, hheld⟩
    rw [← hpresent] at habsent
    refine ⟨ht ▸ actOn_joins hoff habsent hpass (hstate.trans hheld), ?_⟩
    rw [State.isPresentAt_iff, not_or, Bool.not_eq_true, Bool.not_eq_true] at habsent
    exact u.seenAt_absent p r 1 f habsent.1 habsent.2
  have hleave : leaves → t = dropQueued (u.seenAt p r i f) f r ∧ x.claims.holds r = false := by
    rintro ⟨rfl, hne, hmem⟩
    rw [Ne, hholds, Bool.not_eq_true] at hne
    exact ⟨ht ▸ actOn_leaves c hne (hqueued.mp hmem), hne⟩
  have only : u.SightingOnly t p r f := by
    have seen := u.seenAt_only p r i f
    rcases hcase with h | h | h
    · exact honly h ▸ seen
    · obtain ⟨rfl, same⟩ := hjoin h
      exact (same ▸ seen).setClaims _
    · obtain ⟨rfl, -⟩ := hleave h
      exact (seen.setClaims _).makeHoldOff
  refine ⟨t, ht ▸ exec_sighting_at dt i hready hr hclaim hc halive, fun h => ?_, fun h => ?_, fun h => ?_, only.line,
    only.picture, only.rest, only.ports, fun hs => ?_⟩
  · obtain rfl := honly h
    exact ⟨u.seenAt_fixture p r i f, rfl⟩
  · obtain ⟨rfl, -⟩ := hjoin h
    rw [← hside]
    exact ⟨joinQueue_fixture _ f r, rfl⟩
  · obtain ⟨rfl, hh⟩ := hleave h
    refine ⟨?_, ?_⟩
    · rw [dropQueued_fixture, State.seenAt_fixture]
      exact congrArg (fun c => { u.fixture f with claims := c }) (Claims.refresh_without hh u.nowMs)
    · rw [dropQueued_holdOff, State.makeHoldOff_holdOff, State.makeHoldOff_holdOff]; rfl
  · rw [only.sights, ← hside]
    exact addSight_updates (SightsBounded.advance_pairwise hs dt p) _

end Sys2Proof.Machine
end

section
/-! Proofs, part 3: one walk through every command. `Kept P` lists what a property of states has to be kept by, operation
by operation; `Kept.exec` and `Kept.step` carry it through all commands. A property that a chapter states of every step
needs its own proof for those operations alone. -/

namespace Sys2Proof.Machine

/-! ## What only reports -/

/-- An update that touches the line controller and the field picture alone. -/
def OnlyReports (s t : State) : Prop := t = { s with line := t.line, picture := t.picture }

theorem OnlyReports.refl (s : State) : OnlyReports s s := rfl

theorem OnlyReports.trans {s t u : State} (h : OnlyReports s t) (k : OnlyReports t u) : OnlyReports s u := by
  unfold OnlyReports at *
  rw [k, h]

theorem onlyReports_raiseChange (s : State) : OnlyReports s s.raiseChange := by
  unfold State.raiseChange; split <;> rfl

theorem onlyReports_setEventsLost (s : State) : OnlyReports s s.setEventsLost := by
  unfold State.setEventsLost
  split
  · refine OnlyReports.trans (t := if s.picture.eventsLost then s else s.raiseChange) ?_ rfl
    split
    · exact .refl s
    · exact onlyReports_raiseChange s
  · exact .refl s

theorem onlyReports_createEvent (s : State) (k : EventKind) (f : Option FixtureNo) (r : Robot) (side : Side) (v : Nat) :
    OnlyReports s (s.createEvent k f r side v) := by
  unfold State.createEvent
  split
  · dsimp only
    split
    · rfl
    · exact OnlyReports.trans (t := { s with picture := _ }) rfl (onlyReports_setEventsLost _)
  · exact .refl s

theorem onlyReports_queueCommand (s : State) (c : Command) : OnlyReports s (s.queueCommand c) := by
  unfold State.queueCommand
  split
  · dsimp only
    split
    · rfl
    · split
      · exact OnlyReports.trans (t := { s with line := _ }) rfl (onlyReports_setEventsLost _)
      · exact .refl s
  · exact .refl s

theorem onlyReports_setPeer (s : State) (n : StationNo) (row : PeerRow) : OnlyReports s (s.setPeer n row) := by
  unfold State.setPeer; split <;> rfl

theorem onlyReports_enterMuted (s : State) (cause : MuteCause) : OnlyReports s (enterMuted s cause) :=
  OnlyReports.trans (t := { s with line := _ }) rfl (onlyReports_setEventsLost _)

theorem onlyReports_meetTwin (s : State) : OnlyReports s (meetTwin s) := by
  unfold meetTwin
  split
  · exact onlyReports_enterMuted s .twin
  · rfl

theorem onlyReports_abandon (cause : AbandonCause) (s : State) : OnlyReports s (State.abandon cause s) := by
  obtain ⟨l, h⟩ := State.abandon_line cause s
  rw [h]; rfl

theorem onlyReports_leaveMuted (s : State) : OnlyReports s (leaveMuted s) := by
  unfold leaveMuted
  split
  · exact .refl s
  · refine OnlyReports.trans ?_ (onlyReports_createEvent _ _ _ _ _ _)
    unfold raiseUnmuted
    split
    · rfl
    · exact OnlyReports.trans (t := { s with line := _ }) rfl (onlyReports_raiseChange _)

theorem onlyReports_beginHead (s : State) (h : Head) : OnlyReports s (beginHead s h) := by
  unfold beginHead
  split
  · rfl
  · rfl
  · split <;> rfl

theorem onlyReports_checkHead (s : State) : OnlyReports s (checkHead s) := by
  unfold checkHead
  split
  · exact .refl s
  · split
    · rfl
    · dsimp only; split <;> rfl
  · exact onlyReports_beginHead s _
  · exact onlyReports_beginHead s _

theorem onlyReports_abortAttempt (s : State) : OnlyReports s (abortAttempt s) := by
  unfold abortAttempt
  split
  · exact .refl s
  · dsimp only
    split
    · exact OnlyReports.trans (t := { s with line := _, picture := _ }) rfl (onlyReports_enterMuted _ _)
    · rfl

/-! ## The operations that commands are made of -/

/-- A property of states that the operations behind the commands keep, each under what the commands grant it. It may not
depend on the line controller, the field picture, the beacon ports and the commands waiting. -/
structure Kept (P : State → Prop) : Prop where
  pending : ∀ {s : State} l, P s → P { s with pending := l }
  advance : ∀ {s : State} d, P s → P (s.advance d)
  reporting : ∀ {s : State} l x, P s → P { s with line := l, picture := x }
  setPort : ∀ {s : State} p x, P s → P (s.setPort p x)
  clock : ∀ {s : State} c, c.phase = s.clock.phase → c.resume = s.clock.resume → c.periods = s.clock.periods →
    c.ends = s.clock.ends → P s → P { s with clock := c }
  sighting : ∀ {s : State} p r i, P s → P (sightingAtFixture s p r i)
  dropHoldOff : ∀ {s : State} r f, P s → P (dropHoldOff r f s)
  dropQueued : ∀ {s : State} f r, P s → P (dropQueued s f r)
  release : ∀ {s : State} f cause, P s → P (settle s [.release f cause])
  moveOn : ∀ {s : State} r, P s → P (settle s [.moveOn r])
  fixtureTick : ∀ {s : State} f, P s → P (fixtureTick s f)
  refill : ∀ {s : State} f, P s → P (refillFixture f s)
  endGrace : ∀ {s : State} f, (s.fixture f).liveGoal = true → P s → P (endGrace f s)
  jam : ∀ {s : State} f, (s.fixture f).liveGoal = true → P s → P (jamGoal f s)
  unjam : ∀ {s : State} f, (s.fixture f).liveGoal = true → P s → P (unjamGoal f s)
  endTransient : ∀ {s : State} f, P s → P (endTransient f s)
  sample : ∀ {s : State} pins, P s → P (sampleRecords s pins Input.sample)
  latch : ∀ {s : State} i, P s → P (s.setInput i { s.inputs.records[i] with latch := false })
  piece : ∀ {s : State} f, P s → P (takePiece s f)
  start : ∀ {s : State}, s.clock.phase = .idle → P s → P (applyStart s)
  halt : ∀ {s : State}, s.clock.phase ≠ .halted → P s → P (applyHalt s)
  resume : ∀ {s : State}, s.clock.phase = .halted → P s → P (applyResume s)
  clear : ∀ {s : State}, s.clock.phase.running = false → P s → P (applyClear s)
  nextPhase : ∀ {s : State}, P s → P (changePhase s s.clock.nextPhase)
  join : ∀ {s : State} row, P s → P (lateJoin s row)
  endPattern : ∀ {s : State} u, P s → P (endPatternPhase u s)
  endLamp : ∀ {s : State} u, P s → P (endLampPhase u s)

/-- Everything an expiry can come to: nothing, or its act once the missing time has passed. -/
theorem onExpiry_cases {wait : State → Option Nat} {act : State → State} {s t : State}
    (h : onExpiry wait act s = .next t) : t = s ∨ ∃ d, wait s = some d ∧ t = act (s.advance d) := by
  cases hw : wait s with
  | none => rw [onExpiry_none hw] at h; cases h; exact .inl rfl
  | some d => rw [onExpiry_some hw] at h; cases h; exact .inr ⟨d, rfl, rfl⟩

/-- A goal that is not DEAD stays one over time. -/
@[simp] theorem State.advance_liveGoal (s : State) (d : Nat) (f : FixtureNo) :
    ((s.advance d).fixture f).liveGoal = (s.fixture f).liveGoal := by
  simp [Fixture.liveGoal, Fixture.kind?]

/-! The premises that the waits of a goal's expiries give (R64, R67, R69). -/

theorem graceWait_liveGoal {f : FixtureNo} {s : State} {d : Nat} (h : graceWait f s = some d) :
    (s.fixture f).liveGoal = true := by
  simp only [graceWait] at h
  split at h
  · rename_i hg
    simp only [Bool.and_eq_true] at hg
    exact hg.1.1
  · cases h

theorem jamWait_liveGoal {f : FixtureNo} {s : State} {d : Nat} (h : jamWait f s = some d) :
    (s.fixture f).liveGoal = true := by
  simp only [jamWait] at h
  split at h
  · cases h
  · split at h
    · rename_i hg
      simp only [Bool.and_eq_true] at hg
      exact hg.1.1.1
    · cases h

theorem unjamWait_liveGoal {f : FixtureNo} {s : State} {d : Nat} (h : unjamWait f s = some d) :
    (s.fixture f).liveGoal = true := by
  simp only [unjamWait] at h
  split at h
  · rename_i hg
    simp only [Bool.and_eq_true] at hg
    exact hg.1.1.1
  · cases h

namespace Kept

variable {P : State → Prop} (k : Kept P)
include k

theorem reports {s t : State} (h : OnlyReports s t) (hs : P s) : P t := by
  rw [h]; exact k.reporting _ _ hs

theorem line {s : State} (l : Line) (h : P s) : P { s with line := l } := k.reporting l s.picture h

theorem picture {s : State} (x : Picture) (h : P s) : P { s with picture := x } := k.reporting s.line x h

theorem raiseChange {s : State} (h : P s) : P s.raiseChange := k.reports (onlyReports_raiseChange s) h

theorem queueCommand {s : State} (c : Command) (h : P s) : P (s.queueCommand c) :=
  k.reports (onlyReports_queueCommand s c) h

/-! ### The two shapes of a command -/

theorem expiry {wait : State → Option Nat} {act : State → State} {s t : State} (h : onExpiry wait act s = .next t)
    (hs : P s) (hact : ∀ d, wait s = some d → P (s.advance d) → P (act (s.advance d))) : P t := by
  rcases onExpiry_cases h with rfl | ⟨d, hd, rfl⟩
  · exact hs
  · exact hact d hd (k.advance d hs)

theorem timed {dt : Nat} {act : State → State} {s t : State} (h : afterTime dt act s = .next t) (hs : P s)
    (hact : ∀ u, P u → P (act u)) : P t := by
  cases h; exact hact _ (k.advance dt hs)

/-! ### Counted ticks (R90) -/

theorem ticking {s : State} (l : List FixtureNo) (h : P s) : P { s with clock := { s.clock with ticking := l } } :=
  k.clock _ rfl rfl rfl rfl h

theorem tickOn (fs : List FixtureNo) {s : State} (h : P s) : P (tickOn fs s) :=
  tickOn_keeps P (fun _ f => k.fixtureTick f) (fun _ l => k.ticking l) fs s h

theorem finishTick {s : State} (h : P s) : P (finishTick s) :=
  finishTick_keeps P (fun _ f => k.fixtureTick f) (fun _ l => k.ticking l) s h

theorem resumeTick {s : State} (h : P s) : P (resumeTick s) := by
  unfold Machine.resumeTick
  split
  · exact k.tickOn _ h
  · exact h

theorem countTick {s : State} (h : P s) : P (countTick s) :=
  k.tickOn _ (k.clock _ rfl rfl rfl rfl (k.finishTick h))

theorem endPeriod {s : State} (h : P s) : P (endPeriod s) :=
  k.nextPhase (s := { Machine.finishTick s with clock := { (Machine.finishTick s).clock with boundaryDue := false } })
    (k.clock _ rfl rfl rfl rfl (k.finishTick h))

/-! ### Match commands from every source (R97–R101) -/

theorem takeCommand {s : State} (c : Command) (h : P s) : P (takeCommand s c) := by
  unfold Machine.takeCommand
  split
  · exact h
  · split
    · exact k.queueCommand .halt h
    · split
      · exact h
      · rename_i haccepted
        cases c with
        | start => exact k.start (by simpa [Command.accepted] using haccepted) h
        | halt => exact k.halt (by simpa [Command.accepted] using haccepted) h
        | resume => exact k.resume (by simpa [Command.accepted] using haccepted) h
        | clear => exact k.clear (by simpa [Command.accepted] using haccepted) h

theorem localHalt {s : State} (mode : InputMode) (h : P s) : P (localHalt s mode) := by
  unfold Machine.localHalt
  split
  · cases mode with
    | edge => exact k.queueCommand .halt h
    | level => exact h
  · exact k.queueCommand .halt (k.halt ‹_› h)

theorem localCommand {s : State} (c : Command) (mode : InputMode) (h : P s) : P (localCommand s c mode) := by
  unfold Machine.localCommand
  split
  · exact k.localHalt mode h
  · split
    · exact k.queueCommand .halt h
    · split
      · exact h
      · exact k.queueCommand .resume h
  · split
    · exact h
    · exact k.queueCommand .start h
  · split
    · exact h
    · exact k.queueCommand .clear h

/-! ### Inputs (R127–R131) -/

theorem takeLatch {s : State} (i : InputNo) (h : P s) : P (takeLatch s i) := by
  unfold Machine.takeLatch
  dsimp only
  split
  · exact h
  · split
    · exact h
    · split
      · exact h
      · exact k.piece _ (k.latch i h)
    · exact k.localCommand _ _ (k.latch i h)

theorem takeLatches {s : State} (h : P s) : P (takeLatches s) :=
  List.foldlRecOn inputNumbers Machine.takeLatch (motive := P) h fun _ hs i _ => k.takeLatch i hs

/-! ### Sightings (R72–R78) -/

theorem takeSighting {s : State} (p : PortNo) (r : Robot) (i : Intent) (h : P s) : P (takeSighting s p r i) :=
  k.sighting p r i (k.setPort p _ h)

theorem judgeWord {s : State} (p : PortNo) (h : P s) : P (judgeWord s p) := by
  unfold Machine.judgeWord
  split
  · exact k.takeSighting p _ _ h
  · exact h

theorem completeWord {s : State} (p : PortNo) (r : Robot) (i : BitVec 2) (h : P s) : P (completeWord p r i s) := by
  unfold Machine.completeWord
  split
  · exact k.judgeWord p (k.setPort p _ h)
  · exact h

theorem changeLevel {s : State} (p : PortNo) (active : Bool) (h : P s) : P (changeLevel p active s) := by
  unfold Machine.changeLevel
  dsimp only
  split
  · exact h
  · split
    · exact k.setPort p _ h
    · split
      · exact k.setPort p _ h
      · split
        · exact k.judgeWord p (k.setPort p _ h)
        · exact k.setPort p _ h

/-! ### Frames (R110, R174, R175, R181) -/

theorem dualHold {s : State} (p : StationNo) (entries : List SummaryEntry) (h : P s) : P (dualHold s p entries) := by
  unfold Machine.dualHold
  split
  · refine List.foldlRecOn fixtureNumbers _ (motive := P) h fun u hu f _ => ?_
    split
    · exact k.release f .yield hu
    · exact hu
  · exact h

theorem takeStatus {s : State} (p : StationNo) (payload : List Byte) (h : P s) : P (takeStatus s p payload) := by
  unfold Machine.takeStatus
  split
  · exact h
  · split
    · exact h
    · have hrow := fun row => k.reports (onlyReports_setPeer s p row) h
      dsimp only
      split
      · exact k.join _ (k.dualHold p _ (hrow _))
      · exact hrow _

theorem takeFrame {s : State} (kind : FrameKind) (sender : StationNo) (payload : List Byte) (h : P s) :
    P (takeFrame s kind sender payload) := by
  have hsender := k.line { s.line with lastSender := sender } h
  have htwin : P (if sender = s.loader.station then meetTwin { s with line := { s.line with lastSender := sender } }
      else { s with line := { s.line with lastSender := sender } }) := by
    split
    · exact k.reports (onlyReports_meetTwin _) hsender
    · exact hsender
  unfold Machine.takeFrame
  dsimp only
  split
  · split
    · exact k.takeCommand _ htwin
    · exact htwin
  · exact k.takeStatus _ _ htwin
  · exact htwin

theorem receiveFrame {wanted : Judgement → Bool} {dt : Nat} {frame : List Byte} {s t : State}
    (h : receiveFrame wanted dt frame s = .next t) (hs : P s) : P t := by
  rcases receiveFrame_cases wanted dt frame s with ⟨e, -⟩ | ⟨-, -, -, e⟩
  · rw [e] at h; cases h; exact k.advance dt hs
  · rw [e] at h
    have hskip := fun d => k.line ((s.advance d).line.skip 0 0) (k.advance d hs)
    cases h
    split
    · exact k.takeFrame _ _ _ (hskip _)
    · exact hskip _
    · exact hskip _

theorem succeed {s : State} (h : P s) : P (succeed s) := by
  unfold Machine.succeed
  split
  · exact h
  · rename_i a ha
    dsimp only
    split
    · exact k.takeCommand _ (k.reporting _ _ h)
    · exact k.reporting _ _ h
    · exact k.reporting _ _ h

/-! ### Every command -/

/-- Every command but those of a reset and a load keeps such a property. -/
theorem exec {c : Instr} {s t : State} (hc : c.reconfigures = false) (h : exec c s = .next t) (hs : P s) : P t := by
  cases c with
  | reset _ => cases hc
  | loadEnd _ _ => cases hc
  | resetAsserted => cases hc
  | sighting dt p r i => exact k.timed (act := Machine.completeWord p r i) h hs fun _ => k.completeWord p r i
  | holdOffExpiry r f =>
    exact k.expiry (wait := holdOffWait r f) (act := Machine.dropHoldOff r f) h hs
      fun _ _ => k.dropHoldOff r f
  | sightExpiry p r => exact k.expiry (wait := sightWait p r) (act := dropSight p r) h hs fun _ _ => k.setPort p _
  | lost f =>
    exact k.expiry (wait := lostWait f) (act := fun s => settle s [.release f .lost]) h hs
      fun _ _ => k.release f .lost
  | queuedLost f r =>
    exact k.expiry (wait := queuedLostWait f r) (act := fun s => Machine.dropQueued s f r) h hs
      fun _ _ => k.dropQueued f r
  | overstay f =>
    obtain rfl := Host.Outcome.next.inj h
    split
    · exact k.resumeTick (k.release f .overstay hs)
    · exact hs
  | countedTick => exact k.expiry (wait := tickWait) (act := Machine.countTick) h hs fun _ _ => k.countTick
  | refill f =>
    obtain rfl := Host.Outcome.next.inj h
    split
    · exact k.resumeTick (k.refill f hs)
    · exact hs
  | periodEnd =>
    obtain rfl := Host.Outcome.next.inj h
    split
    · exact k.endPeriod hs
    · exact hs
  | graceEnd f =>
    exact k.expiry (wait := graceWait f) (act := Machine.endGrace f) h hs
      fun _ hw => k.endGrace f (by simpa using graceWait_liveGoal hw)
  | jam f =>
    exact k.expiry (wait := jamWait f) (act := jamGoal f) h hs
      fun _ hw => k.jam f (by simpa using jamWait_liveGoal hw)
  | unjam f =>
    exact k.expiry (wait := unjamWait f) (act := unjamGoal f) h hs
      fun _ hw => k.unjam f (by simpa using unjamWait_liveGoal hw)
  | transientEnd f =>
    exact k.expiry (wait := transientWait f) (act := Machine.endTransient f) h hs
      fun _ _ => k.endTransient f
  | inputSample pins =>
    exact k.expiry (wait := sampleWait) (act := fun s => Machine.takeLatches (sampleRecords s pins Input.sample)) h hs
      fun _ _ hu => k.takeLatches (k.sample pins hu)
  | start dt => exact k.timed (act := (Machine.takeCommand · .start)) h hs fun _ => k.takeCommand .start
  | halt dt => exact k.timed (act := (Machine.takeCommand · .halt)) h hs fun _ => k.takeCommand .halt
  | resume dt => exact k.timed (act := (Machine.takeCommand · .resume)) h hs fun _ => k.takeCommand .resume
  | clear dt => exact k.timed (act := (Machine.takeCommand · .clear)) h hs fun _ => k.takeCommand .clear
  | statusReceived dt frame => exact k.receiveFrame (wanted := Judgement.isValid .status) h hs
  | eventFrameReceived dt frame => exact k.receiveFrame (wanted := Judgement.isValid .event) h hs
  | frameDiscard dt frame => exact k.receiveFrame (wanted := (· == .discarded)) h hs
  | matchFrameReceived dt frame => exact k.receiveFrame (wanted := Judgement.isValid .command) h hs
  | frameAbandon dt cause =>
    change execFrameAbandon dt cause s = _ at h
    unfold execFrameAbandon at h
    split at h <;> obtain rfl := Host.Outcome.next.inj h
    · exact k.reports (onlyReports_abandon cause _) (k.advance _ hs)
    · exact k.advance dt hs
  | statusTimerExpiry => exact k.expiry (wait := statusWait) (act := raiseStatus) h hs fun _ _ => k.picture _
  | changeEligible => exact k.expiry (wait := changeWait) (act := id) h hs fun _ _ hu => hu
  | attemptBegin =>
    exact k.expiry (wait := attemptWait) (act := checkHead) h hs
      fun _ _ => k.reports (onlyReports_checkHead _)
  | attemptSuccess => exact k.expiry (wait := attemptLeft) (act := Machine.succeed) h hs fun _ _ => k.succeed
  | attemptAbort dt =>
    change execAttemptAbort dt s = _ at h
    rcases execAttemptAbort_cases dt s with ⟨e, -⟩ | ⟨a, d, -, -, e⟩
    · rw [e] at h; obtain rfl := Host.Outcome.next.inj h; exact k.advance dt hs
    · rw [e] at h; obtain rfl := Host.Outcome.next.inj h; exact k.reports (onlyReports_abortAttempt _) (k.advance d hs)
  | muteTimerExpiry =>
    exact k.expiry (wait := muteWait) (act := leaveMuted) h hs
      fun _ _ => k.reports (onlyReports_leaveMuted _)
  | patternPhaseEnd u =>
    exact k.expiry (wait := patternWait u) (act := endPatternPhase u) h hs
      fun _ _ => k.endPattern u
  | delayEnd r =>
    exact k.expiry (wait := delayWait r) (act := fun s => settle s [.moveOn r]) h hs
      fun _ _ => k.moveOn r
  | lampPhaseEnd u => exact k.expiry (wait := lampWait u) (act := endLampPhase u) h hs fun _ _ => k.endLamp u
  | beaconLevelChange dt p active =>
    exact k.timed (act := Machine.changeLevel p active) h hs fun _ => k.changeLevel p active
  | beaconWindowOverrun p => exact k.expiry (wait := overrunWait p) (act := overrun p) h hs fun _ _ => k.setPort p _
  | nonSyncCharacter dt line =>
    change execNonSyncCharacter dt line s = _ at h
    rcases execNonSyncCharacter_cases dt line s with ⟨e, -⟩ | ⟨heard, -, -, e⟩
    · rw [e] at h; obtain rfl := Host.Outcome.next.inj h; exact k.advance dt hs
    · rw [e] at h; obtain rfl := Host.Outcome.next.inj h; exact k.line _ (k.advance _ hs)
  | receiverReturnToHunt => exact k.expiry (wait := huntWait) (act := returnToHunt) h hs fun _ _ => k.line _

/-- The commands of a reset and a load keep it too, where it holds of a station at its start-up state and of one that has
just been configured. -/
theorem exec_reconfigures (restart : ∀ s l, P (State.restart s l))
    (configured : ∀ s records dominant pins, P (sampleRecords
      (showIndicators (State.configure s (readScript records) dominant)) pins Input.firstSample))
    {c : Instr} {s t : State} (hc : c.reconfigures = true) (h : Machine.exec c s = .next t) (hs : P s) : P t := by
  cases c with
  | reset straps => obtain rfl := Host.Outcome.next.inj h; exact restart s _
  | resetAsserted => obtain rfl := Host.Outcome.next.inj h; exact restart s _
  | loadEnd miso pins =>
    change execLoadEnd miso pins s = _ at h
    unfold execLoadEnd at h
    split at h
    · split at h <;> obtain rfl := Host.Outcome.next.inj h
      · exact k.takeLatches (k.raiseChange (configured s _ _ _))
      · exact k.line _ (restart s _)
    · obtain rfl := Host.Outcome.next.inj h; exact hs
  | _ => cases hc

/-- So every step keeps it. -/
theorem step (restart : ∀ s l, P (State.restart s l))
    (configured : ∀ s records dominant pins, P (sampleRecords
      (showIndicators (State.configure s (readScript records) dominant)) pins Input.firstSample))
    {s t : State} (hs : P s) (h : step s = .next t) : P t := by
  unfold Machine.step at h
  split at h
  · obtain rfl := Host.Outcome.next.inj h; exact k.advance 1 hs
  · rename_i c rest _
    cases hc : c.reconfigures with
    | false => exact k.exec hc h (k.pending rest hs)
    | true => exact k.exec_reconfigures restart configured hc h (k.pending rest hs)

end Kept

end Sys2Proof.Machine
end

section
/-! Proofs, part 4: properties that each block keeps by itself. `Blockwise P` says that no change of one block breaks `P`,
so long as it leaves the block's configuration (and the hold-off list is changed as R15 and R16 change it);
`Blockwise.kept` follows every operation behind the commands down to such changes. The configuration (O15) and the bound
of the hold-off list (O3) are two of them. -/

namespace Sys2Proof.Machine

/-! ## What the pulse units keep of their configuration -/

@[simp] theorem Lamp.run_map (l : Lamp) (p : Pulse) (t : LampTarget) : (l.run p t).map = l.map := rfl

@[simp] theorem Lamp.take_map (l : Lamp) (p : Pulse) (atOnce : Bool) (t : LampTarget) :
    (l.take p atOnce t).map = l.map := by
  unfold Lamp.take
  split
  · rfl
  · split <;> rfl

@[simp] theorem Lamp.phaseEnd_map (l : Lamp) (p : Pulse) : (l.phaseEnd p).map = l.map := by
  unfold Lamp.phaseEnd; split <;> rfl

@[simp] theorem PulseUnit.handOver_map (x : PulseUnit) (p : Pulse) (i : Indicator) :
    (x.handOver p i).lamp.map = x.lamp.map := by simp [PulseUnit.handOver]

/-- The unit has the binding and the state map it had. -/
def PulseUnit.SetAs (x y : PulseUnit) : Prop := y.binding = x.binding ∧ y.lamp.map = x.lamp.map

/-- The pair has the mode and the prescaler's counts and clock it had. -/
def Pair.SetAs (x y : Pair) : Prop := y.mode = x.mode ∧ y.high = x.high ∧ y.low = x.low ∧ y.clock = x.clock

/-- The pulse units are set as they were (R154, R164). -/
structure Pulse.SetAs (p q : Pulse) : Prop where
  units : ∀ u : UnitNo, p.units[u].SetAs q.units[u]
  pairs : ∀ i : PairNo, p.pairs[i].SetAs q.pairs[i]
  patterns : q.patterns = p.patterns

theorem Pulse.SetAs.refl (p : Pulse) : p.SetAs p := ⟨fun _ => ⟨rfl, rfl⟩, fun _ => ⟨rfl, rfl, rfl, rfl⟩, rfl⟩

theorem Pulse.advance_setAs (p : Pulse) (d : Nat) : p.SetAs (p.advance d) where
  units u := by simpa [Pulse.advance, PulseUnit.advance] using ⟨rfl, rfl⟩
  pairs i := by simpa [Pulse.advance, Pair.advance] using ⟨rfl, rfl, rfl, rfl⟩
  patterns := rfl

theorem Pulse.SetAs.setUnit {p : Pulse} {u : UnitNo} {x : PulseUnit} (h : p.units[u].SetAs x) :
    p.SetAs { p with units := put p.units u x } where
  units v := by
    rw [put_get]
    split
    · rename_i e; exact e ▸ h
    · exact ⟨rfl, rfl⟩
  pairs _ := ⟨rfl, rfl, rfl, rfl⟩
  patterns := rfl

/-- A change made to every unit that leaves each one's binding and state map. -/
theorem Pulse.SetAs.mapUnits {p : Pulse} {g : UnitNo → PulseUnit} (h : ∀ u : UnitNo, p.units[u].SetAs (g u)) :
    p.SetAs { p with units := Vector.ofFn g } where
  units u := by simpa using h u
  pairs _ := ⟨rfl, rfl, rfl, rfl⟩
  patterns := rfl

theorem Pulse.drive_setAs (p : Pulse) (u : UnitNo) (r : RunnerId) (t : Step) : p.SetAs (p.drive u r t) where
  units v := by
    show p.units[v].SetAs (put p.units u _)[v]
    rw [put_get]
    split
    · rename_i e; subst e; exact ⟨rfl, rfl⟩
    · exact ⟨rfl, rfl⟩
  pairs i := by
    show p.pairs[i].SetAs (put p.pairs (pairOf u) _)[i]
    rw [put_get]
    split
    · rename_i e; subst e; unfold Pair.restart; split <;> exact ⟨rfl, rfl, rfl, rfl⟩
    · exact ⟨rfl, rfl, rfl, rfl⟩
  patterns := rfl

theorem Pulse.stop_setAs (p : Pulse) (r : RunnerId) : p.SetAs (p.stop r) :=
  .mapUnits fun u => by dsimp only; split <;> exact ⟨rfl, rfl⟩

theorem Pulse.retarget_setAs (p : Pulse) (began : Bool) : p.SetAs (p.retarget began) :=
  .mapUnits fun u => by
    dsimp only
    split
    · exact ⟨rfl, Lamp.take_map _ _ _ _⟩
    · exact ⟨rfl, rfl⟩

theorem Pulse.enterSafe_setAs (p : Pulse) : p.SetAs p.enterSafe := by
  unfold Pulse.enterSafe
  split
  · exact .refl p
  · obtain ⟨units, pairs, patterns⟩ := Pulse.retarget_setAs { p with safe := true } true
    exact ⟨units, pairs, patterns⟩

theorem Pulse.leaveSafe_setAs (p : Pulse) : p.SetAs p.leaveSafe := by
  unfold Pulse.leaveSafe
  split
  · obtain ⟨units, pairs, patterns⟩ := Pulse.retarget_setAs { p with safe := false } false
    exact ⟨units, pairs, patterns⟩
  · exact .refl p

/-! ## Changes of one block -/

/-- The input record has the polarity, mode and route it had (R126). -/
def Input.SetAs (x y : Input) : Prop := y.polarity = x.polarity ∧ y.mode = x.mode ∧ y.route = x.route

theorem Input.sample_setAs (x : Input) (high : Bool) : x.SetAs (x.sample high) := by
  have qualify : x.SetAs (x.qualify (x.sees high)) := by
    unfold Input.qualify
    split
    · exact ⟨rfl, rfl, rfl⟩
    · split <;> exact ⟨rfl, rfl, rfl⟩
  unfold Input.sample
  split
  · exact qualify
  · exact ⟨rfl, rfl, rfl⟩

theorem Input.firstSample_setAs (x : Input) (high : Bool) : x.SetAs (x.firstSample high) := by
  unfold Input.firstSample; split <;> exact ⟨rfl, rfl, rfl⟩

@[simp] theorem Fixture.resetAllowance_config (x : Fixture) : x.resetAllowance.config = x.config := by
  unfold Fixture.resetAllowance
  split
  · split
    · split <;> rfl
    all_goals rfl
  · rfl

@[simp] theorem Fixture.cleared_config (x : Fixture) : x.cleared.config = x.config := by
  unfold Fixture.cleared; split <;> rfl

@[simp] theorem Fixture.inputChanged_config (x : Fixture) (changed : Bool) :
    (x.inputChanged changed).config = x.config := by
  unfold Fixture.inputChanged; split <;> rfl

/-! ### START and CLEAR in their steps (R92, R95) -/

/-- A station as START changes its phase. -/
def State.startBegun (s : State) : State :=
  { s with
    clock := { s.clock with tick := 0, tenth := 0, boundaryDue := false, ticking := [] }
    engine := { s.engine with fixtures := Vector.ofFn fun i => s.engine.fixtures[i].resetAllowance } }

theorem applyStart_eq (s : State) : applyStart s = changePhase s.startBegun s.clock.firstPhase := rfl

/-- A station as CLEAR has cleared its match, its fixtures and its hold-off list. -/
def State.fixturesCleared (s : State) : State :=
  { s with
    clock := { s.clock with phase := .idle, resume := .idle, tick := 0, tenth := 0, boundaryDue := false, ticking := [] }
    engine := { s.engine with
      fixtures := Vector.ofFn fun i => s.engine.fixtures[i].cleared
      holdOff := []
      points := PerSide.all 0 } }

/-- What CLEAR does once the runners have stopped. -/
def State.clearEnded (s : State) : State :=
  { s with
    runners := { s.runners with fault := false }
    pulse := s.pulse.leaveSafe
    picture := { s.picture with eventsLost := false } }.raiseChange

theorem applyClear_eq (s : State) :
    applyClear s = (haltRunners (fixtureNumbers.foldl State.refreshIndicator s.fixturesCleared)).clearEnded := by
  unfold applyClear State.clearEnded State.fixturesCleared; with_reducible rfl

/-- What R15 and R16 make of the hold-off list: an entry is made, or entries go. -/
def HoldOffsChange (l m : List HoldOff) : Prop := (∃ e, m = addHoldOff l e) ∨ m.Sublist l

/-- A property that survives any change of one block which leaves the block's configuration. -/
structure Blockwise (P : State → Prop) : Prop where
  pending : ∀ {s : State} l, P s → P { s with pending := l }
  advance : ∀ {s : State} d, P s → P (s.advance d)
  reporting : ∀ {s : State} l x, P s → P { s with line := l, picture := x }
  ports : ∀ {s : State} v, P s → P { s with ports := v }
  clock : ∀ {s : State} c, P s → c.periods = s.clock.periods → c.ends = s.clock.ends → P { s with clock := c }
  inputs : ∀ {s : State} x, P s → (∀ i : InputNo, s.inputs.records[i].SetAs x.records[i]) → P { s with inputs := x }
  runners : ∀ {s : State} x, P s → x.store = s.runners.store → P { s with runners := x }
  pulse : ∀ {s : State} p, P s → s.pulse.SetAs p → P { s with pulse := p }
  fixtures : ∀ {s : State} v, P s → (∀ f : FixtureNo, v[f].config = (s.fixture f).config) →
    P { s with engine := { s.engine with fixtures := v } }
  points : ∀ {s : State} x, P s → P { s with engine := { s.engine with points := x } }
  holdOff : ∀ {s : State} l, P s → HoldOffsChange s.engine.holdOff l → P (s.setHoldOff l)

namespace Blockwise

variable {P : State → Prop} (k : Blockwise P)
include k

/-! ### Shared operations -/

theorem reports {s t : State} (h : OnlyReports s t) (hs : P s) : P t := by
  rw [h]; exact k.reporting _ _ hs

theorem raiseChange {s : State} (h : P s) : P s.raiseChange := k.reports (onlyReports_raiseChange s) h

theorem createEvent {s : State} (e : EventKind) (f : Option FixtureNo) (r : Robot) (side : Side) (v : Nat) (h : P s) :
    P (s.createEvent e f r side v) := k.reports (onlyReports_createEvent s e f r side v) h

theorem setFixture {s : State} (f : FixtureNo) {x : Fixture} (hx : x.config = (s.fixture f).config) (h : P s) :
    P (s.setFixture f x) :=
  k.fixtures _ h fun g => by rw [put_get]; split <;> simp_all [State.fixture]

theorem setClaims {s : State} (f : FixtureNo) (c : Claims) (h : P s) : P (s.setClaims f c) := k.setFixture f rfl h

theorem setFixtureState {s : State} (f : FixtureNo) (st : FixtureState) (h : P s) : P (s.setFixtureState f st) :=
  k.setFixture f rfl h

theorem makeHoldOff {s : State} (r : Robot) (f : FixtureNo) (h : P s) : P (s.makeHoldOff r f) := by
  unfold State.makeHoldOff
  split
  · exact h
  · exact k.holdOff _ h (.inl ⟨_, rfl⟩)

theorem setUnit {s : State} {u : UnitNo} {x : PulseUnit} (hx : s.pulse.units[u].SetAs x) (h : P s) : P (s.setUnit u x) :=
  k.pulse _ h (.setUnit hx)

theorem setRunner {s : State} (r : RunnerId) (x : Runner) (h : P s) : P (s.setRunner r x) := by
  cases r <;> exact k.runners _ h rfl

theorem handOver {s : State} (f : FixtureNo) (i : Indicator) (h : P s) : P (s.handOver f i) := by
  unfold State.handOver
  split
  · exact h
  · exact k.setUnit ⟨rfl, PulseUnit.handOver_map _ _ _⟩ h

theorem refreshIndicator {s : State} (f : FixtureNo) (h : P s) : P (s.refreshIndicator f) := by
  unfold State.refreshIndicator
  dsimp only
  split
  · exact h
  · exact k.handOver f _ (k.setFixture f (by rfl) h)

theorem startTransient {s : State} (f : FixtureNo) (t : Transient) (h : P s) : P (s.startTransient f t) :=
  k.refreshIndicator f (k.setFixture f (by rfl) h)

theorem setRunnerFault {s : State} (h : P s) : P s.setRunnerFault := by
  unfold State.setRunnerFault
  dsimp only
  split
  · exact k.runners _ h rfl
  · exact k.raiseChange (k.runners _ h rfl)

/-! ### Tasks (R27, R34–R36, R40–R42, R141–R149) -/

theorem performStart {s : State} (r : RunnerId) (t : Start) (h : P s) : P (performStart s r t).1 := by
  unfold Machine.performStart
  dsimp only
  split
  · exact h
  · split
    · exact k.setRunner r _ h
    all_goals
      split
      · exact k.setRunner r _ h
      · exact k.createEvent _ _ _ _ _ h

theorem issue {s : State} (r : RunnerId) (u : UnitNo) (t : Step) (h : P s) : P (issue s r u t).1 := by
  have hdrive := k.pulse _ h (Pulse.drive_setAs s.pulse u r t)
  unfold Machine.issue
  dsimp only
  split <;> exact k.setRunner r _ hdrive

theorem abortAt {s : State} (r : RunnerId) (i : StepNo) (h : P s) : P (abortAt s r i).1 :=
  k.setRunner r _ (k.pulse _ h (Pulse.stop_setAs s.pulse r))

theorem performArrive {s : State} (r : RunnerId) (h : P s) : P (performArrive s r).1 := by
  unfold Machine.performArrive
  dsimp only
  split
  · exact h
  · split
    · exact k.abortAt r _ h
    · split
      · exact k.setRunner r _ h
      · split
        · exact k.issue r _ _ h
        · exact k.setRunner r _ h

theorem performMoveOn {s : State} (r : RunnerId) (h : P s) : P (performMoveOn s r).1 := by
  unfold Machine.performMoveOn
  dsimp only
  split
  · exact h
  · split
    · split <;> exact k.setRunner r _ h
    · split
      · exact k.setRunner r _ h
      · exact k.abortAt r _ h

theorem performUnitFreed {s : State} (u : UnitNo) (h : P s) : P (performUnitFreed s u).1 := by
  unfold Machine.performUnitFreed
  split
  · exact h
  · split
    · exact h
    · split
      · exact h
      · exact k.issue _ u _ h

theorem performAbortTail {s : State} (r : RunnerId) (i : StepNo) (h : P s) : P (performAbortTail s r i).1 := by
  unfold Machine.performAbortTail
  split
  · exact h
  · exact k.setRunnerFault (k.createEvent _ _ _ _ _ h)

theorem performNextList {s : State} (r : RunnerId) (h : P s) : P (performNextList s r).1 := by
  unfold Machine.performNextList
  dsimp only
  split <;> exact k.setRunner r _ h

theorem performReport {s : State} (f : FixtureNo) (r : Report) (h : P s) : P (performReport s f r).1 := by
  have ends (cause : ReleaseCause) : P (endDispense s f cause).1 := by
    unfold endDispense
    dsimp only
    split <;> exact k.setClaims f _ h
  unfold Machine.performReport
  dsimp only
  split
  · exact h
  · split
    · exact k.setClaims f _ h
    · exact h
    all_goals exact ends _

theorem performRelease {s : State} (f : FixtureNo) (cause : ReleaseCause) (h : P s) :
    P (performRelease s f cause).1 := by
  unfold Machine.performRelease
  dsimp only
  split
  · exact k.setFixture f (by rfl) h
  · exact h

theorem performReleaseTail {s : State} (f : FixtureNo) (robot : Robot) (side : Side) (cause : ReleaseCause) (h : P s) :
    P (performReleaseTail s f robot side cause).1 := by
  have hsent := k.raiseChange
    (k.createEvent (.release cause) (some f) robot side ((s.fixture f).eventValue side) h)
  unfold Machine.performReleaseTail
  dsimp only
  split
  · exact k.makeHoldOff robot f hsent
  · exact hsent

theorem performPromote {s : State} (f : FixtureNo) (h : P s) : P (performPromote s f).1 := by
  unfold Machine.performPromote
  dsimp only
  split
  · exact h
  · split
    · exact k.refreshIndicator f (k.setFixtureState f _ h)
    · split
      · exact k.makeHoldOff _ f (k.setClaims f _ h)
      · exact k.setClaims f _ h

theorem performGrant {s : State} (f : FixtureNo) (robot : Robot) (side : Side) (seen age : Nat) (h : P s) :
    P (performGrant s f robot side seen age).1 := by
  unfold Machine.performGrant
  dsimp only
  split
  · exact h
  · exact k.refreshIndicator f (k.raiseChange (k.createEvent _ _ _ _ _ (k.setFixture f (by rfl) h)))

theorem performPhaseRelease {s : State} (f : FixtureNo) (h : P s) : P (performPhaseRelease s f).1 := by
  unfold Machine.performPhaseRelease
  dsimp only
  split
  · exact k.setFixture f (by rfl) h
  · exact h

theorem performPhaseTail {s : State} (f : FixtureNo) (robot : Robot) (side : Side) (h : P s) :
    P (performPhaseTail s f robot side).1 :=
  k.refreshIndicator f (k.raiseChange (k.setClaims f _ (k.createEvent _ _ _ _ _ h)))

theorem perform {s : State} (t : Task) (h : P s) : P (perform s t).1 := by
  cases t with
  | arrive r => exact k.performArrive r h
  | moveOn r => exact k.performMoveOn r h
  | unitFreed u => exact k.performUnitFreed u h
  | abortTail r i => exact k.performAbortTail r i h
  | nextList r => exact k.performNextList r h
  | start r t => exact k.performStart r t h
  | report f r => exact k.performReport f r h
  | release f cause => exact k.performRelease f cause h
  | releaseTail f robot side cause => exact k.performReleaseTail f robot side cause h
  | promote f => exact k.performPromote f h
  | grant f robot side seen age => exact k.performGrant f robot side seen age h
  | phaseRelease f => exact k.performPhaseRelease f h
  | phaseTail f robot side => exact k.performPhaseTail f robot side h

theorem settle {s : State} (ts : List Task) (h : P s) : P (settle s ts) :=
  settle_keeps P (fun _ t => k.perform t) s ts h

/-! ### Notices and match commands (R5–R7, R92–R96, R104, R150) -/

theorem claimNotice {s : State} (f : FixtureNo) (c : FixtureConfig) (new : Phase) (h : P s) :
    P (claimNotice s f c new) := by
  unfold Machine.claimNotice
  split
  · exact k.raiseChange (k.setFixtureState f _ h)
  · exact k.raiseChange (k.setFixtureState f _ h)
  · exact k.settle _ h
  · exact h

theorem zoneNotice {s : State} (f : FixtureNo) (c : FixtureConfig) (new : Phase) (h : P s) :
    P (zoneNotice s f c new) := by
  unfold Machine.zoneNotice
  dsimp only
  split
  · exact k.raiseChange (k.setFixture f (by rfl) h)
  · exact k.raiseChange (k.setFixture f (by rfl) h)
  · exact h

theorem goalNotice {s : State} (f : FixtureNo) (c : FixtureConfig) (grace : Nat) (old new : Phase) (h : P s) :
    P (goalNotice s f c grace old new) := by
  unfold Machine.goalNotice
  dsimp only
  split
  · exact k.raiseChange (k.setFixtureState f _ h)
  · split
    · exact k.raiseChange (k.setFixtureState f _ h)
    · exact k.raiseChange (k.setFixture f (by rfl) h)
  · exact h

theorem fixtureNotice {s : State} (old new : Phase) (f : FixtureNo) (h : P s) : P (fixtureNotice old new s f) := by
  refine k.refreshIndicator f ?_
  split
  · exact h
  · split
    · exact h
    · split
      · exact k.claimNotice f _ new h
      · exact k.claimNotice f _ new h
      · exact k.zoneNotice f _ new h
      · exact k.goalNotice f _ _ old new h

theorem haltRunner {s : State} (r : RunnerId) (h : P s) : P (haltRunner s r) :=
  k.settle _ (k.setRunner r _ (k.pulse _ h (Pulse.stop_setAs s.pulse r)))

theorem haltRunners {s : State} (h : P s) : P (haltRunners s) := k.haltRunner .B (k.haltRunner .A h)

theorem announce {s : State} (old : Phase) (h : P s) : P (announce s old) := by
  have noticed : P (fixtureNumbers.foldl (Machine.fixtureNotice old s.clock.phase) s) :=
    List.foldlRecOn _ _ (motive := P) h fun _ hu f _ => k.fixtureNotice old _ f hu
  unfold Machine.announce
  dsimp only
  split
  · exact k.raiseChange (k.pulse _ (k.haltRunners noticed) (Pulse.enterSafe_setAs _))
  · exact k.raiseChange (k.pulse _ noticed (Pulse.leaveSafe_setAs _))

theorem changePhase {s : State} (new : Phase) (h : P s) : P (changePhase s new) :=
  k.announce _ (k.clock { s.clock with phase := new } h rfl rfl)

theorem applyStart {s : State} (h : P s) : P (applyStart s) := by
  rw [applyStart_eq]
  have allowed : P { s with engine := { s.engine with
      fixtures := Vector.ofFn fun i => s.engine.fixtures[i].resetAllowance } } :=
    k.fixtures _ h fun f => by simp [State.fixture]
  have begun := k.clock { s.clock with tick := 0, tenth := 0, boundaryDue := false, ticking := [] } allowed rfl rfl
  exact k.changePhase _ begun

theorem applyHalt {s : State} (h : P s) : P (applyHalt s) :=
  k.changePhase _ (k.clock { s.clock with resume := s.clock.phase } h rfl rfl)

theorem fixturesCleared {s : State} (h : P s) : P s.fixturesCleared := by
  have cleared : P { s with engine := { s.engine with
      fixtures := Vector.ofFn fun i => s.engine.fixtures[i].cleared } } :=
    k.fixtures _ h fun f => by simp [State.fixture]
  have emptied := k.points (PerSide.all 0) (k.holdOff [] cleared (.inr (List.nil_sublist _)))
  have idle := k.clock { s.clock with
    phase := .idle, resume := .idle, tick := 0, tenth := 0, boundaryDue := false, ticking := [] } emptied rfl rfl
  exact idle

theorem clearEnded {s : State} (h : P s) : P s.clearEnded := by
  have quiet := k.runners { s.runners with fault := false } h rfl
  have lit := k.pulse _ quiet (Pulse.leaveSafe_setAs s.pulse)
  have told := k.reporting s.line { s.picture with eventsLost := false } lit
  exact k.raiseChange told

theorem applyClear {s : State} (h : P s) : P (applyClear s) := by
  rw [applyClear_eq]
  exact k.clearEnded (k.haltRunners (List.foldlRecOn fixtureNumbers State.refreshIndicator (motive := P)
    (k.fixturesCleared h) fun _ hu f _ => k.refreshIndicator f hu))

theorem lateJoin {s : State} (row : PeerRow) (h : P s) : P (lateJoin s row) := by
  unfold Machine.lateJoin
  split
  · refine k.changePhase _ (k.clock _ h ?_ ?_) <;> split <;> rfl
  · exact h

/-! ### Ticks (R30, R39, R48, R54) -/

theorem zoneTick {s : State} (f : FixtureNo) (c : FixtureConfig) (cmax rateCap : Nat) (h : P s) :
    P (zoneTick s f c cmax rateCap) := by
  have controlled := k.setFixture f (x := { s.fixture f with
    control := (s.fixture f).control.tick cmax (s.zoneRates c rateCap) }) rfl h
  unfold Machine.zoneTick
  dsimp only
  split
  · split
    · exact k.refreshIndicator f controlled
    · exact k.refreshIndicator f (k.raiseChange controlled)
  · rename_i hne
    rw [if_neg fun e => hne e.1]
    exact k.settle _ (k.refreshIndicator f (k.raiseChange (k.createEvent _ _ _ _ _ controlled)))

theorem fixtureTick {s : State} (f : FixtureNo) (h : P s) : P (fixtureTick s f) := by
  unfold Machine.fixtureTick
  dsimp only
  split
  · exact h
  · split
    · exact h
    · split
      · unfold gateTick
        dsimp only
        split
        · exact k.setClaims f _ h
        · exact h
      · unfold dispenserTick
        dsimp only
        split
        · exact k.setClaims f _ h
        · exact h
      · split
        · exact k.zoneTick f _ _ _ h
        · exact h
      · exact h

theorem refill {s : State} (f : FixtureNo) (h : P s) : P (refillFixture f s) := by
  unfold refillFixture
  dsimp only
  split
  · exact h
  · split
    · exact k.setClaims f _ h
    all_goals exact h

/-! ### Goals (R57–R69) -/

theorem endGrace {s : State} (f : FixtureNo) (h : P s) : P (endGrace f s) := by
  unfold Machine.endGrace
  dsimp only
  split
  · exact h
  · split
    · exact k.setFixture f (by rfl) h
    · exact k.refreshIndicator f (k.raiseChange (k.setFixture f (by rfl) h))

theorem jam {s : State} (f : FixtureNo) (h : P s) : P (jamGoal f s) :=
  k.refreshIndicator f (k.raiseChange (k.createEvent _ _ _ _ _ (k.setFixture f (by rfl) h)))

theorem unjam {s : State} (f : FixtureNo) (h : P s) : P (unjamGoal f s) := by
  unfold unjamGoal
  dsimp only
  split
  · exact h
  · exact k.refreshIndicator f (k.raiseChange (k.createEvent _ _ _ _ _ (k.setFixture f (by rfl) h)))

theorem takePiece {s : State} (f : FixtureNo) (h : P s) : P (takePiece s f) := by
  have counted (c : FixtureConfig) (rule : Option CreditRule) (values : PerPhase) (phase : Phase) :
      P (countPiece s f c rule values phase) :=
    k.settle _ (k.startTransient f _ (k.raiseChange (k.createEvent _ _ _ _ _
      (k.points _ (k.setFixture f (by rfl) h)))))
  unfold Machine.takePiece
  dsimp only
  split
  · exact h
  · split
    · split
      · exact h
      · split
        · exact counted _ _ _ _
        · split
          · exact counted _ _ _ _
          · exact h
        all_goals exact h
    all_goals exact h

/-! ### Inputs, sightings, patterns and lamps -/

theorem sampleRecords {s : State} (pins : BitVec 12) {sample : Input → Bool → Input}
    (hsample : ∀ (x : Input) high, x.SetAs (sample x high)) (h : P s) : P (sampleRecords s pins sample) := by
  have judged (g : FixtureNo → Bool) : P { s with engine := { s.engine with
      fixtures := Vector.ofFn fun i => s.engine.fixtures[i].inputChanged (g i) } } :=
    k.fixtures _ h fun f => by simp [State.fixture]
  have sampled (g : FixtureNo → Bool) : P { s with
      inputs := ⟨Vector.ofFn fun i => sample s.inputs.records[i] (pins.getLsbD i.val), 0, pins⟩
      engine := { s.engine with fixtures := Vector.ofFn fun i => s.engine.fixtures[i].inputChanged (g i) } } :=
    k.inputs _ (judged g) fun i => by simpa using hsample _ _
  unfold Machine.sampleRecords
  dsimp only
  split
  · exact sampled _
  · exact k.raiseChange (sampled _)

theorem latch {s : State} (i : InputNo) (h : P s) : P (s.setInput i { s.inputs.records[i] with latch := false }) :=
  k.inputs _ h fun j => by
    show s.inputs.records[j].SetAs (put s.inputs.records i _)[j]
    rw [put_get]
    split
    · rename_i e; subst e; exact ⟨rfl, rfl, rfl⟩
    · exact ⟨rfl, rfl, rfl⟩

theorem dropQueued {s : State} (f : FixtureNo) (r : Robot) (h : P s) : P (dropQueued s f r) :=
  k.makeHoldOff r f (k.setClaims f _ h)

theorem takeRequest {s : State} (f : FixtureNo) (c : FixtureConfig) (r : Robot) (h : P s) :
    P (takeRequest s f c r) := by
  unfold Machine.takeRequest
  split
  · exact h
  · exact h
  · exact k.startTransient f _ (k.makeHoldOff r f h)
  · exact k.settle _ h
  · exact k.setClaims f _ h

theorem takeRelease {s : State} (f : FixtureNo) (c : FixtureConfig) (r : Robot) (h : P s) :
    P (takeRelease s f c r) := by
  unfold Machine.takeRelease
  dsimp only
  split
  · split
    · exact k.settle _ h
    all_goals exact h
  · split
    · exact k.dropQueued f r h
    · exact h

theorem sighting {s : State} (p : PortNo) (r : Robot) (i : Intent) (h : P s) : P (sightingAtFixture s p r i) := by
  unfold sightingAtFixture
  split
  · exact h
  · split
    · exact h
    · split
      · exact h
      · have seen := k.setClaims ‹FixtureNo› ((s.fixture ‹FixtureNo›).claims.refresh r s.nowMs) h
        cases i with
        | present => exact seen
        | request => exact k.takeRequest _ _ r seen
        | release => exact k.takeRelease _ _ r seen

theorem endPattern {s : State} (u : UnitNo) (h : P s) : P (endPatternPhase u s) := by
  have ends : P (Machine.endPattern s u) := by
    have freed := k.setUnit (u := u) (x := s.pulse.units[u].released) ⟨rfl, rfl⟩ h
    unfold Machine.endPattern
    dsimp only
    split
    · exact freed
    · exact k.settle _ freed
  unfold endPatternPhase
  split
  · exact h
  · split
    · exact k.setUnit ⟨rfl, rfl⟩ h
    · exact ends

/-- Such a property is kept by everything that commands are made of. -/
theorem kept : Kept P where
  pending := k.pending
  advance := k.advance
  reporting := k.reporting
  setPort p x h := k.ports _ h
  clock c _ _ hp he h := k.clock c h hp he
  sighting := k.sighting
  dropHoldOff r f h := k.holdOff _ h (.inr List.filter_sublist)
  dropQueued := k.dropQueued
  release f cause h := k.settle _ h
  moveOn r h := k.settle _ h
  fixtureTick := k.fixtureTick
  refill := k.refill
  endGrace f _ h := k.endGrace f h
  jam f _ h := k.jam f h
  unjam f _ h := k.unjam f h
  endTransient f h := k.refreshIndicator f (k.setFixture f (by rfl) h)
  sample pins h := k.sampleRecords pins Input.sample_setAs h
  latch := k.latch
  piece := k.takePiece
  start _ h := k.applyStart h
  halt _ h := k.applyHalt h
  resume _ h := k.changePhase _ h
  clear _ h := k.applyClear h
  nextPhase h := k.changePhase _ h
  join := k.lateJoin
  endPattern := k.endPattern
  endLamp u h := k.setUnit ⟨rfl, Lamp.phaseEnd_map _ _⟩ h

end Blockwise

/-! ## The configuration stays (O15) -/

theorem map_toList_congr {α β : Type} {n : Nat} {v w : Vector α n} {g : α → β}
    (h : ∀ i : Fin n, g v[i] = g w[i]) : v.toList.map g = w.toList.map g :=
  List.ext_getElem (by simp) fun i hi _ => by simpa using h ⟨i, by simpa using hi⟩

/-- The configuration is read from these registers alone. -/
theorem configuration_congr {s t : State} (loader : t.loader = s.loader) (settings : t.settings = s.settings)
    (fixtures : ∀ f, (t.fixture f).config = (s.fixture f).config) (sides : t.engine.sideTable = s.engine.sideTable)
    (periods : t.clock.periods = s.clock.periods) (ends : t.clock.ends = s.clock.ends)
    (inputs : ∀ i : InputNo, s.inputs.records[i].SetAs t.inputs.records[i])
    (store : t.runners.store = s.runners.store) (pulse : s.pulse.SetAs t.pulse) :
    t.configuration = s.configuration := by
  have hfixtures : t.engine.fixtures.toList.map Fixture.config = s.engine.fixtures.toList.map Fixture.config :=
    map_toList_congr fixtures
  have hinputs : t.inputs.records.toList.map (fun x => (x.polarity, x.mode, x.route)) =
      s.inputs.records.toList.map fun x => (x.polarity, x.mode, x.route) :=
    map_toList_congr fun i => by obtain ⟨h1, h2, h3⟩ := inputs i; rw [h1, h2, h3]
  have hunits : t.pulse.units.toList.map (fun x => (x.binding, x.lamp.map)) =
      s.pulse.units.toList.map fun x => (x.binding, x.lamp.map) :=
    map_toList_congr fun u => by obtain ⟨h1, h2⟩ := pulse.units u; rw [h1, h2]
  have hpairs : t.pulse.pairs.toList.map (fun x => (x.mode, x.high, x.low, x.clock)) =
      s.pulse.pairs.toList.map fun x => (x.mode, x.high, x.low, x.clock) :=
    map_toList_congr fun i => by obtain ⟨h1, h2, h3, h4⟩ := pulse.pairs i; rw [h1, h2, h3, h4]
  simp only [State.configuration, loader, settings, hfixtures, sides, periods, ends, hinputs, store, hunits, hpairs,
    pulse.patterns]

theorem State.advance_pulse_setAs (s : State) (d : Nat) : s.pulse.SetAs (s.advance d).pulse := by
  unfold State.advance
  split
  · exact s.pulse.advance_setAs d
  · exact .refl _

theorem State.advance_configuration (s : State) (d : Nat) : (s.advance d).configuration = s.configuration := by
  refine configuration_congr (by simp) (by simp) (by simp) (by simp) (by simp) (by simp) (fun i => ?_) (by simp)
    (s.advance_pulse_setAs d)
  rw [State.advance_records]; exact ⟨rfl, rfl, rfl⟩

theorem blockwise_configuration (x : Configuration) : Blockwise fun s => s.configuration = x where
  pending _ h := h
  advance d h := (State.advance_configuration _ d).trans h
  reporting _ _ h := h
  ports _ h := h
  clock {s} _ h periods ends := Eq.trans (configuration_congr (s := s) rfl rfl (fun _ => rfl) rfl periods ends
    (fun _ => ⟨rfl, rfl, rfl⟩) rfl (.refl _)) h
  inputs {s} _ h inputs := Eq.trans (configuration_congr (s := s) rfl rfl (fun _ => rfl) rfl rfl rfl inputs rfl
    (.refl _)) h
  runners {s} _ h store := Eq.trans (configuration_congr (s := s) rfl rfl (fun _ => rfl) rfl rfl rfl
    (fun _ => ⟨rfl, rfl, rfl⟩) store (.refl _)) h
  pulse {s} _ h pulse := Eq.trans (configuration_congr (s := s) rfl rfl (fun _ => rfl) rfl rfl rfl
    (fun _ => ⟨rfl, rfl, rfl⟩) rfl pulse) h
  fixtures {s} _ h fixtures := Eq.trans (configuration_congr (s := s) rfl rfl fixtures rfl rfl rfl
    (fun _ => ⟨rfl, rfl, rfl⟩) rfl (.refl _)) h
  points _ h := h
  holdOff _ h _ := h

/-- Settles O15: the configuration is a property that every block keeps by itself. -/
theorem configurationStaysUntilReset : Obligations.ConfigurationStaysUntilReset := by
  unfold Obligations.ConfigurationStaysUntilReset
  intro c s t hc h
  exact (blockwise_configuration s.configuration).kept.exec hc h rfl

/-! ## The hold-off list stays bounded (O3) -/

theorem HoldOffsBounded.of_sublist {s t : State} (h : HoldOffsBounded s)
    (sub : t.engine.holdOff.Sublist s.engine.holdOff) : HoldOffsBounded t := by
  obtain ⟨len, pairs⟩ := h
  exact ⟨sub.length_le.trans len, pairs.sublist sub⟩

theorem blockwise_holdOffsBounded : Blockwise HoldOffsBounded where
  pending _ h := h
  advance {s} d h := by
    cases hrun : s.running with
    | true => exact h.of_sublist (by rw [State.advance_holdOff s d hrun]; exact List.filter_sublist)
    | false => rw [s.advance_stopped d hrun]; exact h
  reporting _ _ h := h
  ports _ h := h
  clock _ h _ _ := h
  inputs _ h _ := h
  runners _ h _ := h
  pulse _ h _ := h
  fixtures _ h _ := h
  points _ h := h
  holdOff {s} l h change := by
    rcases change with ⟨e, rfl⟩ | sub
    · obtain ⟨len, pairs⟩ := h
      exact ⟨length_addHoldOff_le e pairs len, OnePerPair.addHoldOff pairs e⟩
    · exact h.of_sublist sub

theorem holdOffsBounded_of_nil {s : State} (h : s.engine.holdOff = []) : HoldOffsBounded s := by
  simp [HoldOffsBounded, h]

theorem showIndicators_engine (s : State) : (showIndicators s).engine = s.engine :=
  List.foldlRecOn fixtureNumbers _ (motive := fun u : State => u.engine = s.engine) rfl
    fun u hu f _ => (u.handOver_engine f _).trans hu

/-- Settles O3: of all changes of the hold-off list only an entry made can add to it (`addHoldOff`). -/
theorem holdOffListStaysBounded : Obligations.HoldOffListStaysBounded := by
  unfold Obligations.HoldOffListStaysBounded
  intro s t
  have k := blockwise_holdOffsBounded
  refine k.kept.step (fun s l => holdOffsBounded_of_nil rfl) fun s records dominant pins => ?_
  refine k.sampleRecords pins Input.firstSample_setAs (holdOffsBounded_of_nil ?_)
  rw [showIndicators_engine]; rfl

end Sys2Proof.Machine
end

section
/-! Proofs, part 5: GATEs and DISPENSERs stay consistent (O9). Inside one occurrence the invariant is broken for a while:
between a release and the end of promotion a fixture is FREE with robots still waiting, and between the change of phase
and its notice a fixture stands as the old phase left it. `Stacked` says what holds then: every claimable fixture is in
order, or exactly one task of the stack is about to put it in order; every task keeps this. -/

namespace Sys2Proof.Machine

/-! ## A claim by its robots -/

/-- The number of the holder. -/
def Fixture.holderRobot (x : Fixture) : Option Robot := x.claims.holder.map Holder.robot

/-- The numbers of the robots waiting. -/
def Fixture.queueRobots (x : Fixture) : List Robot := x.claims.queue.map Waiter.robot

/-- Two records of one fixture with the same state, holder and robots waiting. -/
structure Fixture.SameClaim (x y : Fixture) : Prop where
  config : y.config = x.config
  state : y.state = x.state
  holder : y.holderRobot = x.holderRobot
  queue : y.queueRobots = x.queueRobots

theorem Fixture.SameClaim.refl (x : Fixture) : x.SameClaim x := ⟨rfl, rfl, rfl, rfl⟩

theorem Fixture.SameClaim.trans {x y z : Fixture} (h : x.SameClaim y) (k : y.SameClaim z) : x.SameClaim z :=
  ⟨k.config.trans h.config, k.state.trans h.state, k.holder.trans h.holder, k.queue.trans h.queue⟩

/-- R28: what of `ClaimSound` does not depend on the phase. -/
structure ClaimShape (x : Fixture) : Prop where
  held : x.state = .held ↔ x.holderRobot.isSome = true
  queue : x.state ≠ .held → x.queueRobots = []
  nodup : x.queueRobots.Nodup
  absent : ∀ r, x.holderRobot = some r → r ∉ x.queueRobots
  state : x.state = .dead ∨ x.state = .dormant ∨ x.state = .free ∨ x.state = .held

/-- R5: what of `ClaimSound` depends on the phase. -/
structure ClaimPhased (clock : Clock) (x : Fixture) (c : FixtureConfig) : Prop where
  held : x.state = .held → inMask c.liveMask clock.matchPhase = true
  dormant : x.state = .dormant → inMask c.liveMask clock.phase = false

theorem claimSound_iff (clock : Clock) (x : Fixture) (c : FixtureConfig) :
    ClaimSound clock x c ↔ ClaimShape x ∧ ClaimPhased clock x c := by
  have queue : x.queueRobots = [] ↔ x.claims.queue = [] := List.map_eq_nil_iff
  have nodup : x.queueRobots.Nodup ↔ x.claims.queue.Pairwise fun v w => v.robot ≠ w.robot := List.pairwise_map
  have absent : (∀ r, x.holderRobot = some r → r ∉ x.queueRobots) ↔
      ∀ h, x.claims.holder = some h → ∀ w ∈ x.claims.queue, w.robot ≠ h.robot := by
    simp [Fixture.holderRobot, Fixture.queueRobots]
  constructor
  · rintro ⟨held, live, empty, pairs, unqueued, dormant, state⟩
    exact ⟨⟨by simpa [Fixture.holderRobot] using held, fun h => queue.mpr (empty h), nodup.mpr pairs,
      absent.mpr unqueued, state⟩, live, dormant⟩
  · rintro ⟨⟨held, empty, pairs, unqueued, state⟩, live, dormant⟩
    exact ⟨by simpa [Fixture.holderRobot] using held, live, fun h => queue.mp (empty h), nodup.mp pairs,
      absent.mp unqueued, dormant, state⟩

theorem ClaimShape.congr {x y : Fixture} (h : x.SameClaim y) (k : ClaimShape x) : ClaimShape y := by
  obtain ⟨-, state, holder, queue⟩ := h
  obtain ⟨held, empty, nodup, absent, shape⟩ := k
  constructor <;> simp only [state, holder, queue] <;> assumption

theorem ClaimPhased.congr {clock : Clock} {x y : Fixture} {c : FixtureConfig} (h : x.SameClaim y)
    (k : ClaimPhased clock x c) : ClaimPhased clock y c :=
  ⟨fun e => k.held (h.state ▸ e), fun e => k.dormant (h.state ▸ e)⟩

/-- Only the phase and the resume phase of the clock matter to a claim. -/
theorem ClaimPhased.of_phases {clock clock' : Clock} {x : Fixture} {c : FixtureConfig}
    (phase : clock'.phase = clock.phase) (resume : clock'.resume = clock.resume) (k : ClaimPhased clock x c) : ClaimPhased clock' x c := by
  have hmatch : clock'.matchPhase = clock.matchPhase := by simp only [Clock.matchPhase, phase, resume]
  exact ⟨fun e => hmatch ▸ k.held e, fun e => phase ▸ k.dormant e⟩

@[simp] theorem inMask_idle (mask : LiveMask) : inMask mask .idle = false := rfl

@[simp] theorem inMask_halted (mask : LiveMask) : inMask mask .halted = false := rfl

theorem ne_halted_of_inMask {mask : LiveMask} {p : Phase} (h : inMask mask p = true) : p ≠ .halted := by
  rintro rfl; simp at h

theorem Clock.matchPhase_of_ne {clock : Clock} (h : clock.phase ≠ .halted) : clock.matchPhase = clock.phase := if_neg h

/-- A fixture that is not HELD is in order where nobody holds it or waits for it. -/
theorem ClaimShape.of_empty {x : Fixture} (state : x.state = .dead ∨ x.state = .dormant ∨ x.state = .free)
    (holder : x.holderRobot = none) (queue : x.queueRobots = []) : ClaimShape x where
  held := by rw [holder]; rcases state with h | h | h <;> simp [h]
  queue _ := queue
  nodup := by simp [queue]
  absent := by simp [holder]
  state := by rcases state with h | h | h <;> simp [h]

/-! ## Which task is about to put a fixture in order -/

/-- The tasks that go on with a fixture between the end of a hold and the next one. -/
def Task.attends (f : FixtureNo) (t : Task) : Bool :=
  match t with
  | .releaseTail g _ _ _ | .promote g | .grant g _ _ _ _ | .phaseRelease g | .phaseTail g _ _ => g == f
  | .arrive _ | .moveOn _ | .unitFreed _ | .abortTail _ _ | .nextList _ | .start _ _ | .report _ _ | .release _ _ => false

/-- How the fixture stands that such a task finds. A PHASE release comes first of its occurrence alone, so no stack that
others work on holds one. -/
def Attended (clock : Clock) (x : Fixture) (c : FixtureConfig) (t : Task) : Prop :=
  match t with
  | .releaseTail _ _ _ _ | .promote _ => x.state = .free ∧ x.holderRobot = none ∧ x.queueRobots.Nodup
  | .grant _ robot _ _ _ =>
    x.state = .free ∧ x.holderRobot = none ∧ x.queueRobots.Nodup ∧ robot ∉ x.queueRobots ∧
      inMask c.liveMask clock.phase = true
  | .phaseTail _ _ _ => x.state = .dormant ∧ x.holderRobot = none ∧ inMask c.liveMask clock.phase = false
  | .arrive _ | .moveOn _ | .unitFreed _ | .abortTail _ _ | .nextList _ | .start _ _ | .report _ _ | .release _ _
  | .phaseRelease _ => False

/-- A claimable fixture while a stack of tasks runs: in order when no task attends it (in its phase too, once it has
`noticed` the phase), else as the one task that attends it finds it. -/
inductive Tended (noticed : Prop) (clock : Clock) (x : Fixture) (c : FixtureConfig) : List Task → Prop
  | inOrder : ClaimShape x → (noticed → ClaimPhased clock x c) → Tended noticed clock x c []
  | attended {t : Task} : Attended clock x c t → Tended noticed clock x c [t]

/-- Every claimable fixture is tended. -/
def Stacked (noticed : FixtureNo → Prop) (s : State) (ts : List Task) : Prop :=
  ∀ f c, (s.fixture f).config = some c → c.kind.claimable = true →
    Tended (noticed f) s.clock (s.fixture f) c (ts.filter (Task.attends f))

theorem Attended.congr {clock : Clock} {x y : Fixture} {c : FixtureConfig} {t : Task} (h : x.SameClaim y)
    (k : Attended clock x c t) : Attended clock y c t := by
  obtain ⟨-, state, holder, queue⟩ := h
  cases t <;> simp only [Attended, state, holder, queue] at k ⊢ <;> assumption

theorem Tended.congr {noticed : Prop} {clock : Clock} {x y : Fixture} {c : FixtureConfig} {ts : List Task}
    (h : x.SameClaim y) (k : Tended noticed clock x c ts) : Tended noticed clock y c ts := by
  cases k with
  | inOrder shape phased => exact .inOrder (shape.congr h) fun n => (phased n).congr h
  | attended a => exact .attended (a.congr h)

/-- A fixture with a holder is attended by no task. -/
theorem Tended.of_holder {noticed : Prop} {clock : Clock} {x : Fixture} {c : FixtureConfig} {ts : List Task}
    (k : Tended noticed clock x c ts) (h : x.holderRobot ≠ none) : ts = [] ∧ ClaimShape x := by
  cases k with
  | inOrder shape _ => exact ⟨rfl, shape⟩
  | @attended t a =>
    cases t <;> simp only [Attended] at a
    case grant => exact absurd a.2.1 h
    all_goals exact absurd (by tauto) h

/-- The one task that attends a fixture, on top of the stack. -/
theorem Tended.of_cons {noticed : Prop} {clock : Clock} {x : Fixture} {c : FixtureConfig} {t : Task} {ts : List Task}
    (k : Tended noticed clock x c (t :: ts)) : ts = [] ∧ Attended clock x c t := by
  cases k with
  | attended a => exact ⟨rfl, a⟩

/-! ## Every task keeps the fixtures tended -/

/-- What a task does to the fixtures other than `f`: nothing that matters to a claim; nor does it leave them tasks. -/
structure ElsewhereSame (f : FixtureNo) (s : State) (r : State × List Task) : Prop where
  clock : r.1.clock = s.clock
  same : ∀ g, g ≠ f → (s.fixture g).SameClaim (r.1.fixture g)
  tasks : ∀ g, g ≠ f → ∀ u ∈ r.2, u.attends g = false

theorem filter_attends_append {f : FixtureNo} {us : List Task} (h : ∀ u ∈ us, u.attends f = false) (ts : List Task) :
    (us ++ ts).filter (Task.attends f) = ts.filter (Task.attends f) := by
  have : us.filter (Task.attends f) = [] := List.filter_eq_nil_iff.mpr (by simpa using h)
  rw [List.filter_append, this, List.nil_append]

/-- A task on `f` keeps the fixtures tended where it keeps `f` so. -/
theorem Stacked.step {noticed : FixtureNo → Prop} {s : State} {t : Task} {ts : List Task} {r : State × List Task}
    (f : FixtureNo) (h : Stacked noticed s (t :: ts)) (ht : ∀ g, g ≠ f → t.attends g = false)
    (else_ : ElsewhereSame f s r)
    (own : ∀ c, (r.1.fixture f).config = some c → c.kind.claimable = true →
      Tended (noticed f) s.clock (r.1.fixture f) c ((r.2 ++ ts).filter (Task.attends f))) :
    Stacked noticed r.1 (r.2 ++ ts) := by
  intro g c hc hk
  rw [else_.clock]
  by_cases hg : g = f
  · subst hg; exact own c hc hk
  · have same := else_.same g hg
    rw [filter_attends_append (else_.tasks g hg)]
    have := h g c (same.config ▸ hc) hk
    rw [List.filter_cons_of_neg (by simp [ht g hg])] at this
    exact this.congr same

/-- What a task does that matters to no claim. -/
structure Aside (s : State) (r : State × List Task) : Prop where
  clock : r.1.clock = s.clock
  same : ∀ f, (s.fixture f).SameClaim (r.1.fixture f)
  tasks : ∀ f, ∀ u ∈ r.2, u.attends f = false

theorem Stacked.aside {noticed : FixtureNo → Prop} {s : State} {t : Task} {ts : List Task} {r : State × List Task}
    (h : Stacked noticed s (t :: ts)) (ht : ∀ f, t.attends f = false) (k : Aside s r) :
    Stacked noticed r.1 (r.2 ++ ts) := by
  intro f c hc hk
  have same := k.same f
  rw [k.clock, filter_attends_append (k.tasks f)]
  have := h f c (same.config ▸ hc) hk
  rw [List.filter_cons_of_neg (by simp [ht f])] at this
  exact this.congr same

/-- A result that leaves engine and clock, and tasks that attend nothing. -/
theorem Aside.of_engine {s : State} {r : State × List Task} (engine : r.1.engine = s.engine) (clock : r.1.clock = s.clock)
    (tasks : ∀ f, ∀ u ∈ r.2, u.attends f = false) : Aside s r where
  clock := clock
  same f := by
    have : r.1.fixture f = s.fixture f := by rw [State.fixture_def, State.fixture_def, engine]
    rw [this]; exact .refl _
  tasks := tasks

@[simp] theorem reportTask_attends {t : Start} {r : Report} {f : FixtureNo} :
    ∀ u ∈ t.reportTask r, u.attends f = false := by
  unfold Start.reportTask; split <;> simp [Task.attends]

@[simp] theorem startTask_attends {c : FixtureConfig} {g : FixtureNo} {l : Option StepNo} {p : Purpose} {f : FixtureNo} :
    ∀ u ∈ c.startTask g l p, u.attends f = false := by
  unfold FixtureConfig.startTask; split <;> simp [Task.attends]

theorem completeTasks_attends {r : RunnerId} {c : Current} {f : FixtureNo} :
    ∀ u ∈ completeTasks r c, u.attends f = false := by
  intro u hu
  rcases List.mem_append.mp hu with h | h
  · exact reportTask_attends u h
  · simp at h; subst h; rfl

theorem aside_start (s : State) (r : RunnerId) (t : Start) : Aside s (performStart s r t) := by
  have tasks {us : List Task} (rep : Report) (h : ∀ u ∈ us, u = .arrive r) (f : FixtureNo) :
      ∀ u ∈ t.reportTask rep ++ us, u.attends f = false := by
    intro u hu
    rcases List.mem_append.mp hu with hu | hu
    · exact reportTask_attends u hu
    · rw [h u hu]; rfl
  unfold performStart
  dsimp only
  split
  · exact .of_engine rfl rfl fun _ => reportTask_attends
  · split
    · exact .of_engine (by simp) (by simp) (tasks .accepted (by simp))
    all_goals
      split
      · exact .of_engine (by simp) (by simp) fun _ => reportTask_attends
      · exact .of_engine (by simp) (by simp) fun _ => reportTask_attends

theorem aside_issue (s : State) (r : RunnerId) (u : UnitNo) (t : Step) : Aside s (issue s r u t) := by
  unfold issue
  dsimp only
  split <;> exact .of_engine (by simp) (by simp) (by simp [Task.attends])

theorem aside_abortAt (s : State) (r : RunnerId) (i : StepNo) : Aside s (abortAt s r i) := by
  refine .of_engine (State.setRunner_engine ..) (State.setRunner_clock ..) fun f u hu => ?_
  rcases List.mem_append.mp hu with h | h
  · obtain ⟨v, -, rfl⟩ := List.mem_map.mp h; rfl
  · simp at h; subst h; rfl

theorem aside_arrive (s : State) (r : RunnerId) : Aside s (performArrive s r) := by
  unfold performArrive
  dsimp only
  split
  · exact .of_engine rfl rfl (by simp)
  · split
    · exact aside_abortAt s r _
    · split
      · exact .of_engine (by simp) (by simp) (by simp)
      · split
        · exact aside_issue s r _ _
        · exact .of_engine (by simp) (by simp) (by simp)

theorem aside_moveOn (s : State) (r : RunnerId) : Aside s (performMoveOn s r) := by
  unfold performMoveOn
  dsimp only
  split
  · exact .of_engine rfl rfl (by simp)
  · split
    · split
      · exact .of_engine (by simp) (by simp) fun _ => completeTasks_attends
      · exact .of_engine (by simp) (by simp) (by simp)
    · split
      · exact .of_engine (by simp) (by simp) (by simp [Task.attends])
      · exact aside_abortAt s r _

theorem aside_unitFreed (s : State) (u : UnitNo) : Aside s (performUnitFreed s u) := by
  unfold performUnitFreed
  split
  · exact .of_engine rfl rfl (by simp)
  · split
    · exact .of_engine rfl rfl (by simp)
    · split
      · exact .of_engine rfl rfl (by simp)
      · exact aside_issue s _ u _

theorem aside_abortTail (s : State) (r : RunnerId) (i : StepNo) : Aside s (performAbortTail s r i) := by
  unfold performAbortTail
  split
  · exact .of_engine rfl rfl (by simp [Task.attends])
  · refine .of_engine ?_ ?_ fun f u hu => ?_
    · unfold State.setRunnerFault; dsimp only; split <;> simp
    · unfold State.setRunnerFault; dsimp only; split <;> simp
    · rcases List.mem_append.mp hu with h | h
      · exact reportTask_attends u h
      · simp at h; subst h; rfl

theorem aside_nextList (s : State) (r : RunnerId) : Aside s (performNextList s r) := by
  unfold performNextList
  dsimp only
  split <;> exact .of_engine (by simp) (by simp) (by simp [Task.attends])

/-- New claims with the same holder and the same robots waiting. -/
theorem SameClaim.setClaims (s : State) (f g : FixtureNo) {c : Claims}
    (holder : c.holder.map Holder.robot = (s.fixture f).holderRobot)
    (queue : c.queue.map Waiter.robot = (s.fixture f).queueRobots) :
    (s.fixture g).SameClaim ((s.setClaims f c).fixture g) := by
  rw [State.setClaims_fixture]
  split
  · rename_i e; subst e; exact ⟨rfl, rfl, holder, queue⟩
  · exact .refl _

/-- R40: a report changes no claim but by the release it may call for. -/
theorem aside_report (s : State) (f : FixtureNo) (r : Report) : Aside s (performReport s f r) := by
  have ends (cause : ReleaseCause) : Aside s (endDispense s f cause) := by
    unfold endDispense
    dsimp only
    split <;> exact ⟨rfl, fun g => SameClaim.setClaims s f g rfl rfl, by simp [Task.attends]⟩
  unfold performReport
  dsimp only
  split
  · exact .of_engine rfl rfl (by simp)
  · split
    · exact ⟨rfl, fun g => SameClaim.setClaims s f g rfl rfl, by simp⟩
    · exact .of_engine rfl rfl (by split <;> simp [Task.attends])
    all_goals exact ends _

theorem refreshIndicator_sameClaim (s : State) (f g : FixtureNo) :
    (s.fixture g).SameClaim ((s.refreshIndicator f).fixture g) :=
  ⟨by simp, by simp, by simp [Fixture.holderRobot], by simp [Fixture.queueRobots]⟩

section
variable {noticed : FixtureNo → Prop} {s : State} {ts : List Task} {f : FixtureNo}

/-- R34 step 1: the released fixture waits for its promotion. -/
theorem Stacked.release {cause : ReleaseCause} (h : Stacked noticed s (.release f cause :: ts)) :
    Stacked noticed (performRelease s f cause).1 ((performRelease s f cause).2 ++ ts) := by
  unfold performRelease
  dsimp only
  split
  · rename_i c hold hc hh
    refine Stacked.step f h (fun _ _ => rfl) ⟨rfl, fun g hg => ?_, fun g hg u hu => ?_⟩ fun c' hc' hk => ?_
    · rw [State.setFixture_fixture_other s (Ne.symm hg)]; exact .refl _
    · rcases List.mem_append.mp hu with hu | hu
      · exact startTask_attends u hu
      · simp at hu; subst hu; simpa [Task.attends] using Ne.symm hg
    · rw [State.setFixture_fixture_same] at hc' ⊢
      obtain ⟨none_, shape⟩ := (h f c' hc' hk).of_holder (by simp [Fixture.holderRobot, hh])
      rw [List.filter_cons_of_neg (by simp [Task.attends])] at none_
      rw [List.append_assoc, filter_attends_append startTask_attends, List.singleton_append,
        List.filter_cons_of_pos (by simp [Task.attends]), none_]
      exact .attended ⟨rfl, rfl, shape.nodup⟩
  · exact h.aside (fun _ => rfl) (.of_engine rfl rfl (by simp))

/-- R34 steps 4 to 6: promotion is next. -/
theorem Stacked.releaseTail {robot : Robot} {side : Side} {cause : ReleaseCause}
    (h : Stacked noticed s (.releaseTail f robot side cause :: ts)) :
    Stacked noticed (performReleaseTail s f robot side cause).1
      ((performReleaseTail s f robot side cause).2 ++ ts) := by
  have same (g : FixtureNo) : (performReleaseTail s f robot side cause).1.fixture g = s.fixture g := by
    unfold performReleaseTail; dsimp only; split <;> simp
  refine Stacked.step f h (fun g hg => by simpa [Task.attends] using Ne.symm hg) ⟨?_, fun g _ => ?_, fun g hg u hu => ?_⟩
    fun c hc hk => ?_
  · unfold performReleaseTail; dsimp only; split <;> simp
  · rw [same]; exact .refl _
  · simp [performReleaseTail] at hu; subst hu; simpa [Task.attends] using Ne.symm hg
  · rw [same] at hc ⊢
    have tended := h f c hc hk
    rw [List.filter_cons_of_pos (by simp [Task.attends])] at tended
    obtain ⟨none_, free⟩ := tended.of_cons
    simp only [performReleaseTail, List.singleton_append]
    rw [List.filter_cons_of_pos (by simp [Task.attends]), none_]
    exact .attended free

/-- R35: one round of promotion drops a waiting robot, grants one, or leaves the fixture FREE with nobody waiting. -/
theorem Stacked.promote (h : Stacked noticed s (.promote f :: ts)) :
    Stacked noticed (performPromote s f).1 ((performPromote s f).2 ++ ts) := by
  have top (g : FixtureNo) (hg : g ≠ f) : (Task.promote f).attends g = false := by
    simpa [Task.attends] using Ne.symm hg
  have tended (c : FixtureConfig) (hc : (s.fixture f).config = some c) (hk : c.kind.claimable = true) :
      ts.filter (Task.attends f) = [] ∧ (s.fixture f).state = .free ∧ (s.fixture f).holderRobot = none ∧
        (s.fixture f).queueRobots.Nodup := by
    have := h f c hc hk
    rw [List.filter_cons_of_pos (by simp [Task.attends])] at this
    exact this.of_cons
  unfold performPromote
  dsimp only
  split
  · rename_i hnone
    refine Stacked.step f h top ⟨rfl, fun g _ => .refl _, by simp⟩ fun c hc _ => ?_
    rw [hnone] at hc; cases hc
  · rename_i c hc
    split
    · rename_i hq
      refine Stacked.step f h top ⟨by simp, fun g hg => ?_, by simp⟩ fun c' hc' hk => ?_
      · refine .trans ?_ (refreshIndicator_sameClaim _ f g)
        rw [State.setFixtureState_fixture, if_neg (Ne.symm hg)]; exact .refl _
      · have hc'' : (s.fixture f).config = some c' := by simpa using hc'
        obtain ⟨none_, -, holder, -⟩ := tended c' hc'' hk
        rw [List.nil_append, none_]
        refine Tended.congr (refreshIndicator_sameClaim _ f f) ?_
        rw [State.setFixtureState_fixture, if_pos rfl]
        exact .inOrder (.of_empty (by simp) holder (by simp [Fixture.queueRobots, hq]))
          fun _ => ⟨nofun, nofun⟩
    · rename_i w rest hq
      have elsewhere (g : FixtureNo) (hg : g ≠ f) : (s.fixture g).SameClaim ((s.setClaims f
          { (s.fixture f).claims with queue := rest }).fixture g) := by
        rw [State.setClaims_fixture, if_neg (Ne.symm hg)]; exact .refl _
      have robots : (s.fixture f).queueRobots = w.robot :: rest.map Waiter.robot := by
        simp [Fixture.queueRobots, hq]
      split
      · refine Stacked.step f h top ⟨by simp, fun g hg => ?_, fun g hg u hu => ?_⟩ fun c' hc' hk => ?_
        · rw [State.makeHoldOff_fixture]; exact elsewhere g hg
        · simp at hu; subst hu; exact top g hg
        · have hc'' : (s.fixture f).config = some c' := by simpa using hc'
          obtain ⟨none_, free, holder, nodup⟩ := tended c' hc'' hk
          rw [robots] at nodup
          rw [List.singleton_append, List.filter_cons_of_pos (by simp [Task.attends]), none_,
            State.makeHoldOff_fixture, State.setClaims_fixture, if_pos rfl]
          exact .attended ⟨free, holder, (List.nodup_cons.mp nodup).2⟩
      · rename_i hfault
        refine Stacked.step f h top ⟨by simp, elsewhere, fun g hg u hu => ?_⟩ fun c' hc' hk => ?_
        · simp at hu; subst hu; simpa [Task.attends] using Ne.symm hg
        · have hc'' : (s.fixture f).config = some c' := by simpa using hc'
          obtain rfl : c = c' := Option.some.inj (hc.symm.trans hc'')
          obtain ⟨none_, free, holder, nodup⟩ := tended c hc'' hk
          rw [robots] at nodup
          rw [List.singleton_append, List.filter_cons_of_pos (by simp [Task.attends]), none_,
            State.setClaims_fixture, if_pos rfl]
          obtain ⟨absent, nodup⟩ := List.nodup_cons.mp nodup
          have live := State.claimFault_none_phase hfault
          exact .attended ⟨free, holder, nodup, absent, live⟩

/-- R27: a grant makes the fixture HELD, in its live mask, by a robot that does not wait for it. -/
theorem Stacked.grant {robot : Robot} {side : Side} {seen age : Nat}
    (h : Stacked noticed s (.grant f robot side seen age :: ts)) :
    Stacked noticed (performGrant s f robot side seen age).1 ((performGrant s f robot side seen age).2 ++ ts) := by
  have top (g : FixtureNo) (hg : g ≠ f) : (Task.grant f robot side seen age).attends g = false := by
    simpa [Task.attends] using Ne.symm hg
  unfold performGrant
  dsimp only
  split
  · rename_i hnone
    refine Stacked.step f h top ⟨rfl, fun g _ => .refl _, by simp⟩ fun c hc _ => ?_
    rw [hnone] at hc; cases hc
  · rename_i c hc
    refine Stacked.step f h top ⟨by simp, fun g hg => ?_, fun _ _ => startTask_attends⟩ fun c' hc' hk => ?_
    · refine .trans ?_ (refreshIndicator_sameClaim _ f g)
      simp only [State.raiseChange_fixture, State.createEvent_fixture,
        State.setFixture_fixture_other s (Ne.symm hg)]
      exact .refl _
    · have hc'' : (s.fixture f).config = some c' := by simpa [State.setFixture_fixture_same] using hc'
      have tended := h f c' hc'' hk
      rw [List.filter_cons_of_pos (by simp [Task.attends])] at tended
      obtain ⟨none_, -, -, nodup, absent, live⟩ := tended.of_cons
      rw [filter_attends_append startTask_attends, none_]
      refine Tended.congr (refreshIndicator_sameClaim _ f f) ?_
      simp only [State.raiseChange_fixture, State.createEvent_fixture, State.setFixture_fixture_same]
      refine .inOrder ⟨by simp [Fixture.holderRobot], fun hne => absurd rfl hne, nodup, ?_, by simp⟩
        fun _ => ⟨fun _ => ?_, nofun⟩
      · intro r hr
        obtain rfl : robot = r := by simpa [Fixture.holderRobot] using hr
        exact absent
      · rw [Clock.matchPhase_of_ne (ne_halted_of_inMask live)]; exact live

/-- R36: a PHASE release empties the queue of a fixture that is DORMANT by then. -/
theorem Stacked.phaseTail {robot : Robot} {side : Side} (h : Stacked noticed s (.phaseTail f robot side :: ts)) :
    Stacked noticed (performPhaseTail s f robot side).1 ((performPhaseTail s f robot side).2 ++ ts) := by
  refine Stacked.step f h (fun g hg => by simpa [Task.attends] using Ne.symm hg)
    ⟨?_, fun g hg => ?_, by simp [performPhaseTail]⟩ fun c hc hk => ?_
  · simp [performPhaseTail]
  · refine .trans ?_ (refreshIndicator_sameClaim _ f g)
    simp only [State.raiseChange_fixture, State.setClaims_fixture, if_neg (Ne.symm hg), State.createEvent_fixture]
    exact .refl _
  · have hc' : (s.fixture f).config = some c := by simpa [performPhaseTail] using hc
    have tended := h f c hc' hk
    rw [List.filter_cons_of_pos (by simp [Task.attends])] at tended
    obtain ⟨none_, dormant, holder, mask⟩ := tended.of_cons
    show Tended _ _ _ _ (([] ++ ts).filter _)
    rw [List.nil_append, none_]
    refine Tended.congr (refreshIndicator_sameClaim _ f f) ?_
    simp only [State.raiseChange_fixture, State.setClaims_fixture, if_true, State.createEvent_fixture]
    exact .inOrder (.of_empty (by simp [dormant]) holder rfl)
      fun _ => ⟨fun e => by simp [dormant] at e, fun _ => mask⟩

/-- R36: where the stack holds a PHASE release, its fixture is not claimable. -/
theorem Stacked.phaseRelease (h : Stacked noticed s (.phaseRelease f :: ts)) :
    Stacked noticed (performPhaseRelease s f).1 ((performPhaseRelease s f).2 ++ ts) := by
  have top (g : FixtureNo) (hg : g ≠ f) : (Task.phaseRelease f).attends g = false := by
    simpa [Task.attends] using Ne.symm hg
  have none_ (c : FixtureConfig) (hc : (s.fixture f).config = some c) (hk : c.kind.claimable = true) : False := by
    have tended := h f c hc hk
    rw [List.filter_cons_of_pos (by simp [Task.attends])] at tended
    exact tended.of_cons.2
  unfold performPhaseRelease
  dsimp only
  split
  · refine Stacked.step f h top ⟨rfl, fun g hg => ?_, fun g hg u hu => ?_⟩ fun c hc hk => ?_
    · rw [State.setFixture_fixture_other s (Ne.symm hg)]; exact .refl _
    · rcases List.mem_append.mp hu with hu | hu
      · exact startTask_attends u hu
      · simp at hu; subst hu; simpa [Task.attends] using Ne.symm hg
    · exact (none_ c (by simpa using hc) hk).elim
  · refine Stacked.step f h top ⟨rfl, fun g _ => .refl _, by simp⟩ fun c hc hk => (none_ c hc hk).elim

end

/-- Every task keeps every claimable fixture tended. -/
theorem Stacked.perform {noticed : FixtureNo → Prop} {s : State} {t : Task} {ts : List Task}
    (h : Stacked noticed s (t :: ts)) : Stacked noticed (perform s t).1 ((perform s t).2 ++ ts) := by
  cases t with
  | arrive r => exact h.aside (fun _ => rfl) (aside_arrive s r)
  | moveOn r => exact h.aside (fun _ => rfl) (aside_moveOn s r)
  | unitFreed u => exact h.aside (fun _ => rfl) (aside_unitFreed s u)
  | abortTail r i => exact h.aside (fun _ => rfl) (aside_abortTail s r i)
  | nextList r => exact h.aside (fun _ => rfl) (aside_nextList s r)
  | start r t => exact h.aside (fun _ => rfl) (aside_start s r t)
  | report f r => exact h.aside (fun _ => rfl) (aside_report s f r)
  | release f cause => exact h.release
  | releaseTail f robot side cause => exact h.releaseTail
  | promote f => exact h.promote
  | grant f robot side seen age => exact h.grant
  | phaseRelease f => exact h.phaseRelease
  | phaseTail f robot side => exact h.phaseTail

/-- So a stack that runs out leaves every claimable fixture in order. -/
theorem Stacked.settle {noticed : FixtureNo → Prop} {s : State} {ts : List Task} (h : Stacked noticed s ts) :
    Stacked noticed (settle s ts) [] :=
  settle_keeps_stack (Stacked noticed) (fun _ _ _ k => k.perform) s ts h

end Sys2Proof.Machine
end

section
/-! Proofs, part 6: the claims between occurrences (O9), and what a phase-change notice does to them. -/

namespace Sys2Proof.Machine

/-! ## Claims between occurrences -/

/-- The shape alone, which a change of phase leaves; in its phase too is every fixture that `noticed` names. -/
abbrev ClaimsNoticed (noticed : FixtureNo → Prop) (s : State) : Prop := Stacked noticed s []

theorem claimsNoticed_iff {noticed : FixtureNo → Prop} {s : State} : ClaimsNoticed noticed s ↔
    ∀ f c, (s.fixture f).config = some c → c.kind.claimable = true →
      ClaimShape (s.fixture f) ∧ (noticed f → ClaimPhased s.clock (s.fixture f) c) := by
  constructor
  · intro h f c hc hk
    cases h f c hc hk with
    | inOrder shape phased => exact ⟨shape, phased⟩
  · intro h f c hc hk
    obtain ⟨shape, phased⟩ := h f c hc hk
    exact .inOrder shape phased

theorem claimsSound_iff {s : State} : ClaimsSound s ↔ ClaimsNoticed (fun _ => True) s := by
  simp only [ClaimsSound, claimsNoticed_iff, claimSound_iff, true_implies]

/-- Where no task attends a fixture, a stack may begin on claims in order. -/
theorem ClaimsNoticed.stack {noticed : FixtureNo → Prop} {s : State} {ts : List Task} (h : ClaimsNoticed noticed s)
    (ht : ∀ f, ∀ t ∈ ts, t.attends f = false) : Stacked noticed s ts := by
  intro f c hc hk
  have := filter_attends_append (ht f) []
  rw [List.append_nil] at this
  rw [this]
  exact h f c hc hk

theorem ClaimsNoticed.settle {noticed : FixtureNo → Prop} {s : State} {ts : List Task} (h : ClaimsNoticed noticed s)
    (ht : ∀ f, ∀ t ∈ ts, t.attends f = false) : ClaimsNoticed noticed (settle s ts) := (h.stack ht).settle

theorem ClaimsSound.settle {s : State} {ts : List Task} (h : ClaimsSound s)
    (ht : ∀ f, ∀ t ∈ ts, t.attends f = false) : ClaimsSound (settle s ts) :=
  claimsSound_iff.mpr ((claimsSound_iff.mp h).settle ht)

/-- Claims in order stay so where only one fixture has changed, and that one is in order. -/
theorem ClaimsNoticed.update {noticed noticed' : FixtureNo → Prop} {s t : State} (f : FixtureNo)
    (h : ClaimsNoticed noticed s) (clock : t.clock = s.clock) (hn : ∀ g, g ≠ f → noticed' g → noticed g)
    (same : ∀ g, g ≠ f → (s.fixture g).SameClaim (t.fixture g))
    (own : ∀ c, (t.fixture f).config = some c → c.kind.claimable = true →
      ClaimShape (t.fixture f) ∧ (noticed' f → ClaimPhased s.clock (t.fixture f) c)) : ClaimsNoticed noticed' t := by
  rw [claimsNoticed_iff] at h ⊢
  intro g c hc hk
  rw [clock]
  by_cases hg : g = f
  · subst hg; exact own c hc hk
  · have hs := same g hg
    obtain ⟨shape, phased⟩ := h g c (hs.config ▸ hc) hk
    exact ⟨shape.congr hs, fun n => (phased (hn g hg n)).congr hs⟩

theorem ClaimsNoticed.congr {noticed : FixtureNo → Prop} {s t : State} (h : ClaimsNoticed noticed s)
    (phase : t.clock.phase = s.clock.phase) (resume : t.clock.resume = s.clock.resume)
    (same : ∀ f, (s.fixture f).SameClaim (t.fixture f)) : ClaimsNoticed noticed t := by
  rw [claimsNoticed_iff] at h ⊢
  intro f c hc hk
  obtain ⟨shape, phased⟩ := h f c ((same f).config ▸ hc) hk
  exact ⟨shape.congr (same f), fun n => ((phased n).congr (same f)).of_phases phase resume⟩

/-- What matters to no claim keeps them all. -/
theorem ClaimsSound.congr {s t : State} (h : ClaimsSound s) (phase : t.clock.phase = s.clock.phase)
    (resume : t.clock.resume = s.clock.resume) (same : ∀ f, (s.fixture f).SameClaim (t.fixture f)) : ClaimsSound t :=
  claimsSound_iff.mpr ((claimsSound_iff.mp h).congr phase resume same)

theorem ClaimsSound.update {s t : State} (f : FixtureNo) (h : ClaimsSound s) (clock : t.clock = s.clock)
    (same : ∀ g, g ≠ f → (s.fixture g).SameClaim (t.fixture g))
    (own : ∀ c, (t.fixture f).config = some c → c.kind.claimable = true → ClaimSound s.clock (t.fixture f) c) :
    ClaimsSound t :=
  claimsSound_iff.mpr ((claimsSound_iff.mp h).update f clock (fun _ _ n => n) same fun c hc hk => by
    simpa [claimSound_iff] using own c hc hk)

/-- Under a changed clock the claims keep their shape. -/
theorem ClaimsSound.unnoticed {s t : State} (h : ClaimsSound s) (same : ∀ f, (s.fixture f).SameClaim (t.fixture f)) :
    ClaimsNoticed (fun _ => False) t := by
  have h' := claimsSound_iff.mp h
  rw [claimsNoticed_iff] at h' ⊢
  exact fun f c hc hk => ⟨(h' f c ((same f).config ▸ hc) hk).1.congr (same f), False.elim⟩

/-! ## What settling leaves of the clock -/

theorem perform_clock (s : State) (t : Task) : (perform s t).1.clock = s.clock := by
  cases t with
  | arrive r => exact (aside_arrive s r).clock
  | moveOn r => exact (aside_moveOn s r).clock
  | unitFreed u => exact (aside_unitFreed s u).clock
  | abortTail r i => exact (aside_abortTail s r i).clock
  | nextList r => exact (aside_nextList s r).clock
  | start r t => exact (aside_start s r t).clock
  | report f r => exact (aside_report s f r).clock
  | release f cause => simp only [perform, performRelease]; split <;> rfl
  | releaseTail f robot side cause => simp only [perform, performReleaseTail]; split <;> simp
  | promote f =>
    simp only [perform, performPromote]
    split
    · rfl
    · split
      · simp
      · split <;> simp
  | grant f robot side seen age => simp only [perform, performGrant]; split <;> simp
  | phaseRelease f => simp only [perform, performPhaseRelease]; split <;> rfl
  | phaseTail f robot side => simp [perform, performPhaseTail]

@[simp] theorem settle_clock (s : State) (ts : List Task) : (settle s ts).clock = s.clock :=
  settle_keeps (fun u => u.clock = s.clock) (fun u t h => (perform_clock u t).trans h) s ts rfl

/-! ## A phase-change notice (R5, R36, R96) -/

theorem zoneNotice_elsewhere (s : State) (f : FixtureNo) (c : FixtureConfig) (new : Phase) :
    (zoneNotice s f c new).clock = s.clock ∧ ((zoneNotice s f c new).fixture f).config = (s.fixture f).config ∧
      ∀ g, g ≠ f → (zoneNotice s f c new).fixture g = s.fixture g := by
  unfold zoneNotice
  dsimp only
  split
  all_goals simp +contextual [eq_comm]

theorem goalNotice_elsewhere (s : State) (f : FixtureNo) (c : FixtureConfig) (grace : Nat) (old new : Phase) :
    (goalNotice s f c grace old new).clock = s.clock ∧
      ((goalNotice s f c grace old new).fixture f).config = (s.fixture f).config ∧
      ∀ g, g ≠ f → (goalNotice s f c grace old new).fixture g = s.fixture g := by
  unfold goalNotice
  dsimp only
  split
  · simp +contextual [eq_comm]
  · split <;> simp +contextual [eq_comm]
  · simp

section
variable {noticed : FixtureNo → Prop} {s : State} {f : FixtureNo} {c : FixtureConfig} {new : Phase}

/-- Changing the state of a fixture that nobody holds keeps the claims in order. -/
theorem ClaimsNoticed.setFixtureState {st : FixtureState} (h : ClaimsNoticed noticed s)
    (hst : st = .dormant ∨ st = .free) (hfree : (s.fixture f).state ≠ .held)
    (hmask : st = .dormant → ∀ c, (s.fixture f).config = some c → inMask c.liveMask s.clock.phase = false) :
    ClaimsNoticed (fun g => noticed g ∨ g = f) (s.setFixtureState f st).raiseChange := by
  refine h.update f (by simp) (fun g hg n => n.resolve_right hg) (fun g hg => ?_) fun c hc hk => ?_
  · simp only [State.raiseChange_fixture, State.setFixtureState_fixture, if_neg (Ne.symm hg)]
    exact .refl _
  · have hc' : (s.fixture f).config = some c := by simpa using hc
    obtain ⟨shape, -⟩ := (claimsNoticed_iff.mp h) f c hc' hk
    have holder : (s.fixture f).holderRobot = none := by
      simpa using mt shape.held.mpr hfree
    simp only [State.raiseChange_fixture, State.setFixtureState_fixture, if_true]
    refine ⟨.of_empty (by tauto) holder (shape.queue hfree), fun _ => ⟨fun e => ?_, fun e => hmask e c hc'⟩⟩
    rcases hst with rfl | rfl <;> cases e

/-- R36: a PHASE release leaves the fixture DORMANT with nobody waiting, whatever its on-release list sets off. -/
theorem ClaimsNoticed.phaseRelease (h : ClaimsNoticed noticed s) (hc : (s.fixture f).config = some c)
    (hk : c.kind.claimable = true) (hheld : (s.fixture f).state = .held)
    (hmask : inMask c.liveMask s.clock.phase = false) :
    ClaimsNoticed (fun g => noticed g ∨ g = f) (Machine.settle s [.phaseRelease f]) := by
  obtain ⟨shape, -⟩ := (claimsNoticed_iff.mp h) f c hc hk
  obtain ⟨hold, hh⟩ : ∃ hold, (s.fixture f).claims.holder = some hold := by
    have := shape.held.mp hheld
    simpa [Fixture.holderRobot, Option.isSome_iff_exists] using this
  have released : performPhaseRelease s f =
      (s.setFixture f { s.fixture f with
        state := .dormant, claims := { (s.fixture f).claims with holder := none } },
      c.startTask f c.secondList .release ++ [.phaseTail f hold.robot hold.side]) := by
    simp only [performPhaseRelease, hc, hh]
  rw [settle_cons, List.append_nil]
  refine Stacked.settle ?_
  simp only [perform, released]
  intro g d hd hkd
  by_cases hg : g = f
  · subst hg
    rw [State.setFixture_fixture_same] at hd ⊢
    obtain rfl : c = d := Option.some.inj (hc.symm.trans hd)
    rw [filter_attends_append startTask_attends, List.filter_cons_of_pos (by simp [Task.attends])]
    exact .attended ⟨rfl, rfl, hmask⟩
  · rw [State.setFixture_fixture_other s (Ne.symm hg)] at hd ⊢
    rw [filter_attends_append startTask_attends, List.filter_cons_of_neg (by simpa [Task.attends] using Ne.symm hg)]
    obtain ⟨shape, phased⟩ := (claimsNoticed_iff.mp h) g d hd hkd
    exact .inOrder shape fun n => phased (n.resolve_right hg)

/-- R5, Table 1-4: once a GATE or DISPENSER has taken the notice it is in order in the new phase. -/
theorem ClaimsNoticed.claimNotice (h : ClaimsNoticed noticed s) (hc : (s.fixture f).config = some c)
    (hk : c.kind.claimable = true) (hnew : s.clock.phase ≠ .halted) :
    ClaimsNoticed (fun g => noticed g ∨ g = f) (Machine.claimNotice s f c s.clock.phase) := by
  unfold Machine.claimNotice
  have mask (m : inMask c.liveMask s.clock.phase = false) (d : FixtureConfig) (hd : (s.fixture f).config = some d) :
      inMask d.liveMask s.clock.phase = false := by
    obtain rfl : c = d := Option.some.inj (hc.symm.trans hd)
    exact m
  split
  · rename_i hstate _
    exact h.setFixtureState (.inr rfl) (by simp [hstate]) nofun
  · rename_i hstate hmask
    exact h.setFixtureState (.inl rfl) (by simp [hstate]) fun _ => mask hmask
  · rename_i hstate hmask
    exact h.phaseRelease hc hk hstate hmask
  · rename_i dormant free held
    refine h.update f rfl (fun g hg n => n.resolve_right hg) (fun g _ => .refl _) fun d hd hkd => ?_
    obtain rfl : c = d := Option.some.inj (hc.symm.trans hd)
    obtain ⟨shape, -⟩ := (claimsNoticed_iff.mp h) f c hc hk
    refine ⟨shape, fun _ => ⟨fun e => ?_, fun e => ?_⟩⟩
    · rw [Clock.matchPhase_of_ne hnew]
      exact Bool.of_not_eq_false (held e)
    · exact Bool.of_not_eq_true (dormant e)

/-- The notice at one fixture. -/
theorem ClaimsNoticed.fixtureNotice (old : Phase) (h : ClaimsNoticed noticed s) (hnew : s.clock.phase ≠ .halted) :
    ClaimsNoticed (fun g => noticed g ∨ g = f) (Machine.fixtureNotice old s.clock.phase s f) := by
  have unclaimable {t : State} (hk : ∀ c, (s.fixture f).config = some c → c.kind.claimable = false)
      (ht : t.clock = s.clock ∧ (t.fixture f).config = (s.fixture f).config ∧ ∀ g, g ≠ f → t.fixture g = s.fixture g) :
      ClaimsNoticed (fun g => noticed g ∨ g = f) t := by
    obtain ⟨clock, config, other⟩ := ht
    refine h.update f clock (fun g hg n => n.resolve_right hg) (fun g hg => ?_) fun d hd hkd => ?_
    · rw [other g hg]; exact .refl _
    · simp [hk d (config ▸ hd)] at hkd
  unfold Machine.fixtureNotice
  dsimp only
  refine ClaimsNoticed.congr ?_ (by rw [State.refreshIndicator_clock]) (by rw [State.refreshIndicator_clock])
    (refreshIndicator_sameClaim _ f)
  split
  · rename_i hc
    exact unclaimable (fun c e => by rw [hc] at e; cases e) ⟨rfl, rfl, fun _ _ => rfl⟩
  · rename_i c hc
    split
    · rename_i hor
      have dead := hor.resolve_left hnew
      refine h.update f rfl (fun g hg n => n.resolve_right hg) (fun g _ => .refl _) fun d hd hkd => ?_
      obtain ⟨shape, -⟩ := (claimsNoticed_iff.mp h) f d hd hkd
      exact ⟨shape, fun _ => ⟨fun e => by simp [dead] at e, fun e => by simp [dead] at e⟩⟩
    · have kind {k : Kind} (hp : c.params.kind = k) (d : FixtureConfig) (hd : (s.fixture f).config = some d) :
          d.kind.claimable = k.claimable := by
        obtain rfl : c = d := Option.some.inj (hc.symm.trans hd)
        rw [FixtureConfig.kind, hp]
      split
      · rename_i hp
        exact h.claimNotice hc (kind (k := .gate) (by rw [hp]; rfl) c hc) hnew
      · rename_i hp
        exact h.claimNotice hc (kind (k := .dispenser) (by rw [hp]; rfl) c hc) hnew
      · rename_i hp
        exact unclaimable (kind (k := .zone) (by rw [hp]; rfl)) (zoneNotice_elsewhere s f c _)
      · rename_i hp
        exact unclaimable (kind (k := .goal) (by rw [hp]; rfl)) (goalNotice_elsewhere s f c _ old _)

end

theorem fixtureNotice_clock (old new : Phase) (s : State) (f : FixtureNo) :
    (fixtureNotice old new s f).clock = s.clock := by
  unfold fixtureNotice
  rw [State.refreshIndicator_clock]
  split
  · rfl
  · split
    · rfl
    · have claim (c : FixtureConfig) : (claimNotice s f c new).clock = s.clock := by
        unfold claimNotice; split <;> simp
      split
      · exact claim _
      · exact claim _
      · exact (zoneNotice_elsewhere s f _ new).1
      · exact (goalNotice_elsewhere s f _ _ old new).1

/-- The notice at some fixtures in turn. -/
theorem ClaimsNoticed.fixtureNotices (old : Phase) (fs : List FixtureNo) : ∀ {noticed : FixtureNo → Prop} {s : State},
    ClaimsNoticed noticed s → s.clock.phase ≠ .halted →
    ClaimsNoticed (fun g => noticed g ∨ g ∈ fs) (fs.foldl (Machine.fixtureNotice old s.clock.phase) s) := by
  induction fs with
  | nil => intro noticed s h _; simpa using h
  | cons f fs ih =>
    intro noticed s h hnew
    have clock := fixtureNotice_clock old s.clock.phase s f
    have := ih (h.fixtureNotice (f := f) old hnew) (by rw [clock]; exact hnew)
    rw [clock] at this
    simpa [or_assoc] using this

/-- While HALTED a notice changes no claim (R5). -/
theorem fixtureNotice_halted (old : Phase) (s : State) (f : FixtureNo) :
    fixtureNotice old .halted s f = s.refreshIndicator f := by
  unfold fixtureNotice
  dsimp only
  split <;> simp

theorem ClaimsSound.refreshIndicator {s : State} (h : ClaimsSound s) (f : FixtureNo) :
    ClaimsSound (s.refreshIndicator f) :=
  h.congr (by simp) (by simp) (refreshIndicator_sameClaim s f)

/-- R150: the runners' stop reports to the dispensers, and may release them. -/
theorem ClaimsSound.haltRunners {s : State} (h : ClaimsSound s) : ClaimsSound (haltRunners s) := by
  have one {u : State} (hu : ClaimsSound u) (r : RunnerId) : ClaimsSound (haltRunner u r) := by
    refine ClaimsSound.settle (hu.congr ?_ ?_ fun f => ?_) fun f t ht => ?_
    · rw [State.setRunner_clock]
    · rw [State.setRunner_clock]
    · rw [State.setRunner_fixture]; exact .refl _
    · rcases List.mem_append.mp ht with ht | ht
      · split at ht
        · exact reportTask_attends t ht
        · cases ht
      · obtain ⟨_, -, ht⟩ := List.mem_flatMap.mp ht
        exact reportTask_attends t ht
  exact one (one h .A) .B

theorem mem_fixtureNumbers (f : FixtureNo) : f ∈ fixtureNumbers := by revert f; decide

/-- Claims of which every one has been noticed are in order. -/
theorem ClaimsNoticed.all {noticed : FixtureNo → Prop} {s : State} (h : ClaimsNoticed noticed s) (hn : ∀ f, noticed f) :
    ClaimsSound s := by
  rw [claimsSound_iff]
  rw [claimsNoticed_iff] at h ⊢
  intro f c hc hk
  obtain ⟨shape, phased⟩ := h f c hc hk
  exact ⟨shape, fun _ => phased (hn f)⟩

/-- R96, from step 2 on: the runners, the pulse units and the field picture. -/
theorem ClaimsSound.announced {s : State} (h : ClaimsSound s) (pulse : State → Pulse) :
    ClaimsSound { s with pulse := pulse s }.raiseChange :=
  h.congr (by rw [State.raiseChange_clock]) (by rw [State.raiseChange_clock])
    fun f => by rw [State.raiseChange_fixture]; exact .refl _

/-- R96: once a phase-change notice has been taken, the claims are in order in the new phase. -/
theorem ClaimsNoticed.announce {s : State} (old : Phase) (h : ClaimsNoticed (fun _ => False) s)
    (hnew : s.clock.phase ≠ .halted) : ClaimsSound (Machine.announce s old) := by
  have sound : ClaimsSound (fixtureNumbers.foldl (Machine.fixtureNotice old s.clock.phase) s) :=
    (ClaimsNoticed.fixtureNotices old fixtureNumbers h hnew).all fun f => .inr (mem_fixtureNumbers f)
  unfold Machine.announce
  simp only [if_neg hnew]
  exact sound.announced fun s => s.pulse.leaveSafe

/-- R5, R150: the notice of HALTED keeps the claims, which the halted phase leaves in order. -/
theorem ClaimsSound.announce {s : State} (old : Phase) (h : ClaimsSound s) (hnew : s.clock.phase = .halted) :
    ClaimsSound (Machine.announce s old) := by
  have sound : ClaimsSound (fixtureNumbers.foldl (Machine.fixtureNotice old .halted) s) :=
    List.foldlRecOn _ _ h fun u hu f _ => by rw [fixtureNotice_halted]; exact hu.refreshIndicator f
  unfold Machine.announce
  simp only [hnew, if_true]
  exact sound.haltRunners.announced fun s => s.pulse.enterSafe

end Sys2Proof.Machine
end

section
/-! Proofs, part 7: O9 settled: what each operation behind the commands does to the claims, as `Kept` asks for it. -/

namespace Sys2Proof.Machine

section
variable {s : State} {f : FixtureNo}

/-! ## Changes that matter to no claim -/

theorem ClaimsSound.of_fixtures {t : State} (h : ClaimsSound s) (clock : t.clock = s.clock)
    (fixtures : ∀ g, t.fixture g = s.fixture g) : ClaimsSound t :=
  h.congr (by rw [clock]) (by rw [clock]) fun g => by rw [fixtures]; exact .refl _

theorem ClaimsSound.raiseChange (h : ClaimsSound s) : ClaimsSound s.raiseChange :=
  h.of_fixtures (by simp) (by simp)

theorem ClaimsSound.createEvent (h : ClaimsSound s) (e : EventKind) (g : Option FixtureNo) (r : Robot) (side : Side)
    (v : Nat) : ClaimsSound (s.createEvent e g r side v) := h.of_fixtures (by simp) (by simp)

theorem ClaimsSound.makeHoldOff (h : ClaimsSound s) (r : Robot) : ClaimsSound (s.makeHoldOff r f) :=
  h.of_fixtures (by simp) (by simp)

theorem ClaimsSound.setFixture (h : ClaimsSound s) {x : Fixture} (hx : (s.fixture f).SameClaim x) :
    ClaimsSound (s.setFixture f x) := by
  refine h.congr rfl rfl fun g => ?_
  by_cases hg : f = g
  · subst hg; rw [State.setFixture_fixture_same]; exact hx
  · rw [State.setFixture_fixture_other s hg]; exact .refl _

theorem ClaimsSound.setClaims (h : ClaimsSound s) {c : Claims}
    (holder : c.holder.map Holder.robot = (s.fixture f).holderRobot)
    (queue : c.queue.map Waiter.robot = (s.fixture f).queueRobots) : ClaimsSound (s.setClaims f c) :=
  h.congr rfl rfl fun g => SameClaim.setClaims s f g holder queue

theorem ClaimsSound.startTransient (h : ClaimsSound s) (t : Transient) : ClaimsSound (s.startTransient f t) :=
  ClaimsSound.refreshIndicator (h.setFixture (by exact ⟨rfl, rfl, rfl, rfl⟩)) f

/-- What happens to a fixture of another kind matters to no claim. -/
theorem ClaimsSound.setUnclaimable (h : ClaimsSound s) {x : Fixture}
    (hx : ∀ c, x.config = some c → c.kind.claimable = false) : ClaimsSound (s.setFixture f x) := by
  refine h.update f rfl (fun g hg => ?_) fun c hc hk => ?_
  · rw [State.setFixture_fixture_other s (Ne.symm hg)]; exact .refl _
  · rw [State.setFixture_fixture_same] at hc
    simp [hx c hc] at hk

/-- A goal is not claimable (Table 1-2). -/
theorem Fixture.liveGoal_unclaimable {x : Fixture} (h : x.liveGoal = true) {c : FixtureConfig}
    (hc : x.config = some c) : c.kind.claimable = false := by
  have hgoal : c.kind = .goal := by
    simp only [Fixture.liveGoal, Fixture.kind?, hc, Option.map_some, Bool.and_eq_true, beq_iff_eq] at h
    exact Option.some.inj h.1
  rw [hgoal]; rfl

/-- Time changes what the robots' records count, not whose they are. -/
theorem ClaimsSound.advance (h : ClaimsSound s) (d : Nat) : ClaimsSound (s.advance d) := by
  refine h.congr (by simp) (by simp) fun g => ?_
  cases hrun : s.running with
  | true =>
    rw [State.advance_fixture s d g hrun]
    refine ⟨rfl, rfl, ?_, ?_⟩
    · show Option.map _ (Option.map _ _) = Option.map _ _
      rw [Option.map_map]; rfl
    · show List.map _ (List.map _ _) = List.map _ _
      rw [List.map_map]; rfl
  | false => rw [s.advance_stopped d hrun]; exact .refl _

/-! ## Requests, queues and releases (R23, R24, R28, R32, R33) -/

/-- Table 2-1: a REQUEST that goes to the fixture comes from a robot not there yet and passes the checks of a claim; it
is granted at a FREE fixture and queued elsewhere. -/
theorem State.judgeClaim_passes {c : FixtureConfig} {r : Robot}
    (h : s.judgeClaim f c r = .granted ∨ s.judgeClaim f c r = .queued) :
    (s.fixture f).claims.holds r = false ∧ (s.fixture f).claims.queued r = false ∧ s.claimFault f c r = none ∧
      (s.judgeClaim f c r = .granted ↔ (s.fixture f).state = .free) := by
  unfold State.judgeClaim at h ⊢
  dsimp only at h ⊢
  by_cases hoff : s.heldOff r f = true
  · simp [hoff] at h
  · by_cases here : ((s.fixture f).claims.holds r || (s.fixture f).claims.queued r) = true
    · simp [hoff, here] at h
    · cases hfault : s.claimFault f c r with
      | some reason => simp [hoff, here, hfault] at h
      | none =>
        rw [if_neg hoff, if_neg here]
        simp only [Bool.or_eq_true, not_or, Bool.not_eq_true] at here
        refine ⟨here.1, here.2, rfl, ?_⟩
        dsimp only
        split <;> rename_i hfree
        · simp [hfree]
        · split <;> simp [hfree]

/-- R27: a claim that passes at a FREE fixture may be granted. -/
theorem ClaimsSound.grant (h : ClaimsSound s) {c : FixtureConfig} {r : Robot} {side : Side} {seen age : Nat}
    (hc : (s.fixture f).config = some c) (hfault : s.claimFault f c r = none) (hfree : (s.fixture f).state = .free) :
    ClaimsSound (Machine.settle s [.grant f r side seen age]) := by
  refine claimsSound_iff.mpr (Stacked.settle fun g d hd hk => ?_)
  obtain ⟨shape, phased⟩ := claimsNoticed_iff.mp (claimsSound_iff.mp h) g d hd hk
  by_cases hg : g = f
  · subst hg
    obtain rfl : c = d := Option.some.inj (hc.symm.trans hd)
    have unheld : (s.fixture g).state ≠ .held := by simp [hfree]
    have holder : (s.fixture g).holderRobot = none := by simpa using mt shape.held.mpr unheld
    have queue := shape.queue unheld
    rw [List.filter_cons_of_pos (by simp [Task.attends])]
    exact .attended ⟨hfree, holder, by simp [queue], by simp [queue], State.claimFault_none_phase hfault⟩
  · rw [List.filter_cons_of_neg (by simpa [Task.attends] using Ne.symm hg)]
    exact .inOrder shape phased

/-- R28: a robot that joins the queue of a HELD fixture neither holds it nor waits there. -/
theorem ClaimsSound.joinQueue (h : ClaimsSound s) {r : Robot} (hheld : (s.fixture f).state = .held)
    (hholds : (s.fixture f).claims.holds r = false) (hqueued : (s.fixture f).claims.queued r = false) :
    ClaimsSound (joinQueue s f r) := by
  have holder : (s.fixture f).holderRobot ≠ some r := by
    rw [Fixture.holderRobot, Ne, ← Claims.holds_iff, hholds]; simp
  have waiting : r ∉ (s.fixture f).queueRobots := by
    intro hr
    have : (s.fixture f).claims.queued r = true := (Claims.queued_iff _ r).mpr (List.mem_map.mp hr)
    simp [hqueued] at this
  refine claimsSound_iff.mpr ((claimsSound_iff.mp h).update f rfl (fun _ _ n => n) (fun g hg => ?_) fun c hc hk => ?_)
  · simp only [Machine.joinQueue, State.setClaims_fixture, if_neg (Ne.symm hg)]; exact .refl _
  · have hc' : (s.fixture f).config = some c := by simpa [Machine.joinQueue] using hc
    obtain ⟨shape, phased⟩ := claimsNoticed_iff.mp (claimsSound_iff.mp h) f c hc' hk
    have queue : ((Machine.joinQueue s f r).fixture f).queueRobots = (s.fixture f).queueRobots ++ [r] := by
      rw [joinQueue_fixture]; simp [Fixture.queueRobots]
    have state : ((Machine.joinQueue s f r).fixture f).state = (s.fixture f).state := by rw [joinQueue_fixture]
    have holder' : ((Machine.joinQueue s f r).fixture f).holderRobot = (s.fixture f).holderRobot := by
      rw [joinQueue_fixture]; rfl
    obtain ⟨live, dormant⟩ := phased trivial
    constructor
    · constructor
      · rw [state, holder']; exact shape.held
      · rw [state]; exact absurd hheld
      · rw [queue]; exact List.nodup_append.mpr ⟨shape.nodup, by simp, by
        rintro a ha b hb rfl
        exact waiting (List.mem_singleton.mp hb ▸ ha)⟩
      · rw [queue, holder']
        intro q hq
        have : q ≠ r := fun e => holder (e ▸ hq)
        simpa [this] using shape.absent q hq
      · rw [state]; exact shape.state
    · exact fun _ => ⟨by rw [state]; exact live, by rw [state]; exact dormant⟩

/-- R33: a queue stays in order when robots leave it. -/
theorem ClaimsSound.dropQueued (h : ClaimsSound s) (r : Robot) : ClaimsSound (dropQueued s f r) := by
  refine ClaimsSound.makeHoldOff ?_ r
  refine claimsSound_iff.mpr ((claimsSound_iff.mp h).update f rfl (fun _ _ n => n) (fun g hg => ?_) fun c hc hk => ?_)
  · rw [State.setClaims_fixture, if_neg (Ne.symm hg)]; exact .refl _
  · have hc' : (s.fixture f).config = some c := by simpa using hc
    obtain ⟨⟨held, queue, nodup, absent, state⟩, phased⟩ := claimsNoticed_iff.mp (claimsSound_iff.mp h) f c hc' hk
    rw [State.setClaims_fixture, if_pos rfl]
    have left : (((s.fixture f).claims.queue.filter fun w => w.robot != r).map Waiter.robot).Sublist
        (s.fixture f).queueRobots := List.filter_sublist.map _
    obtain ⟨live, dormant⟩ := phased trivial
    exact ⟨⟨held, fun e => List.sublist_nil.mp (queue e ▸ left), nodup.sublist left,
      fun q hq hin => absent q hq (left.subset hin), state⟩, fun _ => ⟨live, dormant⟩⟩

theorem ClaimsSound.takeRequest (h : ClaimsSound s) {c : FixtureConfig} (r : Robot)
    (hc : (s.fixture f).config = some c) (hk : c.kind.claimable = true) (halive : (s.fixture f).state ≠ .dead) :
    ClaimsSound (takeRequest s f c r) := by
  unfold Machine.takeRequest
  split
  · exact h
  · exact h
  · exact (h.makeHoldOff r).startTransient .refused
  · rename_i hgranted
    obtain ⟨-, -, hfault, hfree⟩ := State.judgeClaim_passes (.inl hgranted)
    exact h.grant hc hfault (hfree.mp hgranted)
  · rename_i hqueued
    obtain ⟨hholds, hwaits, hfault, hfree⟩ := State.judgeClaim_passes (.inr hqueued)
    have unfree : (s.fixture f).state ≠ .free := fun e => by rw [hfree.mpr e] at hqueued; cases hqueued
    obtain ⟨shape, phased⟩ := claimsNoticed_iff.mp (claimsSound_iff.mp h) f c hc hk
    have awake : (s.fixture f).state ≠ .dormant := fun e => by
      have := (phased trivial).dormant e
      rw [State.claimFault_none_phase hfault] at this; cases this
    have hheld : (s.fixture f).state = .held := by
      rcases shape.state with e | e | e | e
      · exact absurd e halive
      · exact absurd e awake
      · exact absurd e unfree
      · exact e
    exact h.joinQueue hheld hholds hwaits

theorem ClaimsSound.release (h : ClaimsSound s) (cause : ReleaseCause) :
    ClaimsSound (Machine.settle s [.release f cause]) := h.settle (by simp [Task.attends])

theorem ClaimsSound.takeRelease (h : ClaimsSound s) (c : FixtureConfig) (r : Robot) :
    ClaimsSound (takeRelease s f c r) := by
  unfold Machine.takeRelease
  dsimp only
  split
  · split
    · exact h.release .released
    all_goals exact h
  · split
    · exact h.dropQueued r
    · exact h

/-- R78: what a sighting does at the port's claimable fixture. -/
theorem ClaimsSound.sighting (h : ClaimsSound s) (p : PortNo) (r : Robot) (i : Intent) :
    ClaimsSound (sightingAtFixture s p r i) := by
  unfold sightingAtFixture
  split
  · exact h
  · rename_i f hf
    split
    · exact h
    · rename_i c hc
      split
      · exact h
      · rename_i halive
        have seen : ClaimsSound (s.setClaims f ((s.fixture f).claims.refresh r s.nowMs)) :=
          h.setClaims (Claims.refresh_holderRobot _ r _) (Claims.refresh_queueRobots _ r _)
        cases i with
        | present => exact seen
        | request => exact seen.takeRequest r (by simpa using hc) (State.claimable_kind hf hc) (by simpa using halive)
        | release => exact seen.takeRelease c r

/-! ## Ticks, refills, goals and samples (R30, R39, R48, R64–R69, R127) -/

theorem ClaimsSound.zoneTick (h : ClaimsSound s) (c : FixtureConfig) (cmax rateCap : Nat) :
    ClaimsSound (zoneTick s f c cmax rateCap) := by
  have controlled : ClaimsSound (s.setFixture f { s.fixture f with
      control := (s.fixture f).control.tick cmax (s.zoneRates c rateCap) }) := h.setFixture ⟨rfl, rfl, rfl, rfl⟩
  unfold Machine.zoneTick
  dsimp only
  split
  · split
    · exact controlled.refreshIndicator f
    · exact controlled.raiseChange.refreshIndicator f
  · rename_i hne
    rw [if_neg fun e => hne e.1]
    exact ((controlled.createEvent _ _ _ _ _).raiseChange.refreshIndicator f).settle fun _ => startTask_attends

theorem ClaimsSound.fixtureTick (h : ClaimsSound s) (f : FixtureNo) : ClaimsSound (fixtureTick s f) := by
  unfold Machine.fixtureTick
  dsimp only
  split
  · exact h
  · split
    · exact h
    · split
      · unfold gateTick
        dsimp only
        split
        · exact h.setClaims (by rw [Option.map_map]; rfl) rfl
        · exact h
      · unfold dispenserTick
        dsimp only
        split
        · exact h.setClaims rfl rfl
        · exact h
      · split
        · exact h.zoneTick _ _ _
        · exact h
      · exact h

theorem ClaimsSound.refill (h : ClaimsSound s) (f : FixtureNo) : ClaimsSound (refillFixture f s) := by
  unfold refillFixture
  dsimp only
  split
  · exact h
  · split
    · exact h.setClaims rfl rfl
    all_goals exact h

theorem ClaimsSound.endGrace (h : ClaimsSound s) (hgoal : (s.fixture f).liveGoal = true) :
    ClaimsSound (endGrace f s) := by
  unfold Machine.endGrace
  dsimp only
  split
  · exact h
  · split
    · exact h.setFixture ⟨rfl, rfl, rfl, rfl⟩
    · exact (h.setUnclaimable (by exact fun _ => Fixture.liveGoal_unclaimable hgoal)).raiseChange.refreshIndicator f

theorem ClaimsSound.jam (h : ClaimsSound s) (hgoal : (s.fixture f).liveGoal = true) : ClaimsSound (jamGoal f s) :=
  ((h.setUnclaimable (by exact fun _ => Fixture.liveGoal_unclaimable hgoal)).createEvent _ _ _ _
    _).raiseChange.refreshIndicator f

theorem ClaimsSound.unjam (h : ClaimsSound s) (hgoal : (s.fixture f).liveGoal = true) :
    ClaimsSound (unjamGoal f s) := by
  unfold unjamGoal
  dsimp only
  split
  · exact h
  · exact ((h.setUnclaimable (by exact fun _ => Fixture.liveGoal_unclaimable hgoal)).createEvent _ _ _ _
      _).raiseChange.refreshIndicator f

theorem ClaimsSound.piece (h : ClaimsSound s) (f : FixtureNo) : ClaimsSound (takePiece s f) := by
  have counted (c : FixtureConfig) (rule : Option CreditRule) (values : PerPhase) (phase : Phase) :
      ClaimsSound (countPiece s f c rule values phase) := by
    have scored (n : Nat) : ClaimsSound (s.setFixture f { s.fixture f with
        scoring := { (s.fixture f).scoring with pieces := n } }) := h.setFixture ⟨rfl, rfl, rfl, rfl⟩
    have credited (n : Nat) (points : PerSide) : ClaimsSound { s.setFixture f { s.fixture f with
        scoring := { (s.fixture f).scoring with pieces := n } } with
        engine := { (s.setFixture f { s.fixture f with
          scoring := { (s.fixture f).scoring with pieces := n } }).engine with points := points } } := scored n
    exact (((credited _ _).createEvent _ _ _ _ _).raiseChange.startTransient .scored).settle fun _ => startTask_attends
  unfold Machine.takePiece
  dsimp only
  split
  · exact h
  · split
    · split
      · exact h
      · split
        · exact counted _ _ _ _
        · split
          · exact counted _ _ _ _
          · exact h
        all_goals exact h
    all_goals exact h

theorem Fixture.SameClaim.inputChanged (x : Fixture) (changed : Bool) : x.SameClaim (x.inputChanged changed) := by
  unfold Fixture.inputChanged
  split
  · exact ⟨rfl, rfl, rfl, rfl⟩
  · exact .refl x

/-- Samples touch a fixture in its jam timer alone (R66). -/
theorem ClaimsSound.sampleRecords (h : ClaimsSound s) (pins : BitVec 12) (sample : Input → Bool → Input) :
    ClaimsSound (sampleRecords s pins sample) := by
  have sampled (inputs : Inputs) (g : FixtureNo → Bool) : ClaimsSound { s with
      inputs := inputs
      engine := { s.engine with fixtures := Vector.ofFn fun i => s.engine.fixtures[i].inputChanged (g i) } } :=
    h.congr rfl rfl fun f => by
      simpa [State.fixture] using Fixture.SameClaim.inputChanged _ _
  unfold Machine.sampleRecords
  dsimp only
  split
  · exact sampled _ _
  · exact (sampled _ _).raiseChange

/-- R145: what follows a pattern's end attends no fixture itself. -/
theorem afterPattern_attends {u : UnitNo} {r : RunnerId} : ∀ t ∈ afterPattern s u r, t.attends f = false := by
  unfold afterPattern
  dsimp only
  split
  · split <;> simp [Task.attends]
  · split
    · exact completeTasks_attends
    · simp
  · simp

theorem ClaimsSound.endPatternPhase (h : ClaimsSound s) (u : UnitNo) : ClaimsSound (endPatternPhase u s) := by
  have freed : ClaimsSound (s.setUnit u s.pulse.units[u].released) := h
  have ends : ClaimsSound (endPattern s u) := by
    unfold endPattern
    dsimp only
    split
    · exact freed
    · refine freed.settle fun f t ht => ?_
      rcases List.mem_cons.mp ht with rfl | ht
      · rfl
      · exact afterPattern_attends t ht
  unfold Machine.endPatternPhase
  split
  · exact h
  · split
    · exact h
    · exact ends

/-! ## Changes of phase (R90, R92–R96, R104) -/

/-- A change to a phase other than HALTED gives every fixture notice. -/
theorem ClaimsSound.changePhase {t : State} (h : ClaimsSound s) (same : ∀ g, (s.fixture g).SameClaim (t.fixture g))
    {new : Phase} (hnew : new ≠ .halted) : ClaimsSound (changePhase t new) :=
  ClaimsNoticed.announce _ (h.unnoticed same) hnew

/-- A HELD fixture's mask holds the phase that resumes, where the mask of the match's phase does. -/
theorem ClaimsSound.changeToHalted {t : State} (h : ClaimsSound s) (same : ∀ g, (s.fixture g).SameClaim (t.fixture g))
    (resume : ∀ mask, inMask mask s.clock.matchPhase = true → inMask mask t.clock.resume = true) :
    ClaimsSound (Machine.changePhase t .halted) := by
  refine ClaimsSound.announce _ (claimsSound_iff.mpr (claimsNoticed_iff.mpr fun f c hc hk => ?_)) rfl
  obtain ⟨shape, phased⟩ := claimsNoticed_iff.mp (claimsSound_iff.mp h) f c ((same f).config ▸ hc) hk
  exact ⟨shape.congr (same f), fun _ =>
    ⟨fun e => resume _ ((phased trivial).held ((same f).state ▸ e)), fun _ => inMask_halted _⟩⟩

theorem Clock.firstPhase_ne_halted (c : Clock) : c.firstPhase ≠ .halted := by
  unfold Clock.firstPhase
  split
  · rename_i p hp
    have := List.mem_of_find?_eq_some hp
    rintro rfl
    simp [runningPhases] at this
  · nofun

theorem Clock.nextPhase_ne_halted (c : Clock) : c.nextPhase ≠ .halted := by
  unfold Clock.nextPhase
  split
  · rename_i p hp
    have := (List.mem_filter.mp (List.mem_of_find?_eq_some hp)).1
    rintro rfl
    simp [runningPhases] at this
  · nofun

theorem Fixture.SameClaim.resetAllowance (x : Fixture) : x.SameClaim x.resetAllowance := by
  unfold Fixture.resetAllowance
  split
  · split
    · split <;> exact ⟨rfl, rfl, rfl, rfl⟩
    all_goals exact .refl x
  · exact .refl x

theorem ClaimsSound.start (h : ClaimsSound s) : ClaimsSound (applyStart s) := by
  rw [applyStart_eq]
  refine h.changePhase (fun f => ?_) s.clock.firstPhase_ne_halted
  simpa [State.startBegun, State.fixture] using Fixture.SameClaim.resetAllowance _

theorem ClaimsSound.halt (h : ClaimsSound s) (hphase : s.clock.phase ≠ .halted) : ClaimsSound (applyHalt s) :=
  h.changeToHalted (fun _ => .refl _) fun _ live => by rwa [Clock.matchPhase_of_ne hphase] at live

theorem ClaimsSound.resume (h : ClaimsSound s) (hphase : s.clock.phase = .halted) : ClaimsSound (applyResume s) := by
  unfold applyResume
  by_cases hresume : s.clock.resume = .halted
  · rw [hresume]
    exact h.changeToHalted (fun _ => .refl _) fun _ live => by rwa [Clock.matchPhase, if_pos hphase] at live
  · exact h.changePhase (fun _ => .refl _) hresume

/-- R104: a station joins from IDLE, where no fixture is HELD. -/
theorem ClaimsSound.join (h : ClaimsSound s) (row : PeerRow) : ClaimsSound (lateJoin s row) := by
  unfold lateJoin
  split
  · rename_i hadopts
    simp only [State.adopts, Bool.and_eq_true, beq_iff_eq] at hadopts
    obtain ⟨⟨⟨-, hidle⟩, -⟩, hrow⟩ := hadopts
    dsimp only
    generalize (if row.phase.running = true then _ else _ : Clock) = clock
    by_cases hhalted : row.phase = .halted
    · rw [hhalted]
      refine h.changeToHalted (t := { s with clock := clock }) (fun _ => .refl _) fun mask live => ?_
      simp [Clock.matchPhase, hidle] at live
    · exact h.changePhase (t := { s with clock := clock }) (fun _ => .refl _) hhalted
  · exact h

/-! ### CLEAR (R95, R22) -/

/-- A fixture that CLEAR has cleared is DEAD as it was, or DORMANT with nobody there. -/
theorem ClaimShape.cleared {x : Fixture} (h : ClaimShape x) :
    ClaimShape x.cleared ∧ (x.cleared.state = .dead ∨ x.cleared.state = .dormant) := by
  unfold Fixture.cleared
  split
  · exact ⟨h, .inl ‹_›⟩
  · exact ⟨.of_empty (.inr (.inl rfl)) rfl rfl, .inr rfl⟩

/-- In IDLE a fixture that is DEAD or DORMANT stands as it should. -/
theorem ClaimPhased.of_idle {clock : Clock} {x : Fixture} {c : FixtureConfig} (idle : clock.phase = .idle)
    (state : x.state = .dead ∨ x.state = .dormant) : ClaimPhased clock x c where
  held e := by rcases state with h | h <;> simp [h] at e
  dormant _ := by rw [idle, inMask_idle]

theorem ClaimsSound.fixturesCleared (h : ClaimsSound s) : ClaimsSound s.fixturesCleared := by
  have fixture (f : FixtureNo) : s.fixturesCleared.fixture f = (s.fixture f).cleared := by
    simp [State.fixturesCleared, State.fixture]
  refine claimsSound_iff.mpr (claimsNoticed_iff.mpr fun f c hc hk => ?_)
  rw [fixture] at hc ⊢
  obtain ⟨shape, -⟩ := claimsNoticed_iff.mp (claimsSound_iff.mp h) f c (Fixture.cleared_config _ ▸ hc) hk
  obtain ⟨cleared, state⟩ := shape.cleared
  exact ⟨cleared, fun _ => .of_idle rfl state⟩

@[simp] theorem State.clearEnded_clock (s : State) : s.clearEnded.clock = s.clock := by
  unfold State.clearEnded; rw [State.raiseChange_clock]

@[simp] theorem State.clearEnded_fixture (s : State) (f : FixtureNo) : s.clearEnded.fixture f = s.fixture f := by
  unfold State.clearEnded; rw [State.raiseChange_fixture]; rfl

theorem ClaimsSound.clearEnded (h : ClaimsSound s) : ClaimsSound s.clearEnded := h.of_fixtures (by simp) (by simp)

theorem ClaimsSound.clear (h : ClaimsSound s) : ClaimsSound (applyClear s) := by
  rw [applyClear_eq]
  have refreshed : ClaimsSound (fixtureNumbers.foldl State.refreshIndicator s.fixturesCleared) :=
    List.foldlRecOn _ _ h.fixturesCleared fun _ hu f _ => hu.refreshIndicator f
  exact refreshed.haltRunners.clearEnded

end

/-! ## Every step -/

theorem kept_claimsSound : Kept ClaimsSound where
  pending _ h := h
  advance d h := h.advance d
  reporting _ _ h := h
  setPort _ _ h := h
  clock _ phase resume _ _ h := h.congr phase resume fun _ => .refl _
  sighting p r i h := h.sighting p r i
  dropHoldOff _ _ h := h
  dropQueued _ r h := h.dropQueued r
  release _ cause h := h.release cause
  moveOn _ h := h.settle (by simp [Task.attends])
  fixtureTick f h := h.fixtureTick f
  refill f h := h.refill f
  endGrace _ hgoal h := h.endGrace hgoal
  jam _ hgoal h := h.jam hgoal
  unjam _ hgoal h := h.unjam hgoal
  endTransient f h := ClaimsSound.refreshIndicator (h.setFixture (by exact ⟨rfl, rfl, rfl, rfl⟩)) f
  sample pins h := h.sampleRecords pins _
  latch _ h := h
  piece f h := h.piece f
  start _ h := h.start
  halt hphase h := h.halt hphase
  resume hphase h := h.resume hphase
  clear _ h := h.clear
  nextPhase h := h.changePhase (fun _ => .refl _) (Clock.nextPhase_ne_halted _)
  join row h := h.join row
  endPattern u h := h.endPatternPhase u
  endLamp _ h := h

/-- R21: a fixture the script gives is absent, or DEAD or DORMANT with nobody there. -/
theorem readScript_fixture (records : List Record) (f : FixtureNo) :
    (readScript records).fixtures[f] = Fixture.absent ∨
      ∃ c dead, (readScript records).fixtures[f] = Fixture.loaded c dead := by
  simp only [readScript, Fin.getElem_fin, Vector.getElem_ofFn]
  split
  · exact .inr ⟨_, _, rfl⟩
  · exact .inl rfl

theorem ClaimShape.loaded (c : FixtureConfig) (dead : Bool) :
    ClaimShape (Fixture.loaded c dead) ∧
      ((Fixture.loaded c dead).state = .dead ∨ (Fixture.loaded c dead).state = .dormant) := by
  have state : (Fixture.loaded c dead).state = .dead ∨ (Fixture.loaded c dead).state = .dormant := by
    cases dead
    · exact .inr rfl
    · exact .inl rfl
  exact ⟨.of_empty (state.imp_right .inl) rfl rfl, state⟩

theorem showIndicators_clock (s : State) : (showIndicators s).clock = s.clock :=
  List.foldlRecOn fixtureNumbers _ (motive := fun u : State => u.clock = s.clock) rfl
    fun u hu f _ => (u.handOver_clock f _).trans hu

/-- R194: a station that has just been configured has no claims yet. -/
theorem claimsSound_configured (s : State) (records : List Record) (dominant : Nat) :
    ClaimsSound (showIndicators (State.configure s (readScript records) dominant)) := by
  have fixture (f : FixtureNo) : (showIndicators (State.configure s (readScript records) dominant)).fixture f =
      (readScript records).fixtures[f] := by
    rw [State.fixture_def, showIndicators_engine]; rfl
  have clock : (showIndicators (State.configure s (readScript records) dominant)).clock.phase = .idle := by
    rw [showIndicators_clock]; rfl
  refine claimsSound_iff.mpr (claimsNoticed_iff.mpr fun f c hc hk => ?_)
  rw [fixture] at hc ⊢
  rcases readScript_fixture records f with habsent | ⟨d, dead, hloaded⟩
  · rw [habsent] at hc; cases hc
  · rw [hloaded]
    obtain ⟨shape, state⟩ := ClaimShape.loaded d dead
    exact ⟨shape, fun _ => .of_idle clock state⟩

/-- While LOADING every fixture is absent (R21). -/
theorem claimsSound_restart (s : State) (l : Loader) : ClaimsSound (State.restart s l) := by
  intro f c hc
  have habsent : (State.restart s l).fixture f = Fixture.absent := by
    simp [State.restart, State.fixture, State.reset, Engine.start]
  rw [habsent] at hc; cases hc

/-- Settles O9: a stack of tasks keeps every claimable fixture tended (`Stacked.settle`), and each fixture is in order in
the new phase once it has taken its notice (`ClaimsNoticed.announce`). -/
theorem claimsStaySound : Obligations.ClaimsStaySound := by
  unfold Obligations.ClaimsStaySound
  intro s t
  exact kept_claimsSound.step claimsSound_restart fun s records dominant pins =>
    (claimsSound_configured s records dominant).sampleRecords pins _

end Sys2Proof.Machine
end

section
/-! Proofs for 02_holds_and_wait_queues.md, part 1: what events and status requests depend on, and what the changes at one
fixture leave. -/

namespace Sys2Proof.Machine

/-! ## What a report depends on -/

/-- What the events and status requests of two states depend on is the same in both. -/
structure ReportsAs (s t : State) : Prop where
  loader : t.loader = s.loader
  now : t.now = s.now
  clock : t.clock = s.clock
  line : t.line = s.line
  picture : t.picture = s.picture

theorem ReportsAs.refl (s : State) : ReportsAs s s := ⟨rfl, rfl, rfl, rfl, rfl⟩

/-- The one of two such states, but for the blocks that no report depends on. -/
theorem ReportsAs.eq {s t : State} (h : ReportsAs s t) :
    t = { s with settings := t.settings, engine := t.engine, ports := t.ports, inputs := t.inputs, runners := t.runners,
                 pulse := t.pulse, pending := t.pending } := by
  obtain ⟨loader, now, clock, line, picture⟩ := h
  cases t; simp only at loader now clock line picture; subst loader now clock line picture; rfl

theorem ReportsAs.raiseChange {s t : State} (h : ReportsAs s t) : ReportsAs s.raiseChange t.raiseChange := by
  rw [h.eq]
  unfold State.raiseChange State.ready
  constructor <;> (dsimp only; split <;> rfl)

theorem ReportsAs.setEventsLost {s t : State} (h : ReportsAs s t) : ReportsAs s.setEventsLost t.setEventsLost := by
  have raised := h.raiseChange
  have lost : t.picture.eventsLost = s.picture.eventsLost := by rw [h.picture]
  have guard : (t.ready && t.loader.station != 0) = (s.ready && s.loader.station != 0) := by
    simp only [State.ready, h.loader]
  unfold State.setEventsLost
  rw [guard, lost]
  split
  · have inner : ReportsAs (if s.picture.eventsLost then s else s.raiseChange)
        (if s.picture.eventsLost then t else t.raiseChange) := by split <;> assumption
    exact ⟨inner.loader, inner.now, inner.clock, inner.line, by dsimp only; rw [inner.picture]⟩
  · exact h

theorem ReportsAs.createEvent {s t : State} (h : ReportsAs s t) (k : EventKind) (f : Option FixtureNo) (r : Robot)
    (side : Side) (v : Nat) : ReportsAs (s.createEvent k f r side v) (t.createEvent k f r side v) := by
  obtain ⟨loader, now, clock, line, picture⟩ := id h
  unfold State.createEvent State.ready
  rw [loader, now, clock, line, picture]
  split
  · dsimp only
    split
    · exact ⟨rfl, rfl, rfl, rfl, rfl⟩
    · exact ReportsAs.setEventsLost ⟨rfl, rfl, rfl, rfl, rfl⟩
  · exact h

/-- A frame's event does not show whether a status has been requested. -/
@[simp] theorem State.raiseChange_createEvent_line (s : State) (k : EventKind) (f : Option FixtureNo) (r : Robot)
    (side : Side) (v : Nat) : (s.raiseChange.createEvent k f r side v).line = (s.createEvent k f r side v).line := by
  simp [State.createEvent_line, State.ready]


theorem reportsAs_setFixture (s : State) (f : FixtureNo) (x : Fixture) : ReportsAs s (s.setFixture f x) :=
  ⟨rfl, rfl, rfl, rfl, rfl⟩

theorem reportsAs_setPort (s : State) (p : PortNo) (x : Port) : ReportsAs s (s.setPort p x) :=
  ⟨rfl, rfl, rfl, rfl, rfl⟩

theorem reportsAs_setRunner (s : State) (r : RunnerId) (x : Runner) : ReportsAs s (s.setRunner r x) :=
  ⟨by simp, by simp, by simp, by simp, by simp⟩

theorem reportsAs_makeHoldOff (s : State) (r : Robot) (f : FixtureNo) : ReportsAs s (s.makeHoldOff r f) :=
  ⟨by simp, by simp, by simp, by simp, by simp⟩

theorem reportsAs_refreshIndicator (s : State) (f : FixtureNo) : ReportsAs s (s.refreshIndicator f) :=
  ⟨by simp, by simp, by simp, by simp, by simp⟩

theorem ReportsAs.trans {s t u : State} (h : ReportsAs s t) (k : ReportsAs t u) : ReportsAs s u :=
  ⟨k.loader.trans h.loader, k.now.trans h.now, k.clock.trans h.clock, k.line.trans h.line, k.picture.trans h.picture⟩

/-! ## A change at one fixture leaves the rest -/

theorem RestAs.refl (s : State) (f : FixtureNo) : RestAs s s f :=
  ⟨fun _ _ => rfl, rfl, rfl, rfl, rfl, rfl, rfl, rfl, rfl, rfl⟩

theorem RestAs.trans {s t u : State} {f : FixtureNo} (h : RestAs s t f) (k : RestAs t u f) : RestAs s u f := by
  obtain ⟨h1, h2, h3, h4, h5, h6, h7, h8, h9, h10⟩ := h
  obtain ⟨k1, k2, k3, k4, k5, k6, k7, k8, k9, k10⟩ := k
  exact ⟨fun g hg => (k1 g hg).trans (h1 g hg), k2.trans h2, k3.trans h3, k4.trans h4, k5.trans h5, k6.trans h6,
    k7.trans h7, k8.trans h8, k9.trans h9, k10.trans h10⟩

theorem restAs_setFixture (s : State) (f : FixtureNo) (x : Fixture) : RestAs s (s.setFixture f x) f :=
  ⟨fun _ hg => s.setFixture_fixture_other (Ne.symm hg) x, rfl, rfl, rfl, rfl, rfl, rfl, rfl, rfl, rfl⟩

theorem restAs_setPort (s : State) (p : PortNo) (x : Port) (f : FixtureNo) : RestAs s (s.setPort p x) f :=
  ⟨fun _ _ => rfl, rfl, rfl, rfl, rfl, rfl, rfl, rfl, rfl, rfl⟩

theorem OnlyReports.restAs {s t : State} (h : OnlyReports s t) (f : FixtureNo) : RestAs s t f := by
  rw [h]; exact ⟨fun _ _ => rfl, rfl, rfl, rfl, rfl, rfl, rfl, rfl, rfl, rfl⟩

theorem restAs_createEvent (s : State) (k : EventKind) (e : Option FixtureNo) (r : Robot) (side : Side) (v : Nat)
    (f : FixtureNo) : RestAs s (s.createEvent k e r side v) f := (onlyReports_createEvent s k e r side v).restAs f

theorem restAs_raiseChange (s : State) (f : FixtureNo) : RestAs s s.raiseChange f := (onlyReports_raiseChange s).restAs f

theorem restAs_makeHoldOff (s : State) (r : Robot) (f g : FixtureNo) : RestAs s (s.makeHoldOff r f) g := by
  simp [RestAs]

theorem restAs_refreshIndicator (s : State) (f : FixtureNo) : RestAs s (s.refreshIndicator f) f := by
  simp +contextual [RestAs, State.refreshIndicator_fixture, eq_comm (a := f)]

end Sys2Proof.Machine
end

section
/-! Proofs for 02_holds_and_wait_queues.md, part 2: the checks of a REQUEST, its refusal, and a grant at a FREE GATE (R13,
R23, R27). -/

namespace Sys2Proof.Machine

/-! ## A grant (R27) -/

/-- The allowances as a grant leaves them: a DISPENSER's side has one fewer (R27). -/
def Fixture.grantedAllowance (x : Fixture) (c : FixtureConfig) (side : Side) : PerSide :=
  if c.kind = .dispenser then x.claims.allowance.set side (x.claims.allowance.get side - 1) else x.claims.allowance

/-- A grant up to its on-grant list: the fixture has its holder, GRANT is sent, CHANGE raised, and the indicator follows. -/
def State.granted (s : State) (f : FixtureNo) (c : FixtureConfig) (h : Holder) : State :=
  let x := s.fixture f
  let allowance := x.grantedAllowance c h.side
  let held := s.setFixture f { x with state := .held, claims := { x.claims with holder := some h, allowance := allowance } }
  ((held.createEvent .grant (some f) h.robot h.side
    (if c.kind = .dispenser then allowance.get h.side else 0)).raiseChange).refreshIndicator f

/-- The kind of a configured fixture is its configuration's. -/
theorem Fixture.kind?_eq {x : Fixture} {c : FixtureConfig} (h : x.config = some c) : x.kind? = some c.kind := by
  simp [Fixture.kind?, h]

/-- Table 6-6: the value of a GRANT or RELEASE event. -/
theorem Fixture.eventValue_eq {x : Fixture} {c : FixtureConfig} (h : x.config = some c) (side : Side) :
    x.eventValue side = if c.kind = .dispenser then x.claims.allowance.get side else 0 := by
  simp [Fixture.eventValue, Fixture.kind?_eq h]

theorem performGrant_eq {s : State} {f : FixtureNo} {c : FixtureConfig} (hc : (s.fixture f).config = some c)
    (robot : Robot) (side : Side) (seen age : Nat) : performGrant s f robot side seen age =
      (s.granted f c ⟨robot, side, s.clock.tick, seen, age, 0⟩, c.startTask f c.firstList .grant) := by
  simp only [performGrant, hc, State.granted, Fixture.grantedAllowance]
  rw [Fixture.eventValue_eq (c := c) rfl]

/-- R18: the indicator state is no part of what it is determined from. -/
theorem State.refreshIndicator_indicator (s : State) (f : FixtureNo) :
    ((s.refreshIndicator f).fixture f).indicator = indicatorOf s.clock.phase ((s.refreshIndicator f).fixture f) := by
  rw [State.refreshIndicator_fixture, if_pos rfl]
  rfl

theorem State.granted_fixture (s : State) (f : FixtureNo) (c : FixtureConfig) (h : Holder) :
    ((s.granted f c h).fixture f).config = (s.fixture f).config ∧ ((s.granted f c h).fixture f).state = .held ∧
      ((s.granted f c h).fixture f).claims = { (s.fixture f).claims with
        holder := some h, allowance := (s.fixture f).grantedAllowance c h.side } ∧
      ((s.granted f c h).fixture f).indicator = indicatorOf s.clock.phase ((s.granted f c h).fixture f) := by
  refine ⟨by simp [State.granted], by simp [State.granted], by simp [State.granted], ?_⟩
  rw [State.granted, State.refreshIndicator_indicator, State.raiseChange_clock, State.createEvent_clock]
  rfl

theorem State.granted_reportsAs (s : State) (f : FixtureNo) (c : FixtureConfig) (h : Holder) :
    ReportsAs ((s.createEvent .grant (some f) h.robot h.side
      (if c.kind = .dispenser then ((s.fixture f).grantedAllowance c h.side).get h.side else 0)).raiseChange)
      (s.granted f c h) :=
  (((reportsAs_setFixture s f _).createEvent _ _ _ _ _).raiseChange).trans (reportsAs_refreshIndicator _ f)

theorem State.granted_restAs (s : State) (f : FixtureNo) (c : FixtureConfig) (h : Holder) :
    RestAs s (s.granted f c h) f :=
  (((restAs_setFixture s f _).trans (restAs_createEvent _ _ _ _ _ _ f)).trans (restAs_raiseChange _ f)).trans
    (restAs_refreshIndicator _ f)

@[simp] theorem State.granted_holdOff (s : State) (f : FixtureNo) (c : FixtureConfig) (h : Holder) :
    (s.granted f c h).engine.holdOff = s.engine.holdOff := by simp [State.granted]

@[simp] theorem State.granted_ports (s : State) (f : FixtureNo) (c : FixtureConfig) (h : Holder) :
    (s.granted f c h).ports = s.ports := by simp [State.granted]

/-- R27: a grant at a fixture without an on-grant list is the whole of it. -/
theorem settle_grant_noList {s : State} {f : FixtureNo} {c : FixtureConfig} (hc : (s.fixture f).config = some c)
    (hlist : c.firstList = none) (robot : Robot) (side : Side) (seen age : Nat) (ts : List Task) :
    settle s (.grant f robot side seen age :: ts) =
      settle (s.granted f c ⟨robot, side, s.clock.tick, seen, age, 0⟩) ts := by
  rw [settle_cons]
  show settle (performGrant s f robot side seen age).1 ((performGrant s f robot side seen age).2 ++ ts) = _
  rw [performGrant_eq hc, hlist]
  rfl

/-! ## The checks of a REQUEST (R23, Table 2-1) -/

/-- Checks 3 to 8 give the reason of the first that fails. -/
theorem State.claimFault_eq (s : State) (f : FixtureNo) (c : FixtureConfig) (r : Robot) :
    s.claimFault f c r =
      [Reason.phase, .side, .window, .link, .elsewhere, .allowance].find? (failsCheck s f c r) := by
  cases hl : c.link <;>
    simp only [State.claimFault, List.find?_cons, List.find?_nil, failsCheck, hl, Option.any_none, Option.any_some] <;>
    repeat' split
  all_goals simp_all

/-- Check 9 comes after checks 3 to 8, and fails at a full queue. -/
theorem firstFailure_eq (s : State) (f : FixtureNo) (c : FixtureConfig) (r : Robot) :
    firstFailure s f c r = (s.claimFault f c r).or (if failsCheck s f c r .full then some .full else none) := by
  rw [State.claimFault_eq]
  show ([Reason.phase, .side, .window, .link, .elsewhere, .allowance] ++ [Reason.full]).find? _ = _
  rw [List.find?_append]
  congr 1
  simp only [List.find?_cons, List.find?_nil]
  split <;> simp_all

/-- Table 2-1: a REQUEST that neither check 1 nor check 2 decides. -/
theorem State.judgeClaim_absent {s : State} {f : FixtureNo} (c : FixtureConfig) {r : Robot} (hoff : ¬IsHeldOff s f r)
    (habsent : ¬IsPresentAt s f r) : s.judgeClaim f c r =
      match s.claimFault f c r with
      | some reason => .refused reason
      | none =>
        if (s.fixture f).state = .free then .granted
        else if (s.fixture f).claims.queue.length < 4 then .queued else .refused .full := by
  rw [← State.heldOff_iff, Bool.not_eq_true] at hoff
  rw [State.isPresentAt_iff, not_or, Bool.not_eq_true, Bool.not_eq_true] at habsent
  simp only [State.judgeClaim, hoff, habsent, Bool.or_self, Bool.false_eq_true, if_false, Config.waitRoom]
  rfl

theorem State.judgeClaim_refused {s : State} {f : FixtureNo} {c : FixtureConfig} {r : Robot} {reason : Reason}
    (hoff : ¬IsHeldOff s f r) (habsent : ¬IsPresentAt s f r) (h : firstFailure s f c r = some reason) :
    s.judgeClaim f c r = .refused reason := by
  rw [State.judgeClaim_absent c hoff habsent]
  rw [firstFailure_eq] at h
  cases hfault : s.claimFault f c r with
  | some first => rw [hfault] at h; cases h; rfl
  | none =>
    rw [hfault, Option.none_or] at h
    split at h
    · rename_i full
      cases h
      simp only [failsCheck, Bool.and_eq_true, beq_iff_eq, decide_eq_true_eq] at full
      obtain ⟨held, long⟩ := full
      simp only [held, reduceCtorEq, if_false, if_neg (Nat.not_lt.mpr long)]
    · cases h

theorem State.judgeClaim_granted {s : State} {f : FixtureNo} {c : FixtureConfig} {r : Robot}
    (hoff : ¬IsHeldOff s f r) (habsent : ¬IsPresentAt s f r) (h : firstFailure s f c r = none)
    (hfree : (s.fixture f).state = .free) : s.judgeClaim f c r = .granted := by
  rw [State.judgeClaim_absent c hoff habsent, State.claimFault_none h]
  exact if_pos hfree

theorem State.judgeClaim_queued {s : State} {f : FixtureNo} {c : FixtureConfig} {r : Robot}
    (hoff : ¬IsHeldOff s f r) (habsent : ¬IsPresentAt s f r) (h : firstFailure s f c r = none)
    (hheld : (s.fixture f).state = .held) : s.judgeClaim f c r = .queued := by
  have room : (s.fixture f).claims.queue.length < 4 := by
    have := failsCheck_of_firstFailure_none h .full
    simpa [failsCheck, hheld] using this
  rw [State.judgeClaim_absent c hoff habsent, State.claimFault_none h]
  simp only [hheld, reduceCtorEq, if_false, if_pos room]

theorem State.judgeClaim_setAside {s : State} {f : FixtureNo} {r : Robot} (c : FixtureConfig) (h : IsHeldOff s f r) :
    s.judgeClaim f c r = .setAside := if_pos ((State.heldOff_iff s r f).mpr h)

theorem State.judgeClaim_refresh {s : State} {f : FixtureNo} {r : Robot} (c : FixtureConfig) (hoff : ¬IsHeldOff s f r)
    (h : IsPresentAt s f r) : s.judgeClaim f c r = .refresh := by
  rw [← State.heldOff_iff] at hoff
  rw [State.isPresentAt_iff, ← Bool.or_eq_true] at h
  simp only [State.judgeClaim, if_neg hoff, if_pos h]

/-! ## A REQUEST of a robot that is not there yet -/

/-- The beacon word has changed its port alone: the REQUEST is judged as before it. -/
theorem State.sighted_judgeClaim (u : State) (p : PortNo) (r q : Robot) (i : BitVec 2) (f : FixtureNo)
    (c : FixtureConfig) : (u.sighted p r i).judgeClaim f c q = u.judgeClaim f c q := rfl

/-- R78: the REQUEST of a robot that neither holds nor waits leaves the claims as they are and is judged. -/
theorem exec_request {s : State} (dt : Nat) {p : PortNo} {r : Robot} {f : FixtureNo} {c : FixtureConfig}
    (hready : s.ready = true) (hr : r ≠ 0) (hclaim : s.claimable p = some f) (hc : (s.fixture f).config = some c)
    (halive : (s.fixture f).state ≠ .dead) (habsent : ¬IsPresentAt s f r) :
    exec (.sighting dt p r 1) s = .next (takeRequest ((s.advance dt).sighted p r 1) f c r) := by
  rw [State.isPresentAt_iff, not_or, Bool.not_eq_true, Bool.not_eq_true, ← State.advance_holds s dt,
    ← State.advance_queued s dt] at habsent
  rw [exec_sighting_at dt 1 hready hr hclaim hc halive, State.seenAt_absent _ p r 1 f habsent.1 habsent.2]
  rfl

theorem State.isPresentAt_advance (s : State) (dt : Nat) (f : FixtureNo) (r : Robot) :
    IsPresentAt (s.advance dt) f r ↔ IsPresentAt s f r := by
  simp only [State.isPresentAt_iff, State.advance_holds, State.advance_queued]

/-- R23: a REQUEST that passes every check at a FREE fixture is granted. -/
theorem exec_request_granted {s : State} {dt : Nat} {p : PortNo} {r : Robot} {f : FixtureNo} {c : FixtureConfig}
    (hready : s.ready = true) (hr : r ≠ 0) (hclaim : s.claimable p = some f) (hc : (s.fixture f).config = some c)
    (hoff : ¬IsHeldOff (s.advance dt) f r) (habsent : ¬IsPresentAt s f r)
    (hpass : firstFailure (s.advance dt) f c r = none) (hfree : (s.fixture f).state = .free) :
    exec (.sighting dt p r 1) s = .next (settle ((s.advance dt).sighted p r 1)
      [.grant f r (s.sideOf r) (s.advance dt).nowMs 0]) := by
  have hj : ((s.advance dt).sighted p r 1).judgeClaim f c r = .granted := by
    rw [State.sighted_judgeClaim]
    exact State.judgeClaim_granted hoff (by rwa [State.isPresentAt_advance]) hpass (by simpa using hfree)
  rw [exec_request dt hready hr hclaim hc (by simp [hfree]) habsent]
  simp only [takeRequest, hj]
  rw [← s.advance_sideOf dt r]
  rfl

/-- Settles O22: the REQUEST is granted, and the grant is `State.granted` with no list after it. -/
theorem requestIsGranted : Obligations.RequestIsGranted := by
  unfold Obligations.RequestIsGranted
  intro s dt p r f c hready hr hclaim hc hk hlist hoff habsent hpass hfree
  let u := (s.advance dt).sighted p r 1
  let h : Holder := ⟨r, s.sideOf r, u.clock.tick, (s.advance dt).nowMs, 0, 0⟩
  have hcu : (u.fixture f).config = some c := by simpa [u, State.sighted] using hc
  have allowance : (u.fixture f).grantedAllowance c h.side = (u.fixture f).claims.allowance := if_neg (by simp [hk])
  obtain ⟨-, hstate, hclaims, hindicator⟩ := u.granted_fixture f c h
  have reports : ReportsAs (((s.advance dt).createEvent .grant (some f) r (s.sideOf r) 0).raiseChange)
      (u.granted f c h) := by
    have sent := u.granted_reportsAs f c h
    rw [hk, if_neg (by decide)] at sent
    exact (((reportsAs_setPort _ p _).createEvent _ _ _ _ _).raiseChange).trans sent
  have rest : RestAs (s.advance dt) (u.granted f c h) f := (restAs_setPort _ p _ f).trans (u.granted_restAs f c h)
  refine ⟨u.granted f c h, ?_, hstate, ?_, ?_, ?_, ?_, reports.picture, ?_, ?_, ?_, rest⟩
  · rw [exec_request_granted hready hr hclaim hc hoff habsent hpass hfree, settle_grant_noList hcu hlist, settle_nil]
  · rw [hclaims]; simp [h, u, State.sighted]
  · rw [hclaims]; rfl
  · rw [hindicator, reports.clock, State.raiseChange_clock, State.createEvent_clock]; rfl
  · rw [reports.line, State.raiseChange_line]
  · rw [State.granted_holdOff]; rfl
  · simp [u, State.sighted]
  · intro q hq; simp [u, State.sighted, Ne.symm hq]

/-- Settles O23: the order of the checks is that of `judgeClaim`, and a refusal is `refuse` at the port's fixture. -/
theorem requestIsRefused : Obligations.RequestIsRefused := by
  unfold Obligations.RequestIsRefused
  refine ⟨fun s f c r => ⟨State.judgeClaim_setAside c, State.judgeClaim_refresh c, fun hoff habsent =>
    ⟨fun reason => State.judgeClaim_refused hoff habsent, fun hpass =>
      ⟨State.judgeClaim_granted hoff habsent hpass, State.judgeClaim_queued hoff habsent hpass⟩⟩⟩, ?_⟩
  intro s dt p r f c reason hready hr hclaim hc halive hoff habsent hfails
  let u := (s.advance dt).sighted p r 1
  have hj : u.judgeClaim f c r = .refused reason := by
    rw [State.sighted_judgeClaim]
    exact State.judgeClaim_refused hoff (by rwa [State.isPresentAt_advance]) hfails
  let v := u.makeHoldOff r f
  have reports : ReportsAs (s.advance dt) (refuse u f r) :=
    ((((reportsAs_setPort _ p _).trans (reportsAs_makeHoldOff u r f)).trans (reportsAs_setFixture v f _)).trans
      (reportsAs_refreshIndicator _ f))
  have rest : RestAs (s.advance dt) (refuse u f r) f :=
    ((((restAs_setPort _ p _ f).trans (restAs_makeHoldOff u r f f)).trans (restAs_setFixture v f _)).trans
      (restAs_refreshIndicator _ f))
  have fixture : (refuse u f r).fixture f = { (s.advance dt).fixture f with
      transient := some .refused, transientLeft := 1000000
      indicator := indicatorOf s.clock.phase
        { (s.advance dt).fixture f with transient := some .refused, transientLeft := 1000000 } } := by
    simp [refuse, State.startTransient, State.refreshIndicator_fixture, u, State.sighted, Config.transientTime,
      Config.ms]
  refine ⟨refuse u f r, ?_, ?_, ?_, ?_, ?_, ?_, ?_, reports.line, reports.picture, rest⟩
  · rw [exec_request dt hready hr hclaim hc halive habsent]
    simp only [takeRequest, hj, u]
  · rw [fixture]; simp
  · rw [fixture]
  · rw [fixture]
  · rw [fixture]
  · rw [reports.clock, State.advance_phase, fixture]; simp [indicatorOf]
  · simp [refuse, State.startTransient, u, State.makeHoldOff_holdOff, State.sighted, State.nowMs]

end Sys2Proof.Machine
end

section
/-! Proofs for 02_holds_and_wait_queues.md, part 3: a queued robot's lost time (R32) and the refill (R39). -/

namespace Sys2Proof.Machine

/-! ## A queued robot's lost time (R32) -/

/-- Settles O28: the expiry comes, and drops the robot from the queue. -/
theorem queuedRobotIsLost : Obligations.QueuedRobotIsLost := by
  unfold Obligations.QueuedRobotIsLost
  intro s f r c w _ hc hw hphase _
  have hwait : queuedLostWait f r s = some (c.params.lostTime * 1000 - w.age) := by
    simp only [queuedLostWait, hc, hw]
    exact if_pos hphase
  refine ⟨dropQueued (s.advance (c.params.lostTime * 1000 - w.age)) f r,
    onExpiry_some (act := fun s => dropQueued s f r) hwait, dropQueued_fixture _ f r, dropQueued_holdOff _ f r, ?_, ?_, ?_⟩
  · simp [dropQueued]
  · simp [dropQueued]
  · have others (g : FixtureNo) (hg : g ≠ f) : ¬f = g := Ne.symm hg
    simp +contextual [RestAs, dropQueued, others]

/-! ## Refill (R39) -/

/-- R39: a DISPENSER's refill is due where its count has reached a period that is not 0. -/
theorem refillDue_dispenser {s : State} {f : FixtureNo} {c : FixtureConfig} {lost acap initial period : Nat}
    (hc : (s.fixture f).config = some c) (hp : c.params = .dispenser lost acap initial period)
    (halive : (s.fixture f).state ≠ .dead) :
    refillDue f s = true ↔ period ≠ 0 ∧ period ≤ (s.fixture f).claims.refillCount := by
  simp [refillDue, hc, hp, halive]

/-- R39: what a refill makes of a DISPENSER's count and allowances. -/
theorem refillFixture_dispenser {s : State} {f : FixtureNo} {c : FixtureConfig} {lost acap initial period : Nat}
    (hc : (s.fixture f).config = some c) (hp : c.params = .dispenser lost acap initial period) :
    refillFixture f s = s.setClaims f { (s.fixture f).claims with
      refillCount := 0
      allowance := ⟨min acap ((s.fixture f).claims.allowance.one + 1),
        min acap ((s.fixture f).claims.allowance.two + 1), min acap ((s.fixture f).claims.allowance.three + 1),
        min acap ((s.fixture f).claims.allowance.four + 1)⟩ } := by
  simp only [refillFixture, hc, hp]

/-- Settles O30: REFILL by the two equations of a refill. -/
theorem refillRaisesEverySide : Obligations.RefillRaisesEverySide := by
  unfold Obligations.RefillRaisesEverySide
  intro s f c lost acap initial period hc hp halive
  show Host.Outcome.next (if refillDue f s = true then resumeTick (refillFixture f s) else s) = _
  simp only [refillDue_dispenser hc hp halive, refillFixture_dispenser hc hp]

end Sys2Proof.Machine
end

section
/-! Proofs for 02_holds_and_wait_queues.md, part 4: a release from the end of the hold to the end of promotion, task by task
(R27, R34, R35, R40, R141, R142). -/

namespace Sys2Proof.Machine

/-! ## Starts (R141, R142) -/

/-- An update that touches the runners, the pulse units, the line controller and the field picture alone. -/
def PlaysOnly (s t : State) : Prop :=
  t = { s with runners := t.runners, pulse := t.pulse, line := t.line, picture := t.picture }

theorem PlaysOnly.refl (s : State) : PlaysOnly s s := rfl

theorem OnlyReports.playsOnly {s t : State} (h : OnlyReports s t) : PlaysOnly s t := by
  unfold PlaysOnly; rw [h]

theorem playsOnly_setRunner (s : State) (r : RunnerId) (x : Runner) : PlaysOnly s (s.setRunner r x) := by
  cases r <;> rfl

theorem PlaysOnly.fixture {s t : State} (h : PlaysOnly s t) (f : FixtureNo) : t.fixture f = s.fixture f := by
  rw [h]; rfl

theorem PlaysOnly.clock {s t : State} (h : PlaysOnly s t) : t.clock = s.clock := by rw [h]

theorem PlaysOnly.trans {s t u : State} (h : PlaysOnly s t) (k : PlaysOnly t u) : PlaysOnly s u := by
  unfold PlaysOnly at *
  rw [k, h]

/-- R142, R144, R147: how a runner that arrives at a step stands, and the pulse units with it; none where the step is in
error, or sends the runner on at once. -/
def Step.begun (step : Step) (p : Pulse) (r : RunnerId) : Option (RunnerMode × Pulse) :=
  match step.unit with
  | none => some (.delay step.delayTime, p)
  | some unit =>
    if p.stepError step then none
    else if p.units[unit].driver ≠ none then some (.waitingUnit unit, p)
    else if step.goOn then none
    else some (.holding unit, p.drive unit r step)

/-- The list an idle runner begins stands at its first step so. -/
theorem listBegun_eq (u : State) (r : RunnerId) (t : Start) (q : List Start) : listBegun u r t q =
    (u.runners.store[t.list].begun u.pulse r).map fun x =>
      State.setRunner { u with pulse := x.2 } r ⟨x.1, some ⟨t, t.list⟩, q⟩ := by
  unfold listBegun Step.begun
  dsimp only
  cases u.runners.store[t.list].unit with
  | none => rfl
  | some unit =>
    dsimp only
    split
    · rfl
    · split
      · rfl
      · split <;> rfl

/-- A list that an idle runner begins changes nothing but that runner and the unit it drives. -/
theorem listBegun_playsOnly {u v : State} {r : RunnerId} {t : Start} {q : List Start} (h : listBegun u r t q = some v) :
    PlaysOnly u v := by
  rw [listBegun_eq, Option.map_eq_some_iff] at h
  obtain ⟨⟨m, p⟩, -, rfl⟩ := h
  exact PlaysOnly.trans (t := { u with pulse := p }) rfl (playsOnly_setRunner _ _ _)

theorem startTaken_playsOnly {u v : State} {r : RunnerId} {t : Start} (h : startTaken u r t = some v) :
    PlaysOnly u v := by
  unfold startTaken at h
  dsimp only at h
  split at h
  · cases h; exact .refl u
  · split at h
    · exact listBegun_playsOnly h
    · split at h
      · cases h; exact playsOnly_setRunner _ _ _
      · cases h; exact (onlyReports_createEvent _ _ _ _ _ _).playsOnly

@[simp] theorem State.setRunner_setRunner (s : State) (r : RunnerId) (x y : Runner) :
    (s.setRunner r x).setRunner r y = s.setRunner r y := by cases r <;> rfl

/-- The task on top of a stack, done as its own equation says. -/
theorem settle_step {s v : State} {t : Task} {us : List Task} (h : perform s t = (v, us)) (ts : List Task) :
    settle s (t :: ts) = settle v (us ++ ts) := by rw [settle_cons, h]

/-- What the runner was doing does not matter to the list it begins. -/
theorem listBegun_setRunner (u : State) (r : RunnerId) (x : Runner) (t : Start) (q : List Start) :
    listBegun (u.setRunner r x) r t q = listBegun u r t q := by
  cases r <;> rfl

/-- Nor do a fixture's claims. -/
theorem listBegun_setClaims {u v : State} {r : RunnerId} {t : Start} {q : List Start} (h : listBegun u r t q = some v)
    (f : FixtureNo) (c : Claims) : listBegun (u.setClaims f c) r t q = some (v.setClaims f c) := by
  rw [listBegun_eq, Option.map_eq_some_iff] at h
  obtain ⟨x, hx, rfl⟩ := h
  rw [listBegun_eq, Option.map_eq_some_iff]
  exact ⟨x, hx, by cases r <;> rfl⟩

theorem performArrive_begun {u : State} {r : RunnerId} {c : Current} {m : RunnerMode} {p : Pulse}
    (hcur : (u.runner r).current = some c) (h : u.runners.store[c.index].begun u.pulse r = some (m, p)) :
    performArrive u r = (State.setRunner { u with pulse := p } r { u.runner r with mode := m }, []) := by
  unfold Step.begun at h
  simp only [performArrive, hcur]
  cases hu : u.runners.store[c.index].unit with
  | none =>
    simp only [hu, Option.some.injEq, Prod.mk.injEq] at h
    obtain ⟨rfl, rfl⟩ := h
    simp only [Pulse.stepError, hu, Bool.false_eq_true, if_false]
  | some unit =>
    simp only [hu] at h
    split at h
    · cases h
    · rename_i ok
      rw [if_neg ok]
      split at h
      · rename_i driven
        obtain ⟨d, hd⟩ := Option.ne_none_iff_exists'.mp driven
        simp only [Option.some.injEq, Prod.mk.injEq] at h
        obtain ⟨rfl, rfl⟩ := h
        simp only [hd]
      · rename_i free
        rw [not_not] at free
        split at h
        · cases h
        · rename_i waits
          simp only [Option.some.injEq, Prod.mk.injEq] at h
          obtain ⟨rfl, rfl⟩ := h
          simp only [free, issue, if_neg waits]
          rw [← hcur]
          cases r <;> rfl

/-- A runner that arrives at its list's first step begins it as `listBegun` says. -/
theorem settle_arrive {u v : State} {r : RunnerId} {t : Start} (hcur : (u.runner r).current = some ⟨t, t.list⟩)
    (h : listBegun u r t (u.runner r).queue = some v) (ts : List Task) :
    settle u (.arrive r :: ts) = settle v ts := by
  rw [listBegun_eq, Option.map_eq_some_iff] at h
  obtain ⟨⟨m, p⟩, hx, rfl⟩ := h
  exact (settle_step (t := .arrive r) (performArrive_begun hcur hx) ts).trans (by rw [← hcur]; rfl)

/-- Reports about a list that is no DISPENSER's grant list do nothing (R27, Table 8-3). -/
theorem settle_reportTask {s : State} {t : Start} (ht : t.purpose = .grant → (s.fixture t.fixture).kind? ≠ some .dispenser)
    (rep : Report) (ts : List Task) : settle s (t.reportTask rep ++ ts) = settle s ts := by
  unfold Start.reportTask
  cases hp : t.purpose with
  | grant =>
    exact settle_step (t := .report t.fixture rep) (if_pos (ht hp)) ts
  | release => rfl
  | change => rfl

/-! What a start comes to, case by case (R141, R152). -/

theorem performStart_halted {s : State} (r : RunnerId) (t : Start) (h : s.clock.phase = .halted) :
    performStart s r t = (s, t.reportTask .dropped) := if_pos h

theorem performStart_idle {s : State} {r : RunnerId} (t : Start) (h : s.clock.phase ≠ .halted)
    (idle : (s.runner r).mode = .idle) : performStart s r t =
      (s.setRunner r ⟨.draining, some ⟨t, t.list⟩, (s.runner r).queue⟩, t.reportTask .accepted ++ [.arrive r]) := by
  simp only [performStart, if_neg h, idle]

theorem performStart_room {s : State} {r : RunnerId} (t : Start) (h : s.clock.phase ≠ .halted)
    (busy : (s.runner r).mode ≠ .idle) (room : (s.runner r).queue.length < 4) : performStart s r t =
      (s.setRunner r { s.runner r with queue := (s.runner r).queue ++ [t] }, t.reportTask .accepted) := by
  simp only [performStart, if_neg h]
  split
  · exact absurd ‹_› busy
  all_goals exact if_pos room

theorem performStart_full {s : State} {r : RunnerId} (t : Start) (h : s.clock.phase ≠ .halted)
    (busy : (s.runner r).mode ≠ .idle) (full : ¬(s.runner r).queue.length < 4) : performStart s r t =
      (s.createEvent (.fault .actionOverflow) (some t.fixture) 0 0 0, t.reportTask .dropped) := by
  simp only [performStart, if_neg h]
  split
  · exact absurd ‹_› busy
  all_goals exact if_neg full

/-- R141: a start of a list that is no DISPENSER's grant list ends as `startTaken` says. -/
theorem settle_start {u v : State} {r : RunnerId} {t : Start}
    (ht : t.purpose = .grant → (u.fixture t.fixture).kind? ≠ some .dispenser) (h : startTaken u r t = some v)
    (ts : List Task) : settle u (.start r t :: ts) = settle v ts := by
  have plays := startTaken_playsOnly h
  have reported (rep : Report) : settle v (t.reportTask rep ++ ts) = settle v ts :=
    settle_reportTask (by simpa only [plays.fixture] using ht) rep ts
  unfold startTaken at h
  dsimp only at h
  split at h
  · rename_i halted
    cases h
    exact (settle_step (t := .start r t) (performStart_halted r t halted) ts).trans (reported _)
  · rename_i notHalted
    split at h
    · rename_i idle
      rw [settle_step (t := .start r t) (performStart_idle t notHalted idle), List.append_assoc, settle_reportTask (by simpa using ht)]
      refine settle_arrive (t := t) (by simp) ?_ ts
      rw [listBegun_setRunner, State.setRunner_runner_same]
      exact h
    · rename_i busy
      split at h
      · rename_i room
        cases h
        exact (settle_step (t := .start r t) (performStart_room t notHalted busy room) ts).trans (reported _)
      · rename_i full
        cases h
        exact (settle_step (t := .start r t) (performStart_full t notHalted busy full) ts).trans (reported _)

/-- R40: a grant list that its runner takes up or queues counts as a dispense in flight. -/
theorem settle_report_accepted {s : State} {f : FixtureNo} (hk : (s.fixture f).kind? = some .dispenser) (ts : List Task) :
    settle s (.report f .accepted :: ts) =
      settle (s.setClaims f { (s.fixture f).claims with inFlight := (s.fixture f).claims.inFlight + 1 }) ts := by
  exact settle_step (t := .report f .accepted) (if_neg (by simp [hk])) ts

/-- R40, R141: a DISPENSER's grant list that its runner has room for. -/
theorem settle_start_dispense {u v : State} {r : RunnerId} {t : Start} (hpurpose : t.purpose = .grant)
    (hk : (u.fixture t.fixture).kind? = some .dispenser) (hphase : u.clock.phase ≠ .halted)
    (hroom : (u.runner r).mode = .idle ∨ (u.runner r).queue.length < 4) (h : startTaken u r t = some v)
    (ts : List Task) : settle u (.start r t :: ts) = settle (v.setClaims t.fixture
      { (v.fixture t.fixture).claims with inFlight := (u.fixture t.fixture).claims.inFlight + 1 }) ts := by
  have plays := startTaken_playsOnly h
  have reports : t.reportTask .accepted = [.report t.fixture .accepted] := by simp [Start.reportTask, hpurpose]
  rw [plays.fixture]
  unfold startTaken at h
  dsimp only at h
  rw [if_neg hphase] at h
  split at h
  · rename_i idle
    rw [settle_step (t := .start r t) (performStart_idle t hphase idle), reports, List.append_assoc, List.singleton_append,
      settle_report_accepted (by simpa using hk), State.setRunner_fixture]
    refine settle_arrive (t := t) (by cases r <;> rfl) ?_ ts
    refine listBegun_setClaims ?_ _ _
    rw [listBegun_setRunner]
    convert h using 2
    cases r <;> rfl
  · rename_i busy
    have room := hroom.resolve_left busy
    rw [if_pos room] at h
    cases h
    rw [settle_step (t := .start r t) (performStart_room t hphase busy room), reports, List.singleton_append,
      settle_report_accepted (by simpa using hk), State.setRunner_fixture]

end Sys2Proof.Machine
end

section
/-! Proofs for 02_holds_and_wait_queues.md, part 5: a release of any cause but PHASE ends as `holdEnded` gives (R34, R35). -/

namespace Sys2Proof.Machine

/-! ## A fixture's wait queue while it is worked through (R35) -/

@[simp] theorem State.setFixture_setFixture (s : State) (f : FixtureNo) (x y : Fixture) :
    (s.setFixture f x).setFixture f y = s.setFixture f y := by simp [State.setFixture, put]

/-- The fixture with another wait queue. -/
def State.withQueue (s : State) (f : FixtureNo) (q : List Waiter) : State :=
  s.setClaims f { (s.fixture f).claims with queue := q }

theorem State.withQueue_fixture (s : State) (f : FixtureNo) (q : List Waiter) :
    (s.withQueue f q).fixture f =
      { s.fixture f with claims := { (s.fixture f).claims with queue := q } } := by
  simp [State.withQueue]

theorem State.withQueue_fixture_other (s : State) {f g : FixtureNo} (h : g ≠ f) (q : List Waiter) :
    (s.withQueue f q).fixture g = s.fixture g := by
  simp [State.withQueue, Ne.symm h]

@[simp] theorem State.withQueue_withQueue (s : State) (f : FixtureNo) (q q' : List Waiter) :
    (s.withQueue f q).withQueue f q' = s.withQueue f q' := by
  unfold State.withQueue State.setClaims
  rw [State.setFixture_setFixture, State.setFixture_fixture_same]

theorem State.withQueue_same (s : State) (f : FixtureNo) : s.withQueue f (s.fixture f).claims.queue = s :=
  s.setClaims_same f

theorem State.makeHoldOff_zero {s : State} (h : s.settings.holdOffTime = 0) (r : Robot) (f : FixtureNo) :
    s.makeHoldOff r f = s := if_pos h

theorem State.makeHoldOff_made {s : State} (h : s.settings.holdOffTime ≠ 0) (r : Robot) (f : FixtureNo) :
    s.makeHoldOff r f = s.setHoldOff (addHoldOff s.engine.holdOff ⟨r, f, s.nowMs + s.settings.holdOffTime⟩) := if_neg h

theorem State.withQueue_makeHoldOff (s : State) (f g : FixtureNo) (q : List Waiter) (r : Robot) :
    (s.withQueue f q).makeHoldOff r g = (s.makeHoldOff r g).withQueue f q := by
  by_cases h : s.settings.holdOffTime = 0
  · rw [State.makeHoldOff_zero h, State.makeHoldOff_zero (s := s.withQueue f q) h]
  · rw [State.makeHoldOff_made h, State.makeHoldOff_made (s := s.withQueue f q) h]; rfl

theorem restAs_withQueue (s : State) (f : FixtureNo) (q : List Waiter) : RestAs s (s.withQueue f q) f :=
  restAs_setFixture s f _

/-! ## What a check of a claim depends on (R23) -/

/-- What a link test reads of an own fixture: not its wait queue. -/
structure Fixture.ShowsAs (x y : Fixture) : Prop where
  config : y.config = x.config
  state : y.state = x.state
  control : y.control = x.control
  holder : y.claims.holder = x.claims.holder
  allowance : y.claims.allowance = x.claims.allowance

theorem linkOwn_congr {x y : Fixture} (h : x.ShowsAs y) (t : LinkTest) (side : Side) :
    linkOwn t y side = linkOwn t x side := by
  simp only [linkOwn, Fixture.kind?, h.config, h.state, h.control, h.holder]

/-- A claim is checked by the settings, the phase, the side table, the peers and what the own fixtures show; its own
fixture's state and holder matter to its link alone. -/
theorem State.claimFault_congr {s t : State} {f : FixtureNo} {c : FixtureConfig} (settings : t.settings = s.settings)
    (loader : t.loader = s.loader) (phase : t.clock.phase = s.clock.phase)
    (sides : t.engine.sideTable = s.engine.sideTable) (peers : t.picture.peers = s.picture.peers)
    (others : ∀ g, g ≠ f → (s.fixture g).ShowsAs (t.fixture g))
    (own : c.link = none ∨ (s.fixture f).ShowsAs (t.fixture f))
    (allowance : (t.fixture f).claims.allowance = (s.fixture f).claims.allowance) (r : Robot) :
    t.claimFault f c r = s.claimFault f c r := by
  have side (q : Robot) : t.sideOf q = s.sideOf q := by simp only [State.sideOf, sides]
  have peer (n : StationNo) : t.peer n = s.peer n := by simp only [State.peer, peers]
  have fresh (row : PeerRow) : t.freshRow row = s.freshRow row := by simp only [State.freshRow, settings]
  have link (l : Link) (hl : c.link = some l) (n : Side) : t.linkMet l n = s.linkMet l n := by
    have shown : (s.fixture l.fixture).ShowsAs (t.fixture l.fixture) := by
      rcases own with h | h
      · rw [h] at hl; cases hl
      · by_cases hf : l.fixture = f
        · rw [hf]; exact h
        · exact others _ hf
    simp only [State.linkMet, loader, linkOwn_congr shown, fresh, peer, linkPeer, side]
  have elsewhere : t.holdsElsewhere f r = s.holdsElsewhere f r := by
    have own : (fixtureNumbers.any fun g => g != f && (t.fixture g).kind? == some .gate &&
        match (t.fixture g).claims.holder with | some h => h.robot == r | none => false) =
        (fixtureNumbers.any fun g => g != f && (s.fixture g).kind? == some .gate &&
        match (s.fixture g).claims.holder with | some h => h.robot == r | none => false) := by
      congr 1
      funext g
      by_cases hg : g = f
      · simp [hg]
      · simp only [Fixture.kind?, (others g hg).config, (others g hg).holder]
    simp only [State.holdsElsewhere, fresh, peer]
    exact congrArg (· || _) own
  unfold State.claimFault
  simp only [phase, side, settings, elsewhere, allowance]
  cases hl : c.link with
  | none => rfl
  | some l => simp only [link l hl]

theorem State.withQueue_claimFault (s : State) (f : FixtureNo) (q : List Waiter) (c : FixtureConfig) (r : Robot) :
    (s.withQueue f q).claimFault f c r = s.claimFault f c r := by
  refine State.claimFault_congr (s := s) (t := s.withQueue f q) rfl rfl rfl rfl rfl (fun g hg => ?_) (.inr ?_) ?_ r
  · rw [State.withQueue_fixture_other s hg]; exact ⟨rfl, rfl, rfl, rfl, rfl⟩
  · rw [State.withQueue_fixture]; exact ⟨rfl, rfl, rfl, rfl, rfl⟩
  · rw [State.withQueue_fixture]

/-- At a FREE fixture no queue is full, so checks 3 to 8 alone decide. -/
theorem firstFailure_free {s : State} {f : FixtureNo} (c : FixtureConfig) (r : Robot)
    (hfree : (s.fixture f).state = .free) : firstFailure s f c r = s.claimFault f c r := by
  rw [firstFailure_eq, if_neg (by simp [failsCheck, hfree]), Option.or_none]

/-! ## The grant of a waiting robot (R27, R35) -/

/-- The holder a waiting robot becomes (R27). -/
def Waiter.asHolder (w : Waiter) (tick : Nat) : Holder := ⟨w.robot, w.side, tick, w.lastSeen, w.age, 0⟩

/-- The grant of a waiting robot up to its on-grant list. -/
def State.waiterSent (u : State) (f : FixtureNo) (c : FixtureConfig) (w : Waiter) (rest : List Waiter) : State :=
  (u.withQueue f rest).granted f c (w.asHolder u.clock.tick)

/-- A grant with the queue that is left, made in one change of the fixture. -/
theorem State.waiterSent_eq (u : State) (f : FixtureNo) (c : FixtureConfig) (w : Waiter) (rest : List Waiter) :
    u.waiterSent f c w rest =
      (((u.setFixture f { u.fixture f with
        state := .held
        claims := { (u.fixture f).claims with
          holder := some (w.asHolder u.clock.tick), queue := rest
          allowance := (u.fixture f).grantedAllowance c w.side } }).createEvent .grant (some f) w.robot w.side
        (if c.kind = .dispenser then ((u.fixture f).grantedAllowance c w.side).get w.side else 0)).raiseChange
        ).refreshIndicator f := by
  unfold State.waiterSent State.granted State.withQueue State.setClaims
  simp only [State.setFixture_setFixture, State.setFixture_fixture_same]
  rfl

/-! What `waiterGranted` gives, by the on-grant list and the kind of fixture. -/

theorem waiterGranted_noList {c : FixtureConfig} (hlist : c.firstList = none) (u : State) (f : FixtureNo) (w : Waiter)
    (rest : List Waiter) : waiterGranted u f c w rest = some (u.waiterSent f c w rest) := by
  rw [State.waiterSent_eq]
  simp only [waiterGranted, hlist]
  rfl

theorem waiterGranted_gate {c : FixtureConfig} {i : StepNo} (hlist : c.firstList = some i) (hk : c.kind ≠ .dispenser)
    (u : State) (f : FixtureNo) (w : Waiter) (rest : List Waiter) :
    waiterGranted u f c w rest = startTaken (u.waiterSent f c w rest) c.runner ⟨i, f, .grant⟩ := by
  rw [State.waiterSent_eq]
  simp only [waiterGranted, hlist, if_pos hk]
  rfl

theorem waiterGranted_dispenser {c : FixtureConfig} {i : StepNo} (hlist : c.firstList = some i)
    (hk : c.kind = .dispenser) {u t : State} {f : FixtureNo} {w : Waiter} {rest : List Waiter}
    (h : waiterGranted u f c w rest = some t) :
    u.clock.phase ≠ .halted ∧
      (((u.waiterSent f c w rest).runner c.runner).mode = .idle ∨
        ((u.waiterSent f c w rest).runner c.runner).queue.length < 4) ∧
      ∃ v, startTaken (u.waiterSent f c w rest) c.runner ⟨i, f, .grant⟩ = some v ∧
        t = v.setClaims f { (v.fixture f).claims with inFlight := (u.fixture f).claims.inFlight + 1 } := by
  rw [State.waiterSent_eq]
  simp only [Fixture.grantedAllowance, Waiter.asHolder, if_pos hk]
  simp only [waiterGranted, hlist, if_neg (not_not.mpr hk), if_pos hk] at h
  split at h
  · rename_i hroom
    obtain ⟨v, hv, rfl⟩ := Option.map_eq_some_iff.mp h
    exact ⟨hroom.1, hroom.2, v, hv, rfl⟩
  · cases h

/-- R27, R35: the grant of a waiting robot ends as `waiterGranted` says. -/
theorem settle_waiterGranted {u t : State} {f : FixtureNo} {c : FixtureConfig} {w : Waiter} {rest : List Waiter}
    (hc : (u.fixture f).config = some c) (h : waiterGranted u f c w rest = some t) (ts : List Task) :
    settle (u.withQueue f rest) (.grant f w.robot w.side w.lastSeen w.age :: ts) = settle t ts := by
  have hcq : ((u.withQueue f rest).fixture f).config = some c := by rw [State.withQueue_fixture]; exact hc
  have granted : settle (u.withQueue f rest) (.grant f w.robot w.side w.lastSeen w.age :: ts) =
      settle (u.waiterSent f c w rest) (c.startTask f c.firstList .grant ++ ts) :=
    settle_step (t := .grant f w.robot w.side w.lastSeen w.age) (performGrant_eq hcq w.robot w.side w.lastSeen w.age) ts
  obtain ⟨hconfig, -, hclaims, -⟩ := (u.withQueue f rest).granted_fixture f c (w.asHolder u.clock.tick)
  obtain ⟨-, -, -, -, -, -, hclock, -⟩ := (u.withQueue f rest).granted_restAs f c (w.asHolder u.clock.tick)
  have kind : ((u.waiterSent f c w rest).fixture f).kind? = some c.kind := Fixture.kind?_eq (hconfig.trans hcq)
  rw [granted, FixtureConfig.startTask.eq_def]
  cases hlist : c.firstList with
  | none =>
    rw [waiterGranted_noList hlist] at h
    cases h; rfl
  | some i =>
    by_cases hk : c.kind = .dispenser
    · obtain ⟨hphase, hroom, v, hv, rfl⟩ := waiterGranted_dispenser hlist hk h
      have flying : ((u.waiterSent f c w rest).fixture f).claims.inFlight = (u.fixture f).claims.inFlight := by
        unfold State.waiterSent; rw [hclaims, State.withQueue_fixture]
      have phase : (u.waiterSent f c w rest).clock.phase ≠ .halted := by
        unfold State.waiterSent; rw [hclock]; exact hphase
      have started := settle_start_dispense (t := ⟨i, f, .grant⟩) rfl (kind.trans (congrArg some hk)) phase hroom hv ts
      rw [flying] at started
      exact started
    · rw [waiterGranted_gate hlist hk] at h
      exact settle_start (fun _ => by rw [kind]; simpa using hk) h ts

/-! ## Promotion (R35) -/

theorem promoted_nil (u : State) (f : FixtureNo) (c : FixtureConfig) : promoted u f c [] =
    some (((u.withQueue f []).setFixtureState f .free).refreshIndicator f) := by
  unfold promoted State.withQueue State.setFixtureState State.setClaims
  simp only [State.setFixture_setFixture, State.setFixture_fixture_same]

theorem promoted_passes {u : State} {f : FixtureNo} {c : FixtureConfig} {w : Waiter} (rest : List Waiter)
    (h : firstFailure u f c w.robot = none) : promoted u f c (w :: rest) = waiterGranted u f c w rest := by
  rw [promoted, if_pos h]

theorem promoted_fails {u : State} {f : FixtureNo} {c : FixtureConfig} {w : Waiter} (rest : List Waiter)
    (h : firstFailure u f c w.robot ≠ none) :
    promoted u f c (w :: rest) = promoted (u.makeHoldOff w.robot f) f c rest := by
  rw [promoted, if_neg h]

theorem performPromote_nil {s : State} {f : FixtureNo} {c : FixtureConfig} (hc : (s.fixture f).config = some c)
    (hq : (s.fixture f).claims.queue = []) :
    performPromote s f = ((s.setFixtureState f .free).refreshIndicator f, []) := by
  simp only [performPromote, hc, hq]

theorem performPromote_cons {s : State} {f : FixtureNo} {c : FixtureConfig} {w : Waiter} {rest : List Waiter}
    (hc : (s.fixture f).config = some c) (hq : (s.fixture f).claims.queue = w :: rest) :
    performPromote s f = if s.claimFault f c w.robot = none then
        (s.withQueue f rest, [.grant f w.robot w.side w.lastSeen w.age])
      else ((s.withQueue f rest).makeHoldOff w.robot f, [.promote f]) := by
  have fault := State.withQueue_claimFault s f rest c w.robot
  unfold State.withQueue at fault ⊢
  simp only [performPromote, hc, hq, fault]
  cases s.claimFault f c w.robot with
  | none => rfl
  | some reason => rfl

/-- R35: promotion ends as `promoted` says, from any queue. -/
theorem settle_promoted {f : FixtureNo} {c : FixtureConfig} {t : State} (ts : List Task) (queue : List Waiter) :
    ∀ {u : State}, (u.fixture f).config = some c → (u.fixture f).state = .free → promoted u f c queue = some t →
      settle (u.withQueue f queue) (.promote f :: ts) = settle t ts := by
  induction queue with
  | nil =>
    intro u hc _ h
    rw [promoted_nil, Option.some.injEq] at h
    subst h
    exact settle_step (t := .promote f) (performPromote_nil (c := c) (by rw [State.withQueue_fixture]; exact hc)
      (by rw [State.withQueue_fixture])) ts
  | cons w rest ih =>
    intro u hc hfree h
    have fault : (u.withQueue f (w :: rest)).claimFault f c w.robot = firstFailure u f c w.robot := by
      rw [State.withQueue_claimFault, firstFailure_free c _ hfree]
    have promote := performPromote_cons (s := u.withQueue f (w :: rest)) (f := f) (c := c) (w := w) (rest := rest)
      (by rw [State.withQueue_fixture]; exact hc) (by rw [State.withQueue_fixture])
    rw [fault, State.withQueue_withQueue] at promote
    by_cases hpass : firstFailure u f c w.robot = none
    · rw [if_pos hpass] at promote
      rw [promoted_passes rest hpass] at h
      exact (settle_step (t := .promote f) promote ts).trans (settle_waiterGranted hc h ts)
    · rw [if_neg hpass, State.withQueue_makeHoldOff] at promote
      rw [promoted_fails rest hpass] at h
      exact (settle_step (t := .promote f) promote ts).trans (ih (by simpa using hc) (by simpa using hfree) h)

/-! ## A release (R34) -/

/-- R34 step 1 and 2: the fixture's holder is gone, and an ABORTED dispense has been refunded. -/
def State.freed (s : State) (f : FixtureNo) (c : FixtureConfig) (side : Side) (cause : ReleaseCause) : State :=
  s.setFixture f { s.fixture f with
    state := .free
    claims := { (s.fixture f).claims with
      holder := none, allowance := refunded c.params (s.fixture f).claims.allowance side cause } }

/-- R34 steps 4 to 6: RELEASE is sent, CHANGE raised, and the causes that call for it make a hold-off entry. -/
def State.releaseSent (s : State) (f : FixtureNo) (robot : Robot) (side : Side) (cause : ReleaseCause) (value : Nat) :
    State :=
  let sent := (s.createEvent (.release cause) (some f) robot side value).raiseChange
  if cause.makesEntry then sent.makeHoldOff robot f else sent

theorem State.freed_fixture (s : State) (f : FixtureNo) (c : FixtureConfig) (side : Side) (cause : ReleaseCause) :
    (s.freed f c side cause).fixture f = { s.fixture f with
      state := .free
      claims := { (s.fixture f).claims with
        holder := none, allowance := refunded c.params (s.fixture f).claims.allowance side cause } } :=
  s.setFixture_fixture_same f _

/-- The value of the RELEASE event (Table 6-6). -/
def releaseValue (s : State) (f : FixtureNo) (c : FixtureConfig) (side : Side) (cause : ReleaseCause) : Nat :=
  if c.kind = .dispenser then (refunded c.params (s.fixture f).claims.allowance side cause).get side else 0

/-- The on-release list handed over, if there is one. -/
def onRelease (u : State) (f : FixtureNo) (c : FixtureConfig) : Option State :=
  match c.secondList with
  | none => some u
  | some i => startTaken u c.runner ⟨i, f, .release⟩

theorem State.releaseSent_eq (s : State) (f : FixtureNo) (robot : Robot) (side : Side) (cause : ReleaseCause)
    (value : Nat) : s.releaseSent f robot side cause value =
      if cause = .done ∨ cause = .lost ∨ cause = .overstay ∨ cause = .yield then
        (s.createEvent (.release cause) (some f) robot side value).raiseChange.makeHoldOff robot f
      else (s.createEvent (.release cause) (some f) robot side value).raiseChange := by
  cases cause <;> rfl

/-- What `holdReleased` gives. -/
theorem holdReleased_eq (u : State) (f : FixtureNo) (c : FixtureConfig) (h : Holder) (cause : ReleaseCause) :
    holdReleased u f c h cause = (onRelease (u.freed f c h.side cause) f c).map fun v =>
      v.releaseSent f h.robot h.side cause (releaseValue u f c h.side cause) := by
  simp only [State.releaseSent_eq]
  rfl

theorem onRelease_playsOnly {u v : State} {f : FixtureNo} {c : FixtureConfig} (h : onRelease u f c = some v) :
    PlaysOnly u v := by
  unfold onRelease at h
  split at h
  · cases h; exact .refl u
  · exact startTaken_playsOnly h

theorem settle_onRelease {u v : State} {f : FixtureNo} {c : FixtureConfig} (h : onRelease u f c = some v)
    (ts : List Task) : settle u (c.startTask f c.secondList .release ++ ts) = settle v ts := by
  unfold onRelease at h
  rw [FixtureConfig.startTask.eq_def]
  cases hlist : c.secondList with
  | none => simp only [hlist] at h; cases h; rfl
  | some i => simp only [hlist] at h; exact settle_start (fun e => by cases e) h ts

/-- R34: the on-release list, once the hold has ended. -/
theorem settle_released {u v : State} {f : FixtureNo} {c : FixtureConfig} {h : Holder} {cause : ReleaseCause}
    (hv : holdReleased u f c h cause = some v) (hc : (u.fixture f).config = some c) (ts : List Task) :
    settle (u.freed f c h.side cause) (c.startTask f c.secondList .release ++ .releaseTail f h.robot h.side cause :: ts) =
      settle v (.promote f :: ts) := by
  rw [holdReleased_eq] at hv
  obtain ⟨w, hw, rfl⟩ := Option.map_eq_some_iff.mp hv
  have plays := onRelease_playsOnly hw
  have value : (w.fixture f).eventValue h.side = releaseValue u f c h.side cause := by
    rw [Fixture.eventValue_eq (c := c) (by rw [plays.fixture, State.freed_fixture]; exact hc), plays.fixture,
      State.freed_fixture]
    rfl
  refine (settle_onRelease hw _).trans (settle_step (t := .releaseTail f h.robot h.side cause) (us := [.promote f]) ?_ ts)
  show performReleaseTail w f h.robot h.side cause = _
  unfold performReleaseTail
  rw [value]
  rfl

theorem holdReleased_fixture {u v : State} {f : FixtureNo} {c : FixtureConfig} {h : Holder} {cause : ReleaseCause}
    (hv : holdReleased u f c h cause = some v) (g : FixtureNo) :
    v.fixture g = (u.freed f c h.side cause).fixture g := by
  rw [holdReleased_eq] at hv
  obtain ⟨w, hw, rfl⟩ := Option.map_eq_some_iff.mp hv
  unfold State.releaseSent
  dsimp only
  split <;> simp [(onRelease_playsOnly hw).fixture]

/-- `holdEnded` reads of the holder its robot and its side. -/
theorem holdEnded_congr {h k : Holder} (robot : k.robot = h.robot) (side : k.side = h.side) (u : State) (f : FixtureNo)
    (c : FixtureConfig) (cause : ReleaseCause) : holdEnded u f c k cause = holdEnded u f c h cause := by
  unfold holdEnded
  rw [holdReleased_eq, holdReleased_eq, robot, side]

/-- R34, R35: a release of any cause but PHASE ends as `holdEnded` says. -/
theorem settle_release {s t : State} {f : FixtureNo} {c : FixtureConfig} {h : Holder} {cause : ReleaseCause}
    (hc : (s.fixture f).config = some c) (hh : (s.fixture f).claims.holder = some h)
    (hend : holdEnded s f c h cause = some t) (ts : List Task) :
    settle s (.release f cause :: ts) = settle t ts := by
  obtain ⟨v, hv, hp⟩ := Option.bind_eq_some_iff.mp hend
  have released : perform s (.release f cause) = (s.freed f c h.side cause,
      c.startTask f c.secondList .release ++ [.releaseTail f h.robot h.side cause]) := by
    show performRelease s f cause = _
    unfold performRelease
    dsimp only
    rw [hh]
    split
    · rename_i hc' hh'
      cases hc.symm.trans hc'; cases hh'; rfl
    · rename_i hno
      exact absurd rfl (hno c h hc)
  have fixture := (holdReleased_fixture hv f).trans (s.freed_fixture f c h.side cause)
  have queued : v.withQueue f (s.fixture f).claims.queue = v := by
    have := v.withQueue_same f
    rwa [show (v.fixture f).claims.queue = (s.fixture f).claims.queue by rw [fixture]] at this
  calc settle s (.release f cause :: ts)
      = settle (s.freed f c h.side cause)
          (c.startTask f c.secondList .release ++ .releaseTail f h.robot h.side cause :: ts) := by
        rw [settle_step released, List.append_assoc]; rfl
    _ = settle v (.promote f :: ts) := settle_released hv hc ts
    _ = settle t ts := by
        rw [← queued]
        exact settle_promoted ts _ (by rw [fixture]; exact hc) (by rw [fixture]) hp

end Sys2Proof.Machine
end

section
/-! Proofs for 02_holds_and_wait_queues.md, part 6: how a list ends after a delay (R41, R42, R143, R146, R149), and a GATE's
release with the robots that promotion drops, spelt out (R34, R35). -/

namespace Sys2Proof.Machine

/-! ## The end of a delay (R143, R146, R149) -/

theorem State.advance_runner (s : State) (d : Nat) (h : s.running = true) (r : RunnerId) :
    (s.advance d).runner r = (s.runner r).advance d := by
  rw [State.advance_running s d h]; cases r <;> rfl

theorem Runner.advance_current (x : Runner) (d : Nat) : (x.advance d).current = x.current := by
  unfold Runner.advance; split <;> rfl

theorem Runner.advance_queue (x : Runner) (d : Nat) : (x.advance d).queue = x.queue := by
  unfold Runner.advance; split <;> rfl

/-- R147: time alone makes no unit another runner's. -/
@[simp] theorem State.advance_drivenBy (s : State) (d : Nat) (r : RunnerId) :
    (s.advance d).pulse.drivenBy r = s.pulse.drivenBy r := by
  cases h : s.running with
  | true => simp [State.advance_running s d h, Pulse.drivenBy, Pulse.advance, PulseUnit.advance]
  | false => rw [s.advance_stopped d h]

/-- R149: a runner that drives no unit stops nothing. -/
theorem Pulse.stop_idle {p : Pulse} {r : RunnerId} (h : p.drivenBy r = []) : p.stop r = p := by
  have none (i : Fin 8) : p.units[i].driver ≠ some r := by
    have := List.filter_eq_nil_iff.mp h i (mem_fixtureNumbers i)
    simpa using this
  have units : (Vector.ofFn fun i : Fin 8 =>
      if p.units[i].driver = some r then p.units[i].released else p.units[i]) = p.units := by
    ext i hi
    simp only [Vector.getElem_ofFn]
    exact if_neg (none ⟨i, hi⟩)
  show { p with units := _ } = p
  rw [units]

/-- R143, R146: a runner that drives no unit moves on from the last step of its list, which so completes. -/
theorem performMoveOn_last {s : State} {r : RunnerId} {x : Current} (hcur : (s.runner r).current = some x)
    (hlast : (s.runners.store[x.index]).last = true) (hdriven : s.pulse.drivenBy r = []) :
    performMoveOn s r = (s.setRunner r ⟨.draining, some x, (s.runner r).queue⟩, completeTasks r x) := by
  simp only [performMoveOn, hcur, if_pos hlast, hdriven, List.isEmpty_nil, if_true]

/-- R143: or arrives at the next step. -/
theorem performMoveOn_next {s : State} {r : RunnerId} {x : Current} {i : StepNo}
    (hcur : (s.runner r).current = some x) (hlast : (s.runners.store[x.index]).last = false)
    (hi : i.val = x.index.val + 1) :
    performMoveOn s r = (s.setRunner r ⟨.draining, some ⟨x.start, i⟩, (s.runner r).queue⟩, [.arrive r]) := by
  have room : x.index.val + 1 < 64 := hi ▸ i.isLt
  have next : (⟨x.index.val + 1, room⟩ : StepNo) = i := Fin.ext hi.symm
  simp only [performMoveOn, hcur, hlast, Bool.false_eq_true, if_false, dif_pos room, next]

/-- R148, R149: a runner that arrives at a step in error, driving no unit, aborts its list. -/
theorem performArrive_error {s : State} {r : RunnerId} {x : Current} (hcur : (s.runner r).current = some x)
    (herror : s.pulse.stepError s.runners.store[x.index] = true) (hdriven : s.pulse.drivenBy r = []) :
    performArrive s r = (s.setRunner r { s.runner r with mode := .draining }, [.abortTail r x.index]) := by
  simp only [performArrive, hcur, if_pos herror, abortAt, Pulse.stop_idle hdriven, hdriven, List.map_nil, List.nil_append]

/-- R149 steps 2 to 5. -/
theorem performAbortTail_eq {s : State} {r : RunnerId} {x : Current} (hcur : (s.runner r).current = some x)
    (i : StepNo) : performAbortTail s r i =
      ((s.createEvent (.fault .actionError) (some x.start.fixture) 0 0 i.val).setRunnerFault,
        x.start.reportTask .aborted ++ [.nextList r]) := by
  simp only [performAbortTail, hcur]

/-- R146 step 2, R149 step 5: the runner takes up its next start as `nextTaken` says. -/
theorem settle_nextList {u v : State} {r : RunnerId} (h : nextTaken u r = some v) (ts : List Task) :
    settle u (.nextList r :: ts) = settle v ts := by
  unfold nextTaken at h
  split at h
  · rename_i hq
    cases h
    refine settle_step (t := .nextList r) (us := []) ?_ ts
    show performNextList u r = _
    simp only [performNextList, hq]
    rfl
  · rename_i t rest hq
    have taken : performNextList u r = (u.setRunner r ⟨.draining, some ⟨t, t.list⟩, rest⟩, [.arrive r]) := by
      simp only [performNextList, hq]
    refine (settle_step (t := .nextList r) taken ts).trans (settle_arrive (t := t) (by simp) ?_ ts)
    rw [listBegun_setRunner, State.setRunner_runner_same]
    exact h

/-- R40: the report that ends the only dispense in flight at a HELD DISPENSER is about the holder's list. -/
theorem settle_report_last {s : State} {f : FixtureNo} (hk : (s.fixture f).kind? = some .dispenser)
    (hheld : (s.fixture f).state = .held) (hone : (s.fixture f).claims.inFlight = 1) {report : Report}
    {cause : ReleaseCause} (hreport : report = .completed ∧ cause = .done ∨ report = .aborted ∧ cause = .aborted)
    (ts : List Task) : settle s (.report f report :: ts) =
      settle (s.setClaims f { (s.fixture f).claims with inFlight := 0 }) (.release f cause :: ts) := by
  have ends : endDispense s f cause =
      (s.setClaims f { (s.fixture f).claims with inFlight := 0 }, [.release f cause]) := by
    simp only [endDispense, hone, hheld, and_self, if_true, Nat.sub_self]
  refine settle_step (t := .report f report) (us := [.release f cause]) ?_ ts
  show performReport s f report = _
  unfold performReport
  dsimp only
  rw [if_neg (not_not.mpr hk)]
  rcases hreport with ⟨rfl, rfl⟩ | ⟨rfl, rfl⟩ <;> exact ends

/-- R41, R42, R146, R149: the report on the holder's list that ends its dispense, the release that follows, and the
runner's next start. -/
theorem settle_report_nextList {s e n : State} {r : RunnerId} {f : FixtureNo} {c : FixtureConfig} {h k : Holder}
    (hc : (s.fixture f).config = some c) (hk : c.kind = .dispenser) (hheld : (s.fixture f).state = .held)
    (hh : (s.fixture f).claims.holder = some k) (hrobot : k.robot = h.robot) (hside : k.side = h.side)
    (hone : (s.fixture f).claims.inFlight = 1) {report : Report}
    {cause : ReleaseCause} (hreport : report = .completed ∧ cause = .done ∨ report = .aborted ∧ cause = .aborted)
    (hend : holdEnded (s.setClaims f { (s.fixture f).claims with inFlight := 0 }) f c h cause = some e)
    (hnext : nextTaken e r = some n) : settle s [.report f report, .nextList r] = n := by
  rw [settle_report_last (by rw [Fixture.kind?_eq hc, hk]) hheld hone hreport,
    settle_release (h := k) (by simpa using hc) (by simpa using hh) (by rwa [holdEnded_congr hrobot hside]),
    settle_nextList hnext, settle_nil]

/-! ## Hold-off entries of the robots that are dropped (R14, R35) -/

/-- What a new hold-off entry depends on, and the list, are the same in both states. -/
structure HoldsOffAs (s t : State) : Prop where
  holdOff : t.engine.holdOff = s.engine.holdOff
  settings : t.settings = s.settings
  now : t.now = s.now

theorem HoldsOffAs.makeHoldOff {s t : State} (h : HoldsOffAs s t) (r : Robot) (f : FixtureNo) :
    HoldsOffAs (s.makeHoldOff r f) (t.makeHoldOff r f) where
  holdOff := by simp only [State.makeHoldOff_holdOff, State.nowMs, h.holdOff, h.settings, h.now]
  settings := by simpa using h.settings
  now := by simpa using h.now

/-- Robots that leave the queue of a fixture, each with its hold-off entry. -/
def State.allDropped (s : State) (f : FixtureNo) (dropped : List Waiter) : State :=
  dropped.foldl (fun x d => x.makeHoldOff d.robot f) s

theorem HoldsOffAs.allDropped (f : FixtureNo) (dropped : List Waiter) : ∀ {s t : State}, HoldsOffAs s t →
    HoldsOffAs (s.allDropped f dropped) (t.allDropped f dropped) := by
  induction dropped with
  | nil => exact fun h => h
  | cons w rest ih => exact fun h => ih (h.makeHoldOff w.robot f)

/-- Nothing but the hold-off list changes. -/
theorem State.allDropped_eq (f : FixtureNo) (dropped : List Waiter) :
    ∀ s : State, s.allDropped f dropped = s.setHoldOff (s.allDropped f dropped).engine.holdOff := by
  induction dropped with
  | nil => exact fun _ => rfl
  | cons w rest ih =>
    intro s
    have made : ∃ l, s.makeHoldOff w.robot f = s.setHoldOff l := by
      unfold State.makeHoldOff; split
      · exact ⟨s.engine.holdOff, rfl⟩
      · exact ⟨_, rfl⟩
    obtain ⟨l, hl⟩ := made
    have := ih (s.makeHoldOff w.robot f)
    rw [hl] at this
    show (s.makeHoldOff w.robot f).allDropped f rest = s.setHoldOff ((s.makeHoldOff w.robot f).allDropped f rest).engine.holdOff
    rw [hl]
    exact this

theorem State.allDropped_fixture (s : State) (f g : FixtureNo) (dropped : List Waiter) :
    (s.allDropped f dropped).fixture g = s.fixture g := by
  rw [State.allDropped_eq]; rfl

theorem reportsAs_allDropped (s : State) (f : FixtureNo) (dropped : List Waiter) :
    ReportsAs s (s.allDropped f dropped) := by
  rw [State.allDropped_eq]; exact ⟨rfl, rfl, rfl, rfl, rfl⟩

theorem restAs_allDropped (s : State) (f : FixtureNo) (dropped : List Waiter) : RestAs s (s.allDropped f dropped) f := by
  rw [State.allDropped_eq]; exact ⟨fun _ _ => rfl, rfl, rfl, rfl, rfl, rfl, rfl, rfl, rfl, rfl⟩

theorem State.makeHoldOff_claimFault (s : State) (q : Robot) (f : FixtureNo) (c : FixtureConfig) (r : Robot) :
    (s.makeHoldOff q f).claimFault f c r = s.claimFault f c r :=
  State.claimFault_congr (by simp) (by simp) (by simp) (by simp) (by simp)
    (fun g _ => by rw [State.makeHoldOff_fixture]; exact ⟨rfl, rfl, rfl, rfl, rfl⟩)
    (.inr (by rw [State.makeHoldOff_fixture]; exact ⟨rfl, rfl, rfl, rfl, rfl⟩)) (by simp) r

/-- R35: promotion drops the robots at the head that fail. -/
theorem promoted_allDropped {f : FixtureNo} {c : FixtureConfig} (rest : List Waiter) (dropped : List Waiter) :
    ∀ {u : State}, (u.fixture f).state = .free → (∀ w ∈ dropped, u.claimFault f c w.robot ≠ none) →
      promoted u f c (dropped ++ rest) = promoted (u.allDropped f dropped) f c rest := by
  induction dropped with
  | nil => exact fun _ _ => rfl
  | cons w more ih =>
    intro u hfree hfail
    rw [List.cons_append, promoted_fails _ (by rw [firstFailure_free c _ hfree]; exact hfail w (by simp))]
    exact ih (by simpa using hfree) fun d hd => by
      rw [State.makeHoldOff_claimFault]; exact hfail d (by simp [hd])

/-! ## A GATE without an on-release list (R34, R35) -/

/-- A hold that has ended at a fixture without an on-release list, before promotion. -/
def State.released (u : State) (f : FixtureNo) (c : FixtureConfig) (h : Holder) (cause : ReleaseCause) : State :=
  (u.freed f c h.side cause).releaseSent f h.robot h.side cause (releaseValue u f c h.side cause)

theorem holdEnded_noList {c : FixtureConfig} (hlist : c.secondList = none) (u : State) (f : FixtureNo) (h : Holder)
    (cause : ReleaseCause) : holdEnded u f c h cause =
      promoted (u.released f c h cause) f c (u.fixture f).claims.queue := by
  unfold holdEnded
  rw [holdReleased_eq, onRelease.eq_def, hlist]
  rfl

section
variable (u : State) (f : FixtureNo) (c : FixtureConfig) (h : Holder) (cause : ReleaseCause)

theorem State.released_fixture : (u.released f c h cause).fixture f = { u.fixture f with
    state := .free
    claims := { (u.fixture f).claims with
      holder := none, allowance := refunded c.params (u.fixture f).claims.allowance h.side cause } } := by
  rw [← u.freed_fixture f c h.side cause]
  unfold State.released State.releaseSent
  dsimp only
  split <;> simp

theorem State.released_restAs : RestAs u (u.released f c h cause) f := by
  have sent : RestAs u ((u.freed f c h.side cause).createEvent (.release cause) (some f) h.robot h.side
      (releaseValue u f c h.side cause)).raiseChange f :=
    ((restAs_setFixture u f _).trans (restAs_createEvent _ _ _ _ _ _ f)).trans (restAs_raiseChange _ f)
  unfold State.released State.releaseSent
  dsimp only
  split
  · exact sent.trans (restAs_makeHoldOff _ _ _ f)
  · exact sent

theorem State.released_reportsAs : ReportsAs (u.createEvent (.release cause) (some f) h.robot h.side
    (releaseValue u f c h.side cause)).raiseChange (u.released f c h cause) := by
  have sent := ((reportsAs_setFixture u f { u.fixture f with
    state := .free
    claims := { (u.fixture f).claims with
      holder := none, allowance := refunded c.params (u.fixture f).claims.allowance h.side cause } }).createEvent
    (.release cause) (some f) h.robot h.side (releaseValue u f c h.side cause)).raiseChange
  unfold State.released State.releaseSent
  dsimp only
  split
  · exact sent.trans (reportsAs_makeHoldOff _ _ _)
  · exact sent

theorem State.released_holdsOffAs : HoldsOffAs (if cause.makesEntry then u.makeHoldOff h.robot f else u)
    (u.released f c h cause) := by
  have sent : HoldsOffAs u ((u.freed f c h.side cause).createEvent (.release cause) (some f) h.robot h.side
      (releaseValue u f c h.side cause)).raiseChange :=
    ⟨by simp [State.freed], by simp [State.freed], by simp [State.freed]⟩
  unfold State.released State.releaseSent
  dsimp only
  split
  · exact sent.makeHoldOff _ _
  · exact sent

theorem State.released_peers : (u.released f c h cause).picture.peers = u.picture.peers := by
  rw [(u.released_reportsAs f c h cause).picture]; simp

end

/-- Table 6-6: the events of a GATE carry the value 0. -/
theorem releaseValue_gate {c : FixtureConfig} (hk : c.kind = .gate) (u : State) (f : FixtureNo) (side : Side)
    (cause : ReleaseCause) : releaseValue u f c side cause = 0 := if_neg (by simp [hk])

/-- R42: only a DISPENSER's dispense is refunded. -/
theorem refunded_gate {c : FixtureConfig} (hk : c.kind = .gate) (a : PerSide) (side : Side) (cause : ReleaseCause) :
    refunded c.params a side cause = a := by
  unfold FixtureConfig.kind KindParams.kind at hk
  cases hp : c.params <;> simp only [hp, reduceCtorEq] at hk
  cases cause <;> rfl

/-- R35: a GATE without a link is re-checked after the release as before it. -/
theorem State.released_claimFault {c : FixtureConfig} (hk : c.kind = .gate) (hlink : c.link = none) (u : State)
    (f : FixtureNo) (h : Holder) (cause : ReleaseCause) (r : Robot) :
    (u.released f c h cause).claimFault f c r = u.claimFault f c r := by
  obtain ⟨others, -, sides, loader, settings, -, clock, -⟩ := u.released_restAs f c h cause
  refine State.claimFault_congr settings loader (by rw [clock]) sides (u.released_peers f c h cause)
    (fun g hg => by rw [others g hg]; exact ⟨rfl, rfl, rfl, rfl, rfl⟩) (.inl hlink) ?_ r
  rw [State.released_fixture, refunded_gate hk]

/-- R35: where every waiting robot is dropped, the fixture is FREE with nobody there. -/
theorem promoted_free (u : State) (f : FixtureNo) (c : FixtureConfig) : ∃ t, promoted u f c [] = some t ∧
    (t.fixture f).state = .free ∧ (t.fixture f).claims = { (u.fixture f).claims with queue := [] } ∧
    (t.fixture f).indicator = indicatorOf u.clock.phase (t.fixture f) ∧ ReportsAs u t ∧ RestAs u t f ∧
    t.engine.holdOff = u.engine.holdOff := by
  refine ⟨_, promoted_nil u f c, by simp, ?_, ?_, ?_, ?_, by simp [State.withQueue]⟩
  · simp [State.withQueue]
  · rw [State.refreshIndicator_indicator]; rfl
  · exact ((reportsAs_setFixture u f _).trans (reportsAs_setFixture _ f _)).trans (reportsAs_refreshIndicator _ f)
  · exact ((restAs_withQueue u f []).trans (restAs_setFixture _ f _)).trans (restAs_refreshIndicator _ f)

end Sys2Proof.Machine
end

section
/-! Proofs for 02_holds_and_wait_queues.md, part 7: O26 settled, from the release, the end of a delay and the hold limit. -/

namespace Sys2Proof.Machine

/-- R29: time ages the holder. -/
theorem State.advance_holder {s : State} {f : FixtureNo} {h : Holder} (hrun : s.running = true) (d : Nat)
    (hh : (s.fixture f).claims.holder = some h) : ((s.advance d).fixture f).claims.holder =
      some { h with age := h.age + if s.clock.phase = .halted then 0 else d } := by
  rw [s.advance_fixture d f hrun]
  simp only [Fixture.advance, Claims.advance, hh, Option.map_some]

/-- R148: what a step may name is set by the script. -/
theorem Pulse.SetAs.stepError {p q : Pulse} (h : p.SetAs q) (t : Step) : q.stepError t = p.stepError t := by
  have addressable (u : UnitNo) : q.addressable u = p.addressable u := by
    simp only [Pulse.addressable, (h.pairs (pairOf u)).1]
  have binding (u : UnitNo) : q.units[u].binding = p.units[u].binding := (h.units u).1
  simp only [Pulse.stepError, addressable, binding]

theorem State.advance_stepError (s : State) (d : Nat) (t : Step) :
    (s.advance d).pulse.stepError t = s.pulse.stepError t := by
  cases h : s.running with
  | true => rw [State.advance_running s d h]; exact (Pulse.advance_setAs s.pulse d).stepError t
  | false => rw [s.advance_stopped d h]

/-! ## A DISPENSER's list after a delay (R41, R42) -/

theorem exec_delayEnd {s : State} {r : RunnerId} {left : Nat} (h : (s.runner r).mode = .delay left) :
    exec (.delayEnd r) s = .next (settle (s.advance left) [.moveOn r]) :=
  onExpiry_some (act := fun s => settle s [.moveOn r]) (by simp only [delayWait, h])

section
variable {u : State} {r : RunnerId} {x : Current} {f : FixtureNo} {c : FixtureConfig} {h k : Holder}

/-- R41, R146: the runner moves on from the last step of a DISPENSER's grant list: DONE, and its next start. -/
theorem settle_moveOn_done (hcur : (u.runner r).current = some x) (hdriven : u.pulse.drivenBy r = [])
    (hpurpose : x.start.purpose = .grant) (hf : x.start.fixture = f) (hc : (u.fixture f).config = some c)
    (hk : c.kind = .dispenser) (hheld : (u.fixture f).state = .held) (hh : (u.fixture f).claims.holder = some k)
    (hrobot : k.robot = h.robot) (hside : k.side = h.side) (hone : (u.fixture f).claims.inFlight = 1)
    (hlast : (u.runners.store[x.index]).last = true) {e n : State}
    (hend : holdEnded ((u.setRunner r ⟨.draining, some x, (u.runner r).queue⟩).setClaims f
      { (u.fixture f).claims with inFlight := 0 }) f c h .done = some e) (hnext : nextTaken e r = some n) :
    settle u [.moveOn r] = n := by
  have tasks : completeTasks r x = [.report f .completed, .nextList r] := by
    simp [completeTasks, Start.reportTask, hpurpose, hf]
  have moved := settle_step (t := .moveOn r) (performMoveOn_last hcur hlast hdriven) []
  rw [moved, tasks]
  refine settle_report_nextList (h := h) (k := k) (c := c) (e := e) (by simpa using hc) hk (by simpa using hheld)
    (by simpa using hh) hrobot hside (by simpa using hone) (.inl ⟨rfl, rfl⟩) ?_ hnext
  simpa using hend

/-- R42, R148, R149: or it arrives at a step in error: FAULT ACTION_ERROR, ABORTED, and its next start. -/
theorem settle_moveOn_error (hcur : (u.runner r).current = some x) (hdriven : u.pulse.drivenBy r = [])
    (hpurpose : x.start.purpose = .grant) (hf : x.start.fixture = f) (hc : (u.fixture f).config = some c)
    (hk : c.kind = .dispenser) (hheld : (u.fixture f).state = .held) (hh : (u.fixture f).claims.holder = some k)
    (hrobot : k.robot = h.robot) (hside : k.side = h.side) (hone : (u.fixture f).claims.inFlight = 1) {i : StepNo}
    (hlast : (u.runners.store[x.index]).last = false) (hi : i.val = x.index.val + 1)
    (herror : u.pulse.stepError u.runners.store[i] = true) {e n : State}
    (hend : holdEnded (((u.setRunner r ⟨.draining, some ⟨x.start, i⟩, (u.runner r).queue⟩).createEvent
      (.fault .actionError) (some f) 0 0 i.val).setRunnerFault.setClaims f { (u.fixture f).claims with inFlight := 0 })
      f c h .aborted = some e) (hnext : nextTaken e r = some n) : settle u [.moveOn r] = n := by
  let v := u.setRunner r ⟨.draining, some ⟨x.start, i⟩, (u.runner r).queue⟩
  have hvcur : (v.runner r).current = some ⟨x.start, i⟩ := by simp [v]
  have moved := settle_step (t := .moveOn r) (performMoveOn_next hcur hlast hi) []
  have arrived : performArrive v r = (v, [.abortTail r i]) := by
    rw [performArrive_error hvcur (by simpa [v] using herror) (by simpa [v] using hdriven)]
    simp [v]
  have aborted := settle_step (t := .abortTail r i) (performAbortTail_eq hvcur i) []
  have tasks : x.start.reportTask .aborted = [.report f .aborted] := by simp [Start.reportTask, hpurpose, hf]
  have fixture : (v.createEvent (.fault .actionError) (some f) 0 0 i.val).setRunnerFault.fixture f = u.fixture f := by
    unfold State.setRunnerFault
    dsimp only
    split
    · show (v.createEvent _ _ _ _ _).fixture f = _
      simp [v]
    · rw [State.raiseChange_fixture]
      show (v.createEvent _ _ _ _ _).fixture f = _
      simp [v]
  rw [moved]
  refine (settle_step (t := .arrive r) arrived []).trans ?_
  show settle v [.abortTail r i] = n
  rw [aborted, tasks, hf]
  refine settle_report_nextList (h := h) (k := k) (c := c) (e := e) (by rw [fixture]; exact hc) hk
    (by rw [fixture]; exact hheld) (by rw [fixture]; exact hh) hrobot hside (by rw [fixture]; exact hone)
    (.inr ⟨rfl, rfl⟩) ?_ hnext
  rw [fixture]
  exact hend

end

/-! ## A GATE at its hold limit (R30, R35) -/

theorem exec_overstay {s : State} {f : FixtureNo} {c : FixtureConfig} {h : Holder} {limit lost : Nat}
    (hc : (s.fixture f).config = some c) (hp : c.params = .gate limit lost) (hheld : (s.fixture f).state = .held)
    (hh : (s.fixture f).claims.holder = some h) (hphase : s.clock.phase ≠ .halted) (hlimit : limit ≠ 0)
    (hover : limit ≤ h.held) :
    exec (.overstay f) s = .next (resumeTick (settle s [.release f .overstay])) := by
  have reached : overstayed f s = true := by simp [overstayed, hc, hp, hheld, hh, hphase, hlimit, hover]
  show Host.Outcome.next (if overstayed f s = true then _ else s) = _
  rw [if_pos reached]

/-- R35: a GATE without lists, once the robots at the head that fail have been dropped: the next one is granted. -/
theorem holdEnded_granted {u : State} {f : FixtureNo} {c : FixtureConfig} {h : Holder} {cause : ReleaseCause}
    {dropped rest : List Waiter} {w : Waiter} (hk : c.kind = .gate) (hfirst : c.firstList = none)
    (hsecond : c.secondList = none) (hlink : c.link = none) (hq : (u.fixture f).claims.queue = dropped ++ w :: rest)
    (hfail : ∀ d ∈ dropped, u.claimFault f c d.robot ≠ none) (hpass : u.claimFault f c w.robot = none) :
    holdEnded u f c h cause = some (((u.released f c h cause).allDropped f dropped).waiterSent f c w rest) := by
  have free : ((u.released f c h cause).fixture f).state = .free := by rw [State.released_fixture]
  have fault (r : Robot) : ((u.released f c h cause).allDropped f dropped).claimFault f c r = u.claimFault f c r := by
    rw [← State.released_claimFault hk hlink u f h cause r, State.allDropped_eq]
    rfl
  rw [holdEnded_noList hsecond, hq, promoted_allDropped _ _ free fun d hd => by
    rw [State.released_claimFault hk hlink]; exact hfail d hd]
  rw [promoted_passes rest, waiterGranted_noList hfirst]
  rw [firstFailure_free c _ (by rw [State.allDropped_fixture]; exact free), fault]
  exact hpass

/-- R35: where all fail, the GATE is FREE. -/
theorem holdEnded_allDropped {u : State} {f : FixtureNo} {c : FixtureConfig} {h : Holder} {cause : ReleaseCause}
    {dropped : List Waiter} (hk : c.kind = .gate) (hsecond : c.secondList = none)
    (hlink : c.link = none ∨ dropped = []) (hq : (u.fixture f).claims.queue = dropped)
    (hfail : ∀ d ∈ dropped, u.claimFault f c d.robot ≠ none) :
    holdEnded u f c h cause = promoted ((u.released f c h cause).allDropped f dropped) f c [] := by
  have free : ((u.released f c h cause).fixture f).state = .free := by rw [State.released_fixture]
  rw [holdEnded_noList hsecond, hq]
  refine (congrArg _ (List.append_nil dropped).symm).trans (promoted_allDropped [] dropped free fun d hd => ?_)
  rcases hlink with hlink | rfl
  · rw [State.released_claimFault hk hlink]; exact hfail d hd
  · cases hd

section
variable {u : State} {f : FixtureNo} {c : FixtureConfig} {h : Holder} {cause : ReleaseCause} {dropped : List Waiter}

/-- The reports of a GATE's release, and the hold-off entries it makes with those of the robots dropped. -/
theorem droppedState_reports (hk : c.kind = .gate) :
    ReportsAs (u.createEvent (.release cause) (some f) h.robot h.side 0).raiseChange
      ((u.released f c h cause).allDropped f dropped) := by
  have sent := u.released_reportsAs f c h cause
  rw [releaseValue_gate hk] at sent
  exact sent.trans (reportsAs_allDropped _ f dropped)

theorem droppedState_restAs : RestAs u ((u.released f c h cause).allDropped f dropped) f :=
  (u.released_restAs f c h cause).trans (restAs_allDropped _ f dropped)

theorem droppedState_holdOff : ((u.released f c h cause).allDropped f dropped).engine.holdOff =
    ((if cause.makesEntry then u.makeHoldOff h.robot f else u).allDropped f dropped).engine.holdOff :=
  ((u.released_holdsOffAs f c h cause).allDropped f dropped).holdOff

theorem droppedState_fixture (hk : c.kind = .gate) :
    ((u.released f c h cause).allDropped f dropped).fixture f = { u.fixture f with
      state := .free, claims := { (u.fixture f).claims with holder := none } } := by
  rw [State.allDropped_fixture, State.released_fixture, refunded_gate hk]

end

/-- Settles O26: `settle_release` for every release, and what comes before it and after it in the commands named. -/
theorem promotionGrantsTheHead : Obligations.PromotionGrantsTheHead := by
  unfold Obligations.PromotionGrantsTheHead
  refine ⟨fun s t f c h cause rest hc hh _ hend => settle_release hc hh hend rest, ?_, ?_⟩
  · intro s r left x f c h hrun hmode hcur hdriven hpurpose hf hc hk hheld hh hone u claims
    have runner : u.runner r = (s.runner r).advance left := s.advance_runner left hrun r
    have queue : (u.runner r).queue = (s.runner r).queue := by rw [runner, Runner.advance_queue]
    have current : (u.runner r).current = some x := by rw [runner, Runner.advance_current, hcur]
    have fixture : u.fixture f = (s.fixture f).advance left _ := s.advance_fixture left f hrun
    have hcu : (u.fixture f).config = some c := by rw [fixture]; exact hc
    have hheldu : (u.fixture f).state = .held := by rw [fixture]; exact hheld
    have honeu : (u.fixture f).claims.inFlight = 1 := by rw [fixture]; exact hone
    have hku := State.advance_holder hrun left hh
    have driven : u.pulse.drivenBy r = [] := by simpa [u] using hdriven
    have store : u.runners.store = s.runners.store := s.advance_store left
    refine ⟨fun hlast => ⟨_, exec_delayEnd hmode, fun e n hend hnext => ?_⟩,
      fun i hlast hi herror => ?_⟩
    · rw [← queue] at hend
      exact settle_moveOn_done current driven hpurpose hf hcu hk hheldu hku rfl rfl honeu (by rw [store]; exact hlast)
        hend hnext
    · intro v w
      refine ⟨_, exec_delayEnd hmode, fun e n hend hnext => ?_⟩
      refine settle_moveOn_error current driven hpurpose hf hcu hk hheldu hku rfl rfl honeu
        (by rw [store]; exact hlast) hi ?_ ?_ hnext
      · rw [store, State.advance_stepError]; exact herror
      · have fault : v.runners.fault = s.runners.fault := by simp [v, u]
        rw [queue]
        unfold State.setRunnerFault
        dsimp only
        rw [fault]
        exact hend
  · intro s f c h dropped limit lost _ hc hp hfirst hsecond hlink hheld hh hphase hlimit hover hfail
    have hk : c.kind = .gate := by simp [FixtureConfig.kind, hp, KindParams.kind]
    have reports := droppedState_reports (u := s) (f := f) (h := h) (cause := .overstay) (dropped := dropped) hk
    have rests := droppedState_restAs (u := s) (f := f) (c := c) (h := h) (cause := .overstay) (dropped := dropped)
    have fixture := droppedState_fixture (u := s) (f := f) (h := h) (cause := .overstay) (dropped := dropped) hk
    have holdOff := droppedState_holdOff (u := s) (f := f) (c := c) (h := h) (cause := .overstay) (dropped := dropped)
    let v := (s.released f c h .overstay).allDropped f dropped
    have run {t : State} (hend : holdEnded s f c h .overstay = some t) :
        exec (.overstay f) s = .next (resumeTick t) := by
      rw [exec_overstay hc hp hheld hh hphase hlimit hover, settle_release hc hh hend, settle_nil]
    refine ⟨fun w rest hq hpass => ?_, fun hq => ?_⟩
    · obtain ⟨-, hstate, hclaims, -⟩ := (v.withQueue f rest).granted_fixture f c (w.asHolder v.clock.tick)
      have granted := (v.withQueue f rest).granted_reportsAs f c (w.asHolder v.clock.tick)
      rw [if_neg (show c.kind ≠ .dispenser by simp [hk])] at granted
      have sent := (((reports.trans (t := v) (reportsAs_setFixture v f _)).createEvent .grant (some f) w.robot w.side
        0).raiseChange).trans granted
      have rest := (rests.trans (restAs_withQueue v f rest)).trans
        ((v.withQueue f rest).granted_restAs f c (w.asHolder v.clock.tick))
      refine ⟨_, run (holdEnded_granted hk hfirst hsecond hlink hq hfail hpass), hstate, ?_, ?_, ?_, ?_, sent.picture, rest⟩
      · obtain ⟨-, -, -, -, -, -, hclock, -⟩ := rests
        show ((State.granted _ f c _).fixture f).claims.holder = _
        rw [hclaims, Waiter.asHolder, show v.clock = s.clock from hclock]
      · show ((State.granted _ f c _).fixture f).claims.queue = _
        rw [hclaims, State.withQueue_fixture]
      · show (State.granted _ f c _).engine.holdOff = _
        rw [State.granted_holdOff]
        exact holdOff
      · refine sent.line.trans ?_
        rw [State.raiseChange_line, State.raiseChange_createEvent_line]
    · obtain ⟨t, ht, hstate, hclaims, -, hreports, hrest, hholdOff⟩ := promoted_free v f c
      refine ⟨t, run ((holdEnded_allDropped hk hsecond (.inl hlink) hq hfail).trans ht), hstate, ?_, ?_, ?_, ?_,
        (reports.trans hreports).picture, rests.trans hrest⟩
      · rw [hclaims, fixture]
      · rw [hclaims]
      · rw [hholdOff]; exact holdOff
      · rw [(reports.trans hreports).line, State.raiseChange_line]

end Sys2Proof.Machine
end

section
/-! Proofs for 02_holds_and_wait_queues.md, part 8: O25 settled: the four causes that end a GATE's hold, each led to one
release (R30, R31, R33, R43). -/

namespace Sys2Proof.Machine

/-! ## What `holdEnded` leaves -/

/-- Everything but fixture `f` that the readers of R43 and R104 look at stands as it was. -/
structure ElsewhereAs (f : FixtureNo) (s t : State) : Prop where
  fixtures : ∀ g, g ≠ f → t.fixture g = s.fixture g
  loader : t.loader = s.loader
  clock : t.clock = s.clock

theorem ElsewhereAs.trans {f : FixtureNo} {s t u : State} (h : ElsewhereAs f s t) (k : ElsewhereAs f t u) :
    ElsewhereAs f s u :=
  ⟨fun g hg => (k.fixtures g hg).trans (h.fixtures g hg), k.loader.trans h.loader, k.clock.trans h.clock⟩

theorem RestAs.elsewhereAs {f : FixtureNo} {s t : State} (h : RestAs s t f) : ElsewhereAs f s t := by
  obtain ⟨fixtures, -, -, loader, -, -, clock, -⟩ := h
  exact ⟨fixtures, loader, clock⟩

theorem PlaysOnly.elsewhereAs {s t : State} (h : PlaysOnly s t) (f : FixtureNo) : ElsewhereAs f s t :=
  ⟨fun g _ => h.fixture g, by rw [h], h.clock⟩

theorem State.releaseSent_elsewhereAs (s : State) (f : FixtureNo) (robot : Robot) (side : Side) (cause : ReleaseCause)
    (value : Nat) : ElsewhereAs f s (s.releaseSent f robot side cause value) := by
  have sent := ((restAs_createEvent s (.release cause) (some f) robot side value f).trans (restAs_raiseChange _ f))
  unfold State.releaseSent
  dsimp only
  split
  · exact (sent.trans (restAs_makeHoldOff _ _ _ f)).elsewhereAs
  · exact sent.elsewhereAs

theorem waiterGranted_elsewhereAs {u t : State} {f : FixtureNo} {c : FixtureConfig} {w : Waiter} {rest : List Waiter}
    (h : waiterGranted u f c w rest = some t) : ElsewhereAs f u t := by
  have sent : ElsewhereAs f u (u.waiterSent f c w rest) :=
    ((restAs_withQueue u f rest).trans (State.granted_restAs _ f c _)).elsewhereAs
  cases hlist : c.firstList with
  | none =>
    rw [waiterGranted_noList hlist] at h
    cases h; exact sent
  | some i =>
    by_cases hk : c.kind = .dispenser
    · obtain ⟨-, -, v, hv, rfl⟩ := waiterGranted_dispenser hlist hk h
      exact (sent.trans ((startTaken_playsOnly hv).elsewhereAs f)).trans (restAs_setFixture v f _).elsewhereAs
    · rw [waiterGranted_gate hlist hk] at h
      exact sent.trans ((startTaken_playsOnly h).elsewhereAs f)

theorem promoted_elsewhereAs {f : FixtureNo} {c : FixtureConfig} {t : State} (queue : List Waiter) :
    ∀ {u : State}, promoted u f c queue = some t → ElsewhereAs f u t := by
  induction queue with
  | nil =>
    intro u h
    obtain ⟨e, he, -, -, -, -, rest, -⟩ := promoted_free u f c
    cases h.symm.trans he
    exact rest.elsewhereAs
  | cons w rest ih =>
    intro u h
    by_cases hpass : firstFailure u f c w.robot = none
    · rw [promoted_passes rest hpass] at h
      exact waiterGranted_elsewhereAs h
    · rw [promoted_fails rest hpass] at h
      exact (restAs_makeHoldOff u _ _ f).elsewhereAs.trans (ih h)

/-- R34, R35: a release changes no other fixture, and neither load nor clock. -/
theorem holdEnded_elsewhereAs {u t : State} {f : FixtureNo} {c : FixtureConfig} {h : Holder} {cause : ReleaseCause}
    (hend : holdEnded u f c h cause = some t) : ElsewhereAs f u t := by
  obtain ⟨v, hv, hp⟩ := Option.bind_eq_some_iff.mp hend
  rw [holdReleased_eq] at hv
  obtain ⟨w, hw, rfl⟩ := Option.map_eq_some_iff.mp hv
  exact (((restAs_setFixture u f _).elsewhereAs.trans ((onRelease_playsOnly hw).elsewhereAs f)).trans
    (State.releaseSent_elsewhereAs w f _ _ _ _)).trans (promoted_elsewhereAs _ hp)

/-! ## A GATE's hold ends -/

/-- R34, R35: with nobody waiting and no on-release list a GATE's release leaves it FREE. -/
theorem holdEnded_free {u : State} {f : FixtureNo} {c : FixtureConfig} {h : Holder} (cause : ReleaseCause)
    (hk : c.kind = .gate) (hlist : c.secondList = none) (hq : (u.fixture f).claims.queue = []) :
    ∃ e, holdEnded u f c h cause = some e ∧ ReleasedInto u e f h cause := by
  let v := (u.released f c h cause).allDropped f []
  obtain ⟨e, he, hstate, hclaims, hindicator, hreports, hrest, hholdOff⟩ := promoted_free v f c
  have reports : ReportsAs (u.createEvent (.release cause) (some f) h.robot h.side 0).raiseChange e :=
    (droppedState_reports (dropped := []) hk).trans hreports
  have rest : RestAs u e f := (droppedState_restAs (dropped := [])).trans hrest
  have clock : e.clock = u.clock := by rw [reports.clock]; simp
  refine ⟨e, (holdEnded_allDropped hk hlist (.inr rfl) hq (by simp)).trans he, hstate, ?_, ?_, ?_, ?_, reports.picture,
    ?_, rest⟩
  · rw [hclaims, droppedState_fixture hk]
  · rw [hclaims]
  · obtain ⟨-, -, -, -, -, -, hclock, -⟩ := droppedState_restAs (u := u) (f := f) (c := c) (h := h) (cause := cause)
      (dropped := [])
    rw [clock, hindicator]
    exact congrArg (fun k : Clock => indicatorOf k.phase (e.fixture f)) hclock
  · rw [reports.line, State.raiseChange_line]
  · rw [hholdOff, droppedState_holdOff]
    cases cause <;> rfl

/-- What O25 says of the end of a hold follows from its first half. -/
theorem gateEnds {u t : State} {f : FixtureNo} {c : FixtureConfig} {h : Holder} {cause : ReleaseCause}
    (hk : c.kind = .gate) (ends : ∀ e, holdEnded u f c h cause = some e → t = e) :
    (∀ e, holdEnded u f c h cause = some e → t = e) ∧
      (c.secondList = none → (u.fixture f).claims.queue = [] → ReleasedInto u t f h cause) := by
  refine ⟨ends, fun hlist hq => ?_⟩
  obtain ⟨e, he, released⟩ := holdEnded_free (h := h) cause hk hlist hq
  rw [ends e he]; exact released

/-- R34: a release of the robot and side of the holder. -/
theorem settle_release_holder {u : State} {f : FixtureNo} {c : FixtureConfig} {h k : Holder} {cause : ReleaseCause}
    (hc : (u.fixture f).config = some c) (hh : (u.fixture f).claims.holder = some k) (hrobot : k.robot = h.robot)
    (hside : k.side = h.side) (e : State) (hend : holdEnded u f c h cause = some e) :
    settle u [.release f cause] = e := by
  rw [← holdEnded_congr hrobot hside] at hend
  rw [settle_release hc hh hend, settle_nil]

theorem State.advance_claimsQueue_nil {s : State} {f : FixtureNo} (hq : (s.fixture f).claims.queue = []) (d : Nat) :
    ((s.advance d).fixture f).claims.queue = [] := by
  cases hrun : s.running with
  | true => rw [s.advance_fixture d f hrun]; simp [Fixture.advance, Claims.advance, hq]
  | false => rw [s.advance_stopped d hrun]; exact hq

theorem State.ready_running {s : State} (h : s.ready = true) : s.running = true := by
  unfold State.ready at h; unfold State.running; rw [h]; rfl

/-! ## A peer's lower hold (R43) -/

/-- Folding what does nothing. -/
theorem foldl_idle {α β : Type} {step : β → α → β} {b : β} (l : List α) (h : ∀ a ∈ l, step b a = b) :
    l.foldl step b = b :=
  List.foldlRecOn l step (motive := (· = b)) rfl fun _ e a ha => e ▸ h a ha

/-- R43: where one fixture alone yields, and no other does once it has been released, that release is all. -/
theorem dualHold_one {u e : State} {p : StationNo} {entries : List SummaryEntry} {f : FixtureNo}
    (hsingle : u.settings.singleHold = true) (hf : u.yields p entries f = true)
    (before : ∀ g, g ≠ f → u.yields p entries g = false) (after : ∀ g, g ≠ f → e.yields p entries g = false)
    (hrelease : settle u [.release f .yield] = e) : dualHold u p entries = e := by
  obtain ⟨l, r, hlr⟩ := List.append_of_mem (mem_fixtureNumbers f)
  have nodup : (l ++ f :: r).Nodup := by rw [← hlr]; decide
  rw [List.nodup_middle, List.nodup_cons, List.mem_append, not_or] at nodup
  obtain ⟨⟨hl, hr⟩, -⟩ := nodup
  unfold dualHold
  rw [if_pos hsingle, hlr, List.foldl_append, List.foldl_cons]
  rw [foldl_idle l fun g hg => if_neg (by simp [before g (ne_of_mem_of_not_mem hg hl)]), if_pos hf, hrelease]
  exact foldl_idle r fun g hg => if_neg (by simp [after g (ne_of_mem_of_not_mem hg hr)])

theorem State.yields_congr {s t : State} {g : FixtureNo} (fixture : t.fixture g = s.fixture g)
    (loader : t.loader = s.loader) (p : StationNo) (entries : List SummaryEntry) :
    t.yields p entries g = s.yields p entries g := by
  unfold State.yields
  rw [fixture, loader]

/-- R29, R43: a holder's age is no part of its pair. -/
theorem State.advance_yields (s : State) (d : Nat) (p : StationNo) (entries : List SummaryEntry) (g : FixtureNo) :
    (s.advance d).yields p entries g = s.yields p entries g := by
  cases hrun : s.running with
  | false => rw [s.advance_stopped d hrun]
  | true =>
    unfold State.yields
    rw [s.advance_fixture d g hrun, State.advance_loader]
    cases hh : (s.fixture g).claims.holder <;>
      simp [Fixture.advance, Claims.advance, Fixture.kind?, hh]

/-- R104: outside IDLE no row is adopted. -/
theorem lateJoin_busy {s : State} (h : s.clock.phase ≠ .idle) (row : PeerRow) : lateJoin s row = s := by
  have : s.adopts row = false := by simp [State.adopts, h]
  unfold lateJoin
  rw [this]; rfl

/-- R110, R175: a status from another station, once its frame has completed. -/
theorem exec_statusReceived {s : State} {dt : Nat} {frame payload : List Byte} {p : StationNo} {report : PeerReport}
    (hhears : s.hears = true) (hcont : s.line.continues frame = true) (hjudge : judge frame = .valid .status p payload)
    (hp : p ≠ s.loader.station) (hread : readStatus payload = some report) (hready : s.ready = true) :
    let row : PeerRow := ⟨true, 0, report.phase, report.resume, report.tick, report.entries⟩
    exec (.statusReceived dt frame) s =
      .next (lateJoin (dualHold ((heardFrom s dt frame p).setPeer p row) p report.entries) row) := by
  intro row
  let u := (s.advance (max dt (s.line.leastTime (s.line.missing frame)))).skip 0 0
  have heard : { u with line := { u.line with lastSender := p } } = heardFrom s dt frame p := by
    unfold heardFrom
    rw [if_pos hp]
    rfl
  have station : u.loader.station = s.loader.station := by simp [u]
  have hready' : (heardFrom s dt frame p).ready = true := by
    rw [← heard]; show u.ready = true
    simpa [u, State.ready] using hready
  have hstation : (heardFrom s dt frame p).loader.station = s.loader.station := by rw [← heard]; exact station
  have received : receiveFrame (Judgement.isValid .status) dt frame s = .next (takeFrame u .status p payload) := by
    simp only [receiveFrame, hhears, hcont, Bool.and_self, hjudge]
    rfl
  refine received.trans (congrArg _ ?_)
  have twin : (if p = u.loader.station then meetTwin { u with line := { u.line with lastSender := p } }
      else { u with line := { u.line with lastSender := p } }) = heardFrom s dt frame p := by
    rw [if_neg (by rw [station]; exact hp), heard]
  have taken : takeFrame u .status p payload = takeStatus (heardFrom s dt frame p) p payload := by
    rw [← twin]; rfl
  rw [taken]
  simp only [takeStatus, if_neg (hstation ▸ hp), hread, hready', if_true]
  rfl

/-- Settles O25: each cause leads to one release in the state named (`settle_release_holder`), and `gateEnds`. -/
theorem gateHoldEnds : Obligations.GateHoldEnds := by
  unfold Obligations.GateHoldEnds
  intro s f c h limit lost hready hc hp hheld hh ends
  have hk : c.kind = .gate := by simp [FixtureConfig.kind, hp, KindParams.kind]
  have hrun := State.ready_running hready
  have aged (d : Nat) := State.advance_holder hrun d hh
  have hcd (d : Nat) : ((s.advance d).fixture f).config = some c := by simpa using hc
  have ended {u t : State} {cause : ReleaseCause}
      (empty : (s.fixture f).claims.queue = [] → (u.fixture f).claims.queue = [])
      (first : ∀ e, holdEnded u f c h cause = some e → t = e) : ends u t cause := by
    obtain ⟨_, second⟩ := gateEnds hk first
    exact ⟨first, fun hlist hq => second hlist (empty hq)⟩
  refine ⟨fun dt p hclaim hr => ?_, fun hphase hage => ?_, fun hphase hlimit hover => ?_, ?_⟩
  · intro u v
    have fixture : (v.setClaims f ((v.fixture f).claims.refresh h.robot u.nowMs)).fixture f =
        { u.fixture f with claims := (u.fixture f).claims.refresh h.robot u.nowMs } := by simp [v]
    have holds : (s.fixture f).claims.holds h.robot = true := by rw [Claims.holds_iff, hh]; rfl
    refine ⟨settle (v.setClaims f ((v.fixture f).claims.refresh h.robot u.nowMs)) [.release f .released], ?_,
      ended (fun hq => ?_) fun e => settle_release_holder (k := { h with age := 0, lastSeen := u.nowMs }) ?_ ?_ rfl rfl e⟩
    · rw [exec_sighting_at dt 2 hready hr hclaim hc (by simp [hheld])]
      have taken : takeRelease (u.seenAt p h.robot 2 f) f c h.robot =
          settle (u.seenAt p h.robot 2 f) [.release f .released] := by
        simp only [takeRelease, State.seenAt_holds, u, State.advance_holds, holds, if_true, hk]
      have seen : u.seenAt p h.robot 2 f = v.setClaims f ((v.fixture f).claims.refresh h.robot u.nowMs) := by
        simp only [v, u, ← s.advance_sideOf dt h.robot]; rfl
      rw [← seen]
      exact congrArg _ taken
    · rw [fixture]; simp [Claims.refresh, u, State.advance_claimsQueue_nil hq dt]
    · rw [fixture]; exact hcd dt
    · rw [fixture]; simp [Claims.refresh, u, aged dt]
  · have wait : lostWait f s = some (lost * 1000 - h.age) := by
      simp only [lostWait, hc, hh, hp]
      exact if_pos ⟨hk, hheld, hphase⟩
    exact ⟨_, onExpiry_some (act := fun s => settle s [.release f .lost]) wait,
      ended (fun hq => State.advance_claimsQueue_nil hq _) (settle_release_holder (hcd _) (aged _) rfl rfl)⟩
  · exact ⟨_, exec_overstay hc hp hheld hh hphase hlimit hover,
      ended id (settle_release_holder hc hh rfl rfl)⟩
  · intro dt frame payload p report entry hhears hcont hjudge hpeer hread hsingle hphase hentry hekind hestate hewho
      hlower hothers
    let d := max dt (s.line.leastTime (s.line.missing frame))
    let row : PeerRow := ⟨true, 0, report.phase, report.resume, report.tick, report.entries⟩
    let u := (heardFrom s dt frame p).setPeer p row
    have reported : OnlyReports (s.advance d) u := by
      refine OnlyReports.trans ?_ (onlyReports_setPeer _ p row)
      unfold heardFrom
      rw [if_pos hpeer]
      rfl
    have fixture (g : FixtureNo) : u.fixture g = (s.advance d).fixture g := by rw [reported]; rfl
    have loader : u.loader = (s.advance d).loader := by rw [reported]
    have clock : u.clock = (s.advance d).clock := by rw [reported]
    have others (g : FixtureNo) (hg : g ≠ f) : u.yields p report.entries g = false := by
      rw [State.yields_congr (fixture g) loader, State.advance_yields]; exact hothers g hg
    have own : u.yields p report.entries f = true := by
      rw [State.yields_congr (fixture f) loader, State.advance_yields]
      simp only [State.yields, hh, Fixture.kind?_eq hc, hk, hheld, beq_self_eq_true, Bool.true_and, List.any_eq_true]
      refine ⟨entry, hentry, ?_⟩
      simp only [SummaryEntry.holdsGate, hekind, hestate, hewho, pairLower, beq_self_eq_true, Bool.true_and,
        Bool.or_eq_true, Bool.and_eq_true, decide_eq_true_eq, beq_iff_eq]
      exact hlower
    refine ⟨_, exec_statusReceived hhears hcont hjudge hpeer hread hready, ended (fun hq => ?_) fun e hend => ?_⟩
    · rw [fixture]; exact State.advance_claimsQueue_nil hq d
    · have rest := holdEnded_elsewhereAs hend
      have held := dualHold_one (e := e) (by rw [reported]; simpa using hsingle) own others
        (fun g hg => (State.yields_congr (rest.fixtures g hg) rest.loader p _).trans (others g hg))
        (settle_release_holder (by rw [fixture]; exact hcd d)
          ((congrArg (fun x : Fixture => x.claims.holder) (fixture f)).trans (aged d)) rfl rfl e hend)
      rw [held]
      exact lateJoin_busy (by rw [rest.clock, clock]; simpa using hphase) row

end Sys2Proof.Machine
end

section
/-! Proofs for 02_holds_and_wait_queues.md, part 9: O27 settled: a DISPENSER's grant with its list queued, begun, dropped at
a full queue or in error at its first step (R26, R27, R40, R42, R141, R142, R148, R149). -/

namespace Sys2Proof.Machine

/-! ## Allowances (R26, R42) -/

theorem PerSide.get_set {a : PerSide} {side : Side} (h : side ≠ 0) (n : Nat) : (a.set side n).get side = n := by
  fin_cases side
  · exact absurd rfl h
  all_goals rfl

theorem PerSide.set_set (a : PerSide) (side : Side) (m n : Nat) : (a.set side m).set side n = a.set side n := by
  fin_cases side <;> rfl

theorem PerSide.set_get (a : PerSide) (side : Side) : a.set side (a.get side) = a := by
  fin_cases side <;> rfl

/-- R42: an ABORTED dispense gives back what its grant took. -/
theorem refunded_taken {params : KindParams} {lost acap initial period : Nat}
    (hp : params = .dispenser lost acap initial period) {a : PerSide} {side : Side} (hside : side ≠ 0)
    (hpos : a.get side ≠ 0) (hle : a.get side ≤ acap) :
    refunded params (a.set side (a.get side - 1)) side .aborted = a := by
  have back : min acap (a.get side - 1 + 1) = a.get side := by omega
  rw [hp]
  show addAllowance _ side acap = a
  rw [addAllowance, PerSide.get_set hside, PerSide.set_set, back, PerSide.set_get]

theorem AllowancesSound.get_le {s : State} (h : AllowancesSound s) {f : FixtureNo} {c : FixtureConfig}
    {lost acap initial period : Nat} (hc : (s.fixture f).config = some c) (hp : c.params = .dispenser lost acap initial period)
    (side : Side) : (s.fixture f).claims.allowance.get side ≤ acap := by
  obtain ⟨-, one, two, three, four⟩ := h f c lost acap initial period hc hp
  fin_cases side
  · exact Nat.zero_le _
  · exact one
  · exact two
  · exact three
  · exact four

theorem FixtureConfig.params_of_dispenser {c : FixtureConfig} (hk : c.kind = .dispenser) :
    ∃ lost acap initial period, c.params = .dispenser lost acap initial period := by
  unfold FixtureConfig.kind KindParams.kind at hk
  cases hp : c.params <;> simp only [hp, reduceCtorEq] at hk
  exact ⟨_, _, _, _, rfl⟩

/-- Check 8 of Table 2-1: a claim that passes finds a side with something left. -/
theorem firstFailure_none_allowance {s : State} {f : FixtureNo} {c : FixtureConfig} {r : Robot}
    (h : firstFailure s f c r = none) (hk : c.kind = .dispenser) :
    (s.fixture f).claims.allowance.get (s.sideOf r) ≠ 0 ∧ s.sideOf r ≠ 0 := by
  have left : (s.fixture f).claims.allowance.get (s.sideOf r) ≠ 0 := by
    simpa [failsCheck, hk] using failsCheck_of_firstFailure_none h .allowance
  exact ⟨left, fun h0 => left (by rw [h0]; rfl)⟩

/-! ## What a grant and what it sets off leave -/

/-- The station but for fixture `f`, the runners, the pulse units, the beacon ports and what is reported. -/
structure GrantFrame (f : FixtureNo) (s t : State) : Prop where
  fixtures : ∀ g, g ≠ f → t.fixture g = s.fixture g
  clock : t.clock = s.clock
  holdOff : t.engine.holdOff = s.engine.holdOff
  points : t.engine.points = s.engine.points
  loader : t.loader = s.loader
  settings : t.settings = s.settings
  now : t.now = s.now
  inputs : t.inputs = s.inputs
  pending : t.pending = s.pending

theorem GrantFrame.trans {f : FixtureNo} {s t u : State} (h : GrantFrame f s t) (k : GrantFrame f t u) :
    GrantFrame f s u :=
  ⟨fun g hg => (k.fixtures g hg).trans (h.fixtures g hg), k.clock.trans h.clock, k.holdOff.trans h.holdOff,
    k.points.trans h.points, k.loader.trans h.loader, k.settings.trans h.settings, k.now.trans h.now,
    k.inputs.trans h.inputs, k.pending.trans h.pending⟩

theorem RestAs.grantFrame {f : FixtureNo} {s t : State} (h : RestAs s t f) (holdOff : t.engine.holdOff = s.engine.holdOff) :
    GrantFrame f s t := by
  obtain ⟨fixtures, points, -, loader, settings, now, clock, inputs, -, pending⟩ := h
  exact ⟨fixtures, clock, holdOff, points, loader, settings, now, inputs, pending⟩

theorem PlaysOnly.grantFrame {s t : State} (h : PlaysOnly s t) (f : FixtureNo) : GrantFrame f s t :=
  ⟨fun g _ => h.fixture g, h.clock, by rw [h], by rw [h], by rw [h], by rw [h], by rw [h], by rw [h], by rw [h]⟩

/-! ## RUNNER_FAULT (R149) -/

theorem State.setRunnerFault_runners (s : State) : s.setRunnerFault.runners = { s.runners with fault := true } := by
  unfold State.setRunnerFault
  dsimp only
  split
  · rfl
  · rw [State.raiseChange_runners]

theorem playsOnly_setRunnerFault (s : State) : PlaysOnly s s.setRunnerFault := by
  unfold State.setRunnerFault
  dsimp only
  split
  · rfl
  · exact PlaysOnly.trans (t := { s with runners := _ }) rfl (onlyReports_raiseChange _).playsOnly

theorem reportsAs_setRunnerFault (s : State) : ReportsAs (if s.runners.fault then s else s.raiseChange) s.setRunnerFault := by
  have set : ReportsAs s { s with runners := { s.runners with fault := true } } := ⟨rfl, rfl, rfl, rfl, rfl⟩
  unfold State.setRunnerFault
  dsimp only
  split
  · exact set
  · exact set.raiseChange

/-! ## The grant at a FREE DISPENSER -/

/-- The DISPENSER with its new holder, GRANT sent, before its grant list is handed over. -/
def State.dispensing (u : State) (p : PortNo) (r : Robot) (f : FixtureNo) (c : FixtureConfig) : State :=
  (u.sighted p r 1).granted f c ⟨r, u.sideOf r, u.clock.tick, u.nowMs, 0, 0⟩

section
variable (u : State) (p : PortNo) (r : Robot) (f : FixtureNo) (c : FixtureConfig)

theorem State.dispensing_restAs : RestAs u (u.dispensing p r f c) f :=
  (restAs_setPort u p _ f).trans (State.granted_restAs _ f c _)

theorem State.dispensing_frame : GrantFrame f u (u.dispensing p r f c) :=
  (u.dispensing_restAs p r f c).grantFrame (by unfold State.dispensing; rw [State.granted_holdOff]; rfl)

theorem State.dispensing_safe : (u.dispensing p r f c).pulse.safe = u.pulse.safe := by
  simp [State.dispensing, State.granted, State.sighted]

variable {c}

theorem State.dispensing_fixture (hk : c.kind = .dispenser) :
    ((u.dispensing p r f c).fixture f).config = (u.fixture f).config ∧
      ((u.dispensing p r f c).fixture f).state = .held ∧
      ((u.dispensing p r f c).fixture f).claims = { (u.fixture f).claims with
        holder := some ⟨r, u.sideOf r, u.clock.tick, u.nowMs, 0, 0⟩
        allowance := (u.fixture f).claims.allowance.set (u.sideOf r)
          ((u.fixture f).claims.allowance.get (u.sideOf r) - 1) } := by
  obtain ⟨config, state, claims, -⟩ := (u.sighted p r 1).granted_fixture f c ⟨r, u.sideOf r, u.clock.tick, u.nowMs, 0, 0⟩
  refine ⟨config, state, claims.trans ?_⟩
  unfold Fixture.grantedAllowance
  rw [if_pos hk]
  rfl

theorem State.dispensing_reportsAs (hk : c.kind = .dispenser) (hside : u.sideOf r ≠ 0) :
    ReportsAs (u.createEvent .grant (some f) r (u.sideOf r)
      ((u.fixture f).claims.allowance.get (u.sideOf r) - 1)).raiseChange (u.dispensing p r f c) := by
  have sent := (u.sighted p r 1).granted_reportsAs f c ⟨r, u.sideOf r, u.clock.tick, u.nowMs, 0, 0⟩
  have value : ((((u.sighted p r 1).fixture f).grantedAllowance c (u.sideOf r)).get (u.sideOf r)) =
      (u.fixture f).claims.allowance.get (u.sideOf r) - 1 := by
    unfold Fixture.grantedAllowance
    rw [if_pos hk, PerSide.get_set hside]
    rfl
  rw [if_pos hk, value] at sent
  exact (((reportsAs_setPort u p _).createEvent _ _ _ _ _).raiseChange).trans sent

end

/-- R26, R27: the REQUEST makes the robot holder and hands the grant list over. -/
theorem exec_request_dispensing {s : State} {dt : Nat} {p : PortNo} {r : Robot} {f : FixtureNo} {c : FixtureConfig}
    {i : StepNo} (hready : s.ready = true) (hr : r ≠ 0) (hclaim : s.claimable p = some f)
    (hc : (s.fixture f).config = some c) (hlist : c.firstList = some i) (hoff : ¬IsHeldOff (s.advance dt) f r)
    (habsent : ¬IsPresentAt s f r) (hpass : firstFailure (s.advance dt) f c r = none)
    (hfree : (s.fixture f).state = .free) : exec (.sighting dt p r 1) s =
      .next (settle ((s.advance dt).dispensing p r f c) [.start c.runner ⟨i, f, .grant⟩]) := by
  have hcu : (((s.advance dt).sighted p r 1).fixture f).config = some c := (s.advance_fixture_config dt f).trans hc
  rw [exec_request_granted hready hr hclaim hc hoff habsent hpass hfree,
    settle_step (t := .grant f r _ _ 0) (performGrant_eq hcu r _ _ 0), hlist, ← s.advance_sideOf dt r]
  rfl

/-- The dispense counts in flight once its start has been taken, its runner doing as `x` says. -/
def State.dispensed (g : State) (f : FixtureNo) (q : RunnerId) (x : Runner) : State :=
  (g.setRunner q x).setClaims f { (g.fixture f).claims with inFlight := (g.fixture f).claims.inFlight + 1 }

theorem dispenseGranted_dispensed {u : State} {p : PortNo} {r : Robot} {f : FixtureNo} {c : FixtureConfig}
    (hk : c.kind = .dispenser) (hside : u.sideOf r ≠ 0) (x : Runner) :
    DispenseGranted u ((u.dispensing p r f c).dispensed f c.runner x) r f c ∧
      ((u.dispensing p r f c).dispensed f c.runner x).runner c.runner = x := by
  let g := u.dispensing p r f c
  let t := g.dispensed f c.runner x
  obtain ⟨-, state, claims⟩ := u.dispensing_fixture p r f hk
  have reports := u.dispensing_reportsAs p r f hk hside
  obtain ⟨-, -, -, -, -, -, -, -, runners, -⟩ := u.dispensing_restAs p r f c
  have frame : GrantFrame f u t := (u.dispensing_frame p r f c).trans
    (((playsOnly_setRunner g c.runner x).grantFrame f).trans ((restAs_setFixture _ f _).grantFrame rfl))
  have own : t.fixture f = { g.fixture f with
      claims := { (g.fixture f).claims with inFlight := (g.fixture f).claims.inFlight + 1 } } := by
    simp [t, State.dispensed]
  have line : t.line = g.line := by simp [t, State.dispensed]
  have picture : t.picture = g.picture := by simp [t, State.dispensed]
  have same : g.runner = u.runner := by
    funext q; show g.runner q = u.runner q; unfold State.runner; rw [runners]
  refine ⟨⟨?_, ?_, ?_, ?_, frame.fixtures, frame.clock, ?_, ?_, ?_, ?_, frame.holdOff, frame.points, frame.loader,
    frame.settings, frame.now, frame.inputs, frame.pending⟩, ?_⟩
  · exact (congrArg Fixture.state own).trans state
  · exact (congrArg (fun y : Fixture => y.claims.holder) own).trans (by rw [claims])
  · exact (congrArg (fun y : Fixture => y.claims.allowance) own).trans (by rw [claims])
  · exact (congrArg (fun y : Fixture => y.claims.inFlight) own).trans (by rw [claims])
  · intro q hq
    show (g.setRunner c.runner x).runner q = u.runner q
    rw [State.setRunner_runner, if_neg (Ne.symm hq), same]
  · rw [line, reports.line, State.raiseChange_line]
  · rw [picture, reports.picture]
  · exact (show t.pulse.safe = g.pulse.safe by simp [t, State.dispensed]).trans (u.dispensing_safe p r f c)
  · show (g.setRunner c.runner x).runner c.runner = x
    exact State.setRunner_runner_same g c.runner x

end Sys2Proof.Machine
end

section
/-! Proofs for 02_holds_and_wait_queues.md, part 10: O27 settled, from the grant of part 9 and the four ways its list can go. -/

namespace Sys2Proof.Machine

/-! ## The runner of the list -/

theorem Runner.advance_idle (x : Runner) (d : Nat) : (x.advance d).mode = .idle ↔ x.mode = .idle := by
  unfold Runner.advance
  split <;> simp_all

theorem State.setRunner_runner_self (s : State) (r : RunnerId) : s.setRunner r (s.runner r) = s := by
  cases r <;> rfl

/-- R148, R149: a list that meets a step in error on its arrival there is ABORTED. -/
theorem settle_arrive_error {v : State} {r : RunnerId} {x : Current} {q : List Start}
    (hrunner : v.runner r = ⟨.draining, some x, q⟩) (hpurpose : x.start.purpose = .grant)
    (herror : v.pulse.stepError v.runners.store[x.index] = true) (hdriven : v.pulse.drivenBy r = []) :
    settle v [.arrive r] =
      settle (v.createEvent (.fault .actionError) (some x.start.fixture) 0 0 x.index.val).setRunnerFault
        [.report x.start.fixture .aborted, .nextList r] := by
  have hcur : (v.runner r).current = some x := by rw [hrunner]
  have arrived : performArrive v r = (v, [.abortTail r x.index]) := by
    rw [performArrive_error hcur herror hdriven, hrunner, ← hrunner, State.setRunner_runner_self]
  have tasks : x.start.reportTask .aborted = [.report x.start.fixture .aborted] := by
    simp [Start.reportTask, hpurpose]
  refine (settle_step (t := .arrive r) arrived []).trans ?_
  refine (settle_step (t := .abortTail r x.index) (performAbortTail_eq hcur x.index) []).trans ?_
  rw [tasks]
  rfl

/-! ## The hold given up again (R34, R42) -/

/-- R42: an ABORTED dispense leaves the DISPENSER as it was before the grant. -/
theorem settle_release_refunded {u v : State} {f : FixtureNo} {c : FixtureConfig} {h : Holder}
    (hc : (v.fixture f).config = some c) (hk : c.kind = .dispenser) (hsecond : c.secondList = none)
    (hside : h.side ≠ 0) (hpos : (u.fixture f).claims.allowance.get h.side ≠ 0)
    (hle : ∀ lost acap initial period, c.params = .dispenser lost acap initial period →
      (u.fixture f).claims.allowance.get h.side ≤ acap)
    (hholder : (u.fixture f).claims.holder = none) (hqueue : (u.fixture f).claims.queue = [])
    (hclaims : (v.fixture f).claims = { (u.fixture f).claims with
      holder := some h
      allowance := (u.fixture f).claims.allowance.set h.side ((u.fixture f).claims.allowance.get h.side - 1) }) :
    ∃ t : State, (∀ ts, settle v (.release f .aborted :: ts) = settle t ts) ∧ (t.fixture f).state = .free ∧
      (t.fixture f).claims = (u.fixture f).claims ∧ t.engine.holdOff = v.engine.holdOff ∧ RestAs v t f ∧
      ReportsAs (v.createEvent (.release .aborted) (some f) h.robot h.side
        ((u.fixture f).claims.allowance.get h.side)).raiseChange t := by
  obtain ⟨lost, acap, initial, period, hp⟩ := FixtureConfig.params_of_dispenser hk
  let w := v.released f c h .aborted
  have back : refunded c.params (v.fixture f).claims.allowance h.side .aborted = (u.fixture f).claims.allowance := by
    rw [hclaims]
    exact refunded_taken hp hside hpos (hle _ _ _ _ hp)
  have value : releaseValue v f c h.side .aborted = (u.fixture f).claims.allowance.get h.side := by
    unfold releaseValue
    rw [if_pos hk, back]
  obtain ⟨t, ht, hstate, tclaims, -, treports, trest, tholdOff⟩ := promoted_free w f c
  have ended : holdEnded v f c h .aborted = some t := by
    rw [holdEnded_noList hsecond, show (v.fixture f).claims.queue = [] by rw [hclaims]; exact hqueue]
    exact ht
  have reports := v.released_reportsAs f c h .aborted
  have holds := v.released_holdsOffAs f c h .aborted
  rw [value] at reports
  refine ⟨t, settle_release hc (by rw [hclaims]) ended, hstate, ?_, tholdOff.trans holds.holdOff,
    (v.released_restAs f c h .aborted).trans trest, reports.trans treports⟩
  rw [tclaims, State.released_fixture]
  dsimp only
  rw [back, hclaims]
  dsimp only
  rw [← hqueue, ← hholder]

/-! ## A first step in error (R148) -/

/-- R148: a step names a unit bound ACTUATOR, of a pair's half that a step may name. -/
theorem Pulse.stepError_of_unit {p : Pulse} {t : Step} {unit : UnitNo} (hu : t.unit = some unit)
    (h : (p.units[unit]).binding ≠ .actuator ∨ ((p.pairs[pairOf unit]).mode = .cascade ∧ unit.val % 2 = 1) ∨
      ((p.pairs[pairOf unit]).mode = .prescale ∧ unit.val % 2 = 0)) : p.stepError t = true := by
  rcases h with binding | ⟨mode, odd⟩ | ⟨mode, even⟩
  · simp only [Pulse.stepError, hu, bne_iff_ne.mpr binding, Bool.true_or]
  · simp [Pulse.stepError, hu, show p.addressable unit = false by simp only [Pulse.addressable, mode, isOdd, odd]; rfl]
  · simp [Pulse.stepError, hu, show p.addressable unit = false by simp only [Pulse.addressable, mode, isOdd, even]; rfl]

/-- R165: an indicator handed over sets no unit otherwise. -/
theorem State.refreshIndicator_setAs (s : State) (f : FixtureNo) : s.pulse.SetAs (s.refreshIndicator f).pulse := by
  unfold State.refreshIndicator State.handOver
  dsimp only
  split
  · exact .refl _
  · split
    · exact .refl _
    · exact Pulse.SetAs.setUnit ⟨PulseUnit.handOver_binding _ _ _, PulseUnit.handOver_map _ _ _⟩

theorem State.dispensing_stepError (u : State) (p : PortNo) (r : Robot) (f : FixtureNo) (c : FixtureConfig) (t : Step) :
    (u.dispensing p r f c).pulse.stepError t = u.pulse.stepError t := by
  refine (State.refreshIndicator_setAs _ f).stepError t |>.trans ?_
  rw [State.raiseChange_pulse, State.createEvent_pulse]
  rfl

theorem State.dispensing_drivenBy (u : State) (p : PortNo) (r : Robot) (f : FixtureNo) (c : FixtureConfig)
    (q : RunnerId) : (u.dispensing p r f c).pulse.drivenBy q = u.pulse.drivenBy q := by
  simp [Pulse.drivenBy, State.dispensing, State.granted, State.sighted]

/-- R29: time changes no claims of a fixture with no robot at it. -/
theorem State.advance_claims_absent {s : State} {f : FixtureNo} (hholder : (s.fixture f).claims.holder = none)
    (hqueue : (s.fixture f).claims.queue = []) (d : Nat) :
    ((s.advance d).fixture f).claims = (s.fixture f).claims := by
  cases hrun : s.running with
  | true =>
    rw [s.advance_fixture d f hrun]
    simp only [Fixture.advance, Claims.advance, hholder, hqueue, Option.map_none, List.map_nil]
    rw [← hholder, ← hqueue]
  | false => rw [s.advance_stopped d hrun]

/-! ## A list whose first step is in error (R148, R149) -/

/-- A DISPENSER's list, counted in flight, met an error at its first step: FAULT ACTION_ERROR and RUNNER_FAULT. -/
def State.listErred (g : State) (r : RunnerId) (f : FixtureNo) (i : StepNo) : State :=
  ((g.dispensed f r ⟨.draining, some ⟨⟨i, f, .grant⟩, i⟩, []⟩).createEvent (.fault .actionError) (some f) 0 0
    i.val).setRunnerFault

section
variable (g : State) (r : RunnerId) (f : FixtureNo) (i : StepNo)

theorem State.dispensed_fixture (x : Runner) : (g.dispensed f r x).fixture f = { g.fixture f with
    claims := { (g.fixture f).claims with inFlight := (g.fixture f).claims.inFlight + 1 } } := by
  simp [State.dispensed]

theorem State.reportsAs_dispensed (x : Runner) : ReportsAs g (g.dispensed f r x) :=
  (reportsAs_setRunner g r x).trans (reportsAs_setFixture _ f _)

theorem State.dispensed_pulse (x : Runner) : (g.dispensed f r x).pulse = g.pulse := State.setRunner_pulse g r x

theorem State.dispensed_runner (x : Runner) : (g.dispensed f r x).runner r = x := State.setRunner_runner_same g r x

theorem State.listErred_fixture : (g.listErred r f i).fixture f = { g.fixture f with
    claims := { (g.fixture f).claims with inFlight := (g.fixture f).claims.inFlight + 1 } } := by
  unfold State.listErred
  rw [(playsOnly_setRunnerFault _).fixture, State.createEvent_fixture, State.dispensed_fixture]

theorem State.listErred_runners : (g.listErred r f i).runners =
    { (g.setRunner r ⟨.draining, some ⟨⟨i, f, .grant⟩, i⟩, []⟩).runners with fault := true } := by
  unfold State.listErred
  rw [State.setRunnerFault_runners, State.createEvent_runners]
  rfl

theorem State.listErred_frame : GrantFrame f g (g.listErred r f i) := by
  unfold State.listErred State.dispensed
  exact (((playsOnly_setRunner g r _).grantFrame f).trans ((restAs_setFixture _ f _).grantFrame rfl)).trans
    (((onlyReports_createEvent _ _ _ _ _ _).playsOnly.grantFrame f).trans ((playsOnly_setRunnerFault _).grantFrame f))

theorem State.listErred_reportsAs : ReportsAs
    (if g.runners.fault then g.createEvent (.fault .actionError) (some f) 0 0 i.val
      else (g.createEvent (.fault .actionError) (some f) 0 0 i.val).raiseChange) (g.listErred r f i) := by
  have sent := (g.reportsAs_dispensed r f ⟨.draining, some ⟨⟨i, f, .grant⟩, i⟩, []⟩).createEvent
    (.fault .actionError) (some f) 0 0 i.val
  have fault : (g.dispensed f r ⟨.draining, some ⟨⟨i, f, .grant⟩, i⟩, []⟩).runners.fault = g.runners.fault :=
    State.setRunner_fault g r _
  have told := reportsAs_setRunnerFault ((g.dispensed f r ⟨.draining, some ⟨⟨i, f, .grant⟩, i⟩, []⟩).createEvent
    (.fault .actionError) (some f) 0 0 i.val)
  rw [State.createEvent_runners, fault] at told
  refine ReportsAs.trans ?_ told
  split
  · exact sent
  · exact sent.raiseChange

variable {g r f i}

/-- R40, R42, R148, R149: it is aborted with the report that ends the one dispense in flight. -/
theorem settle_start_error (hk : (g.fixture f).kind? = some .dispenser) (hphase : g.clock.phase ≠ .halted)
    (hheld : (g.fixture f).state = .held) (hidle : (g.runner r).mode = .idle) (hstarts : (g.runner r).queue = [])
    (hdriven : g.pulse.drivenBy r = []) (hinFlight : (g.fixture f).claims.inFlight = 0)
    (herror : g.pulse.stepError g.runners.store[i] = true) :
    settle g [.start r ⟨i, f, .grant⟩] = settle ((g.listErred r f i).setClaims f
      { ((g.listErred r f i).fixture f).claims with inFlight := 0 }) [.release f .aborted, .nextList r] := by
  have fixture := g.listErred_fixture r f i
  have taken := performStart_idle (r := r) ⟨i, f, .grant⟩ hphase hidle
  rw [hstarts] at taken
  have store : (g.dispensed f r ⟨.draining, some ⟨⟨i, f, .grant⟩, i⟩, []⟩).runners.store = g.runners.store :=
    State.setRunner_store g r _
  have aborted := settle_arrive_error (g.dispensed_runner r f ⟨.draining, some ⟨⟨i, f, .grant⟩, i⟩, []⟩) rfl
    (by rw [State.dispensed_pulse, store]; exact herror) (by rw [State.dispensed_pulse]; exact hdriven)
  have counted := settle_report_accepted (s := g.setRunner r ⟨.draining, some ⟨⟨i, f, .grant⟩, i⟩, []⟩) (f := f)
    (by rw [State.setRunner_fixture]; exact hk) [.arrive r]
  rw [State.setRunner_fixture] at counted
  have ended := settle_report_last (s := g.listErred r f i) (f := f) (by rw [fixture]; exact hk)
    (by rw [fixture]; exact hheld) (by rw [fixture, hinFlight]) (.inr ⟨rfl, rfl⟩) [.nextList r]
  exact (settle_step (t := .start r ⟨i, f, .grant⟩) taken []).trans (counted.trans (aborted.trans ended))

end

/-! ## The list of the grant -/

section
variable {u : State} {p : PortNo} {r : Robot} {f : FixtureNo} {c : FixtureConfig} {i : StepNo} (hk : c.kind = .dispenser)
  (hc : (u.fixture f).config = some c) (hside : u.sideOf r ≠ 0) (hphase : u.clock.phase ≠ .halted)
include hk hc hside hphase

/-- R141: the list queues, or begins, as its start is taken. -/
theorem dispenses_of_startTaken
    (hroom : (u.runner c.runner).mode = .idle ∨ (u.runner c.runner).queue.length < 4) {x : Runner}
    (htaken : startTaken (u.dispensing p r f c) c.runner ⟨i, f, .grant⟩ =
      some ((u.dispensing p r f c).setRunner c.runner x)) :
    DispenseGranted u (settle (u.dispensing p r f c) [.start c.runner ⟨i, f, .grant⟩]) r f c ∧
      (settle (u.dispensing p r f c) [.start c.runner ⟨i, f, .grant⟩]).runner c.runner = x := by
  obtain ⟨config, -⟩ := u.dispensing_fixture p r f hk
  obtain ⟨-, -, -, -, -, -, clock, -, runners, -⟩ := u.dispensing_restAs p r f c
  have kind := (Fixture.kind?_eq (config.trans hc)).trans (congrArg some hk)
  have settled := settle_start_dispense (t := ⟨i, f, .grant⟩) rfl kind (by rw [clock]; exact hphase)
    (by unfold State.runner at hroom ⊢; rwa [runners]) htaken []
  rw [settled, settle_nil, State.setRunner_fixture]
  exact dispenseGranted_dispensed hk hside x

variable (hsecond : c.secondList = none) (hpos : (u.fixture f).claims.allowance.get (u.sideOf r) ≠ 0)
  (hle : ∀ lost acap initial period, c.params = .dispenser lost acap initial period →
    (u.fixture f).claims.allowance.get (u.sideOf r) ≤ acap)
  (hholder : (u.fixture f).claims.holder = none) (hqueue : (u.fixture f).claims.queue = [])
include hsecond hpos hle hholder hqueue

/-- R42, R141: a start dropped for a full start queue gives the hold up again. -/
theorem dispense_overflows (hbusy : (u.runner c.runner).mode ≠ .idle)
    (hfull : ¬(u.runner c.runner).queue.length < 4) :
    ∃ t : State, settle (u.dispensing p r f c) [.start c.runner ⟨i, f, .grant⟩] = t ∧ (t.fixture f).state = .free ∧
      (t.fixture f).claims = (u.fixture f).claims ∧ t.engine.holdOff = u.engine.holdOff ∧ RestAs u t f ∧
      ReportsAs ((((u.createEvent .grant (some f) r (u.sideOf r)
        ((u.fixture f).claims.allowance.get (u.sideOf r) - 1)).raiseChange.createEvent (.fault .actionOverflow) (some f)
          0 0 0).createEvent (.release .aborted) (some f) r (u.sideOf r)
            ((u.fixture f).claims.allowance.get (u.sideOf r))).raiseChange) t := by
  let g := u.dispensing p r f c
  let v := g.createEvent (.fault .actionOverflow) (some f) 0 0 0
  obtain ⟨config, state, claims⟩ := u.dispensing_fixture p r f hk
  have rest := u.dispensing_restAs p r f c
  have ⟨_, _, _, _, _, _, clock, _, runners, _⟩ := rest
  have fixture : v.fixture f = g.fixture f := by simp [v]
  have kind : (v.fixture f).kind? = some .dispenser := by
    rw [fixture, Fixture.kind?_eq (config.trans hc), hk]
  obtain ⟨t, hrun, hstate, hclaims, hholdOff, hrest, hreports⟩ := settle_release_refunded (u := u) (v := v)
    (h := ⟨r, u.sideOf r, u.clock.tick, u.nowMs, 0, 0⟩) (by rw [fixture]; exact config.trans hc) hk hsecond hside hpos hle
    hholder hqueue (by rw [fixture]; exact claims)
  have started : performStart g c.runner ⟨i, f, .grant⟩ = (v, [.report f .dropped]) :=
    performStart_full ⟨i, f, .grant⟩ (by rw [clock]; exact hphase)
      (by unfold State.runner at hbusy ⊢; rwa [runners]) (by unfold State.runner at hfull ⊢; rwa [runners])
  have dropped : performReport v f .dropped = (v, [.release f .aborted]) := by
    unfold performReport
    dsimp only
    rw [if_neg (not_not.mpr kind), if_pos (by rw [fixture]; exact state)]
  refine ⟨t, ?_, hstate, hclaims, hholdOff.trans ?_, (rest.trans (restAs_createEvent g _ _ _ _ _ f)).trans hrest, ?_⟩
  · refine (settle_step (t := .start c.runner ⟨i, f, .grant⟩) started []).trans ?_
    refine (settle_step (t := .report f .dropped) dropped []).trans ?_
    exact (hrun []).trans (settle_nil t)
  · exact (show v.engine.holdOff = g.engine.holdOff by simp [v]).trans (u.dispensing_frame p r f c).holdOff
  · exact ((((u.dispensing_reportsAs p r f hk hside).createEvent _ _ _ _ _).createEvent _ _ _ _ _).raiseChange).trans
      hreports

/-- R42, R148, R149: a first step in error aborts the list, and the hold is given up again. -/
theorem dispense_aborts (hidle : (u.runner c.runner).mode = .idle) (hstarts : (u.runner c.runner).queue = [])
    (hdriven : u.pulse.drivenBy c.runner = []) (hinFlight : (u.fixture f).claims.inFlight = 0)
    (herror : u.pulse.stepError u.runners.store[i] = true) :
    ∃ t : State, settle (u.dispensing p r f c) [.start c.runner ⟨i, f, .grant⟩] = t ∧ (t.fixture f).state = .free ∧
      (t.fixture f).claims = (u.fixture f).claims ∧ t.runners.fault = true ∧ t.runner c.runner = Runner.start ∧
      (∀ q, q ≠ c.runner → t.runner q = u.runner q) ∧ GrantFrame f u t ∧
      (let e := (u.createEvent .grant (some f) r (u.sideOf r) ((u.fixture f).claims.allowance.get (u.sideOf r) -
        1)).raiseChange.createEvent (.fault .actionError) (some f) 0 0 i.val
       ReportsAs ((if u.runners.fault then e else e.raiseChange).createEvent (.release .aborted) (some f) r
        (u.sideOf r) ((u.fixture f).claims.allowance.get (u.sideOf r))).raiseChange t) := by
  let g := u.dispensing p r f c
  let w := g.listErred c.runner f i
  let y := w.setClaims f { (w.fixture f).claims with inFlight := 0 }
  obtain ⟨config, state, claims⟩ := u.dispensing_fixture p r f hk
  have ⟨_, _, _, _, _, _, clock, _, runners, _⟩ := u.dispensing_restAs p r f c
  have same : g.runner = u.runner := by funext q; unfold State.runner; rw [runners]
  have store : g.runners.store = u.runners.store := by rw [runners]
  have wfixture := g.listErred_fixture c.runner f i
  have wrunners := g.listErred_runners c.runner f i
  have started : settle g [.start c.runner ⟨i, f, .grant⟩] = settle y [.release f .aborted, .nextList c.runner] :=
    settle_start_error (by rw [Fixture.kind?_eq (config.trans hc), hk]) (by rw [clock]; exact hphase) state
      (by rw [same]; exact hidle) (by rw [same]; exact hstarts) (by rw [State.dispensing_drivenBy]; exact hdriven)
      (by rw [claims]; exact hinFlight) (by rw [State.dispensing_stepError, store]; exact herror)
  have yclaims : (y.fixture f).claims = { (g.fixture f).claims with inFlight := 0 } := by
    show ((w.setClaims f _).fixture f).claims = _
    rw [State.setClaims_fixture, if_pos rfl, wfixture]
  have yconfig : (y.fixture f).config = some c := by
    show ((w.setClaims f _).fixture f).config = _
    rw [State.setClaims_fixture, if_pos rfl, wfixture]
    exact config.trans hc
  obtain ⟨z, hrun, hstate, hclaims, hholdOff, hrest, hreports⟩ := settle_release_refunded (u := u) (v := y)
    (h := ⟨r, u.sideOf r, u.clock.tick, u.nowMs, 0, 0⟩) yconfig hk hsecond hside hpos hle hholder hqueue
    (by rw [yclaims, claims, ← hinFlight])
  have ⟨_, _, _, _, _, _, _, _, zrunners, _⟩ := hrest
  have zfault : z.runners.fault = true := by rw [zrunners, show y.runners = w.runners from rfl, wrunners]
  have zrunner (q : RunnerId) : z.runner q = (g.setRunner c.runner ⟨.draining, some ⟨⟨i, f, .grant⟩, i⟩, []⟩).runner q := by
    unfold State.runner
    rw [zrunners, show y.runners = w.runners from rfl, wrunners]
  have next : nextTaken z c.runner = some (z.setRunner c.runner Runner.start) := by
    unfold nextTaken
    rw [zrunner, State.setRunner_runner_same]
  have frame : GrantFrame f u z := ((u.dispensing_frame p r f c).trans (g.listErred_frame c.runner f i)).trans
    (((restAs_setFixture w f _).grantFrame rfl).trans (hrest.grantFrame hholdOff))
  refine ⟨z.setRunner c.runner Runner.start, ?_, ?_, ?_, ?_, State.setRunner_runner_same z _ _, ?_,
    frame.trans ((playsOnly_setRunner z _ _).grantFrame f), ?_⟩
  · rw [started, hrun, settle_nextList next, settle_nil]
  · rw [State.setRunner_fixture]; exact hstate
  · rw [State.setRunner_fixture]; exact hclaims
  · rw [State.setRunner_fault]; exact zfault
  · intro q hq
    rw [State.setRunner_runner, if_neg (Ne.symm hq), zrunner, State.setRunner_runner, if_neg (Ne.symm hq), same]
  · have granted := (u.dispensing_reportsAs p r f hk hside).createEvent (.fault .actionError) (some f) 0 0 i.val
    have told : ReportsAs _ y := (g.listErred_reportsAs c.runner f i).trans (reportsAs_setFixture w f _)
    rw [runners] at told
    refine ((ReportsAs.createEvent ?_ _ _ _ _ _).raiseChange.trans hreports).trans (reportsAs_setRunner z _ _)
    refine ReportsAs.trans ?_ told
    split
    · exact granted
    · exact granted.raiseChange

end

/-- Settles O27: the REQUEST comes to the grant with its list to be started, and the four ways the start can go are
`dispenses_of_startTaken`, `dispense_overflows` and `dispense_aborts`. -/
theorem dispenserGrantQueuesItsList : Obligations.DispenserGrantQueuesItsList := by
  unfold Obligations.DispenserGrantQueuesItsList
  intro s dt p r f c i hready hr hclaim hc hk hlist hoff habsent hpass hfree
  let u := s.advance dt
  have run := exec_request_dispensing hready hr hclaim hc hlist hoff habsent hpass hfree
  have hcu : (u.fixture f).config = some c := (s.advance_fixture_config dt f).trans hc
  obtain ⟨hpos, hside⟩ := firstFailure_none_allowance hpass hk
  have hphase : u.clock.phase ≠ .halted := fun halted => by
    have live := State.claimFault_none_phase (State.claimFault_none hpass)
    rw [halted] at live
    cases live
  have runner : u.runner c.runner = (s.runner c.runner).advance dt := s.advance_runner dt (State.ready_running hready) _
  have queue : (u.runner c.runner).queue = (s.runner c.runner).queue := by rw [runner, Runner.advance_queue]
  have idle : (u.runner c.runner).mode = .idle ↔ (s.runner c.runner).mode = .idle := by
    rw [runner, Runner.advance_idle]
  obtain ⟨-, -, -, -, -, -, clock, -, runners, -⟩ := u.dispensing_restAs p r f c
  have same : (u.dispensing p r f c).runner c.runner = u.runner c.runner := by unfold State.runner; rw [runners]
  refine ⟨fun hbusy hroom => ?_, fun hidle hdelay => ?_, fun hsound hsecond hqueue hholder => ?_⟩
  · have taken : startTaken (u.dispensing p r f c) c.runner ⟨i, f, .grant⟩ =
        some ((u.dispensing p r f c).setRunner c.runner { u.runner c.runner with
          queue := (s.runner c.runner).queue ++ [⟨i, f, .grant⟩] }) := by
      unfold startTaken
      dsimp only
      rw [clock, same, queue, if_neg hphase, if_neg (mt idle.mp hbusy), if_pos hroom]
    exact ⟨_, run, dispenses_of_startTaken hk hcu hside hphase (.inr (by rw [queue]; exact hroom)) taken⟩
  · have taken : startTaken (u.dispensing p r f c) c.runner ⟨i, f, .grant⟩ =
        some ((u.dispensing p r f c).setRunner c.runner ⟨.delay ((s.runners.store[i]).count *
          (((s.runners.store[i]).high + 1) + ((s.runners.store[i]).low + 1)) * (s.runners.store[i]).clock.time),
          some ⟨⟨i, f, .grant⟩, i⟩, (s.runner c.runner).queue⟩) := by
      unfold startTaken
      dsimp only
      rw [clock, same, queue, if_neg hphase, if_pos (idle.mpr hidle)]
      unfold listBegun
      dsimp only
      rw [runners, State.advance_store, hdelay]
    exact ⟨_, run, dispenses_of_startTaken hk hcu hside hphase (.inl (idle.mpr hidle)) taken⟩
  · have claims : (u.fixture f).claims = (s.fixture f).claims := State.advance_claims_absent hholder hqueue dt
    have hle (lost acap initial period : Nat) (hp : c.params = .dispenser lost acap initial period) :
        (u.fixture f).claims.allowance.get (u.sideOf r) ≤ acap := by
      rw [claims]; exact hsound.get_le hc hp _
    have value : (u.fixture f).claims.allowance.get (u.sideOf r) = (s.fixture f).claims.allowance.get (s.sideOf r) := by
      rw [claims, State.advance_sideOf]
    have sideOf : u.sideOf r = s.sideOf r := s.advance_sideOf dt r
    refine ⟨fun hbusy hfull => ?_, fun unit hidle hstarts hdriven hinFlight hunit hbound => ?_⟩
    · obtain ⟨t, ht, hstate, hclaims, hholdOff, hrest, hreports⟩ := dispense_overflows (p := p) (i := i) hk hcu hside
        hphase hsecond hpos hle (by rw [claims]; exact hholder) (by rw [claims]; exact hqueue) (mt idle.mp hbusy)
        (by rw [queue]; exact not_lt.mpr hfull)
      rw [value, sideOf] at hreports
      exact ⟨t, by rw [run, ht], hstate, hclaims, hholdOff, hrest, hreports.line.trans (State.raiseChange_line _),
        hreports.picture⟩
    · have hstep : u.pulse.stepError u.runners.store[i] = true := by
        rw [State.advance_stepError, State.advance_store]
        exact Pulse.stepError_of_unit hunit hbound
      obtain ⟨t, ht, hstate, hclaims, hfault, hrunner, hother, frame, hreports⟩ := dispense_aborts (p := p) hk hcu hside
        hphase hsecond hpos hle (by rw [claims]; exact hholder) (by rw [claims]; exact hqueue) (idle.mpr hidle)
        (queue.trans hstarts) ((s.advance_drivenBy dt _).trans hdriven) (by rw [claims]; exact hinFlight) hstep
      have fault : u.runners.fault = s.runners.fault := s.advance_runnerFault dt
      rw [value, sideOf, fault] at hreports
      exact ⟨t, by rw [run, ht], hstate, hclaims, frame.holdOff, hfault, hrunner, hother, frame.fixtures, frame.clock,
        frame.points, frame.loader, frame.settings, frame.now, frame.inputs, frame.pending,
        hreports.line.trans (State.raiseChange_line _), hreports.picture⟩

end Sys2Proof.Machine
end

section
/-! Proofs for 02_holds_and_wait_queues.md, part 11: steps that bring no new holder (R25, R28, R37, R140, R176). Between
occurrences and inside them, every operation but a grant keeps the queues within their room and the allowances within
ACAP, and leaves no robot a holder that was none before (`Tame`); a grant comes only of a claim that passed its checks. -/

namespace Sys2Proof.Machine

/-! ## One fixture -/

/-- R37: what `AllowancesSound` says of one fixture. -/
def Fixture.AllowanceSound (x : Fixture) : Prop :=
  ∀ (c : FixtureConfig) (lost acap initial period : Nat), x.config = some c → c.params = .dispenser lost acap initial period →
    initial ≤ acap ∧ x.claims.allowance.one ≤ acap ∧ x.claims.allowance.two ≤ acap ∧ x.claims.allowance.three ≤ acap ∧
      x.claims.allowance.four ≤ acap

theorem allowancesSound_iff (s : State) : AllowancesSound s ↔ ∀ f, (s.fixture f).AllowanceSound := Iff.rfl

/-- The fixture's configuration stands, its wait queue and its allowances keep within bounds, and it has no holder but
the robot it had. -/
structure Fixture.Tame (x y : Fixture) : Prop where
  config : y.config = x.config
  queue : x.claims.queue.length ≤ 4 → y.claims.queue.length ≤ 4
  allowance : x.AllowanceSound → y.AllowanceSound
  holder : ∀ r, y.holderRobot = some r → x.holderRobot = some r

/-- Two records that differ in nothing of this. -/
theorem Fixture.Tame.same {x y : Fixture} (config : y.config = x.config)
    (queue : y.claims.queue.length ≤ x.claims.queue.length) (allowance : y.claims.allowance = x.claims.allowance)
    (holder : ∀ r, y.holderRobot = some r → x.holderRobot = some r) : x.Tame y where
  config := config
  queue := queue.trans
  allowance h := by unfold Fixture.AllowanceSound; rw [config, allowance]; exact h
  holder := holder

theorem Fixture.Tame.of_claims {x y : Fixture} (config : y.config = x.config) (claims : y.claims = x.claims) : x.Tame y :=
  .same config (by rw [claims]) (by rw [claims]) fun r h => by rwa [Fixture.holderRobot, claims] at h

theorem Fixture.Tame.refl (x : Fixture) : x.Tame x := .of_claims rfl rfl

theorem Fixture.Tame.trans {x y z : Fixture} (h : x.Tame y) (k : y.Tame z) : x.Tame z :=
  ⟨k.config.trans h.config, fun q => k.queue (h.queue q), fun a => k.allowance (h.allowance a),
    fun r e => h.holder r (k.holder r e)⟩

/-! ## The station -/

/-- A step that brings no new holder and keeps every queue and every allowance within its bound. -/
structure Tame (s t : State) : Prop where
  settings : t.settings = s.settings
  line : s.line.queue.length ≤ 8 → t.line.queue.length ≤ 8
  starts : ∀ r, (s.runner r).queue.length ≤ 4 → (t.runner r).queue.length ≤ 4
  fixtures : ∀ f, (s.fixture f).Tame (t.fixture f)

theorem Tame.refl (s : State) : Tame s s := ⟨rfl, id, fun _ => id, fun _ => .refl _⟩

theorem Tame.trans {s t u : State} (h : Tame s t) (k : Tame t u) : Tame s u :=
  ⟨k.settings.trans h.settings, fun q => k.line (h.line q), fun r q => k.starts r (h.starts r q),
    fun f => (h.fixtures f).trans (k.fixtures f)⟩

/-- Changes of the settings, the line, the runners and the fixtures' records alone matter. -/
theorem Tame.of_fixtures {s t : State} (settings : t.settings = s.settings) (line : t.line.queue = s.line.queue)
    (runners : t.runners = s.runners) (fixtures : ∀ f, (s.fixture f).Tame (t.fixture f)) : Tame s t :=
  ⟨settings, fun h => by rwa [line], fun r h => by unfold State.runner at *; rwa [runners], fixtures⟩

/-- An update that reports, its queue in bounds. -/
theorem OnlyReports.tame {s t : State} (h : OnlyReports s t) (line : s.line.queue.length ≤ 8 → t.line.queue.length ≤ 8) :
    Tame s t :=
  ⟨by rw [h], line, fun r q => by rw [h]; exact q, fun f => by
    rw [show t.fixture f = s.fixture f by rw [h]; rfl]; exact .refl _⟩

theorem tame_setFixture (s : State) (f : FixtureNo) {x : Fixture} (h : (s.fixture f).Tame x) : Tame s (s.setFixture f x) :=
  .of_fixtures rfl rfl rfl fun g => by
    rw [State.setFixture_fixture]
    split
    · rename_i e; exact e ▸ h
    · exact .refl _

theorem tame_setRunner (s : State) (r : RunnerId) {x : Runner} (h : (s.runner r).queue.length ≤ 4 → x.queue.length ≤ 4) :
    Tame s (s.setRunner r x) :=
  ⟨by simp, by simp, fun q hq => by
    rw [State.setRunner_runner]
    split
    · rename_i e; exact h (e ▸ hq)
    · exact hq, fun f => by rw [State.setRunner_fixture]; exact .refl _⟩

theorem tame_makeHoldOff (s : State) (r : Robot) (f : FixtureNo) : Tame s (s.makeHoldOff r f) :=
  .of_fixtures (by simp) (by simp) (by simp) fun g => by rw [State.makeHoldOff_fixture]; exact .refl _

theorem tame_refreshIndicator (s : State) (f : FixtureNo) : Tame s (s.refreshIndicator f) :=
  .of_fixtures (by simp) (by simp) (by simp) fun _ => .of_claims (by simp) (by simp)

theorem tame_startTransient (s : State) (f : FixtureNo) (t : Transient) : Tame s (s.startTransient f t) :=
  (tame_setFixture s f (by exact .of_claims rfl rfl)).trans (tame_refreshIndicator _ f)

theorem tame_raiseChange (s : State) : Tame s s.raiseChange := (onlyReports_raiseChange s).tame (by simp)

/-- R176: an EVENT frame joins a queue with room. -/
theorem tame_createEvent (s : State) (k : EventKind) (f : Option FixtureNo) (r : Robot) (side : Side) (v : Nat) :
    Tame s (s.createEvent k f r side v) := by
  refine (onlyReports_createEvent s k f r side v).tame fun h => ?_
  unfold State.createEvent
  split
  · dsimp only
    split
    · rename_i room
      have room : s.line.queue.length < 8 := of_decide_eq_true (Bool.and_eq_true_iff.mp room).2
      simpa using room
    · simpa using h
  · exact h

/-- R176: a full queue that holds a displaceable frame loses it. -/
theorem length_dropNewestEvent {l : List QueuedFrame} (h : l.any QueuedFrame.displaceable = true) :
    (dropNewestEvent l).length = l.length - 1 := by
  obtain ⟨q, hq, displaceable⟩ := List.any_eq_true.mp h
  unfold dropNewestEvent
  rw [List.length_reverse, List.length_eraseP_of_mem (List.mem_reverse.mpr hq) displaceable, List.length_reverse]

/-- R176: a MATCH frame joins a queue with room, or displaces another. -/
theorem tame_queueCommand (s : State) (c : Command) : Tame s (s.queueCommand c) := by
  refine (onlyReports_queueCommand s c).tame fun h => ?_
  unfold State.queueCommand
  split
  · dsimp only
    split
    · rename_i room
      simpa [Config.transmitRoom] using room
    · split
      · rename_i displaceable
        have dropped := length_dropNewestEvent displaceable
        have some_ : 0 < s.line.queue.length := by
          obtain ⟨q, hq, -⟩ := List.any_eq_true.mp displaceable
          exact List.length_pos_of_mem hq
        rw [State.setEventsLost_line]
        simp only [List.length_append, List.length_singleton, dropped]
        omega
      · exact h
  · exact h

theorem tame_setRunnerFault (s : State) : Tame s s.setRunnerFault := by
  have set : Tame s { s with runners := { s.runners with fault := true } } :=
    ⟨rfl, id, fun r h => by cases r <;> exact h, fun _ => .refl _⟩
  unfold State.setRunnerFault
  dsimp only
  split
  · exact set
  · exact set.trans (tame_raiseChange _)

/-! ## Tasks (R27, R34–R36, R40–R42, R141–R149) -/

/-- An update of the fixture's claims that keeps its holder and its allowances. -/
theorem tame_setClaims (s : State) (f : FixtureNo) {c : Claims}
    (queue : c.queue.length ≤ (s.fixture f).claims.queue.length) (allowance : c.allowance = (s.fixture f).claims.allowance)
    (holder : c.holder.map Holder.robot = (s.fixture f).holderRobot) : Tame s (s.setClaims f c) :=
  tame_setFixture s f (.same rfl queue allowance fun r h => by
    rw [← holder]; exact h)

theorem tame_setPulse (s : State) (p : Pulse) : Tame s { s with pulse := p } :=
  .of_fixtures rfl rfl rfl fun _ => .refl _

theorem tame_performStart (s : State) (r : RunnerId) (t : Start) : Tame s (performStart s r t).1 := by
  unfold performStart
  dsimp only
  split
  · exact .refl s
  · split
    · exact tame_setRunner s r id
    all_goals
      split
      · rename_i room
        exact tame_setRunner s r fun _ => by simpa [Config.startRoom] using room
      · exact tame_createEvent s _ _ _ _ _

theorem tame_issue (s : State) (r : RunnerId) (u : UnitNo) (t : Step) : Tame s (issue s r u t).1 := by
  unfold issue
  dsimp only
  split <;> exact (tame_setPulse s _).trans (tame_setRunner _ r (by exact id))

theorem tame_abortAt (s : State) (r : RunnerId) (i : StepNo) : Tame s (abortAt s r i).1 :=
  (tame_setPulse s _).trans (tame_setRunner _ r (by exact id))

theorem tame_performArrive (s : State) (r : RunnerId) : Tame s (performArrive s r).1 := by
  unfold performArrive
  dsimp only
  split
  · exact .refl s
  · split
    · exact tame_abortAt s r _
    · split
      · exact tame_setRunner s r (by exact id)
      · split
        · exact tame_issue s r _ _
        · exact tame_setRunner s r (by exact id)

theorem tame_performMoveOn (s : State) (r : RunnerId) : Tame s (performMoveOn s r).1 := by
  unfold performMoveOn
  dsimp only
  split
  · exact .refl s
  · split
    · split <;> exact tame_setRunner s r (by exact id)
    · split
      · exact tame_setRunner s r (by exact id)
      · exact tame_abortAt s r _

theorem tame_performUnitFreed (s : State) (u : UnitNo) : Tame s (performUnitFreed s u).1 := by
  unfold performUnitFreed
  split
  · exact .refl s
  · split
    · exact .refl s
    · split
      · exact .refl s
      · exact tame_issue s _ u _

theorem tame_performAbortTail (s : State) (r : RunnerId) (i : StepNo) : Tame s (performAbortTail s r i).1 := by
  unfold performAbortTail
  split
  · exact .refl s
  · exact (tame_createEvent s _ _ _ _ _).trans (tame_setRunnerFault _)

theorem tame_performNextList (s : State) (r : RunnerId) : Tame s (performNextList s r).1 := by
  unfold performNextList
  dsimp only
  split
  · exact tame_setRunner s r (by exact id)
  · rename_i t rest hq
    exact tame_setRunner s r fun h => by rw [hq] at h; exact (Nat.le_succ _).trans h

theorem tame_performReport (s : State) (f : FixtureNo) (r : Report) : Tame s (performReport s f r).1 := by
  have ends (cause : ReleaseCause) : Tame s (endDispense s f cause).1 := by
    unfold endDispense
    dsimp only
    split <;> exact tame_setClaims s f le_rfl rfl rfl
  unfold performReport
  dsimp only
  split
  · exact .refl s
  · split
    · exact tame_setClaims s f le_rfl rfl rfl
    · exact .refl s
    all_goals exact ends _

theorem PerSide.set_le {a : PerSide} {n m : Nat} (h : a.one ≤ n ∧ a.two ≤ n ∧ a.three ≤ n ∧ a.four ≤ n) (side : Side)
    (hm : m ≤ n) : (a.set side m).one ≤ n ∧ (a.set side m).two ≤ n ∧ (a.set side m).three ≤ n ∧
      (a.set side m).four ≤ n := by
  obtain ⟨one, two, three, four⟩ := h
  fin_cases side
  · exact ⟨one, two, three, four⟩
  · exact ⟨hm, two, three, four⟩
  · exact ⟨one, hm, three, four⟩
  · exact ⟨one, two, hm, four⟩
  · exact ⟨one, two, three, hm⟩

/-- R42: a refund stays within ACAP. -/
theorem refunded_le {params : KindParams} {lost acap initial period : Nat}
    (hp : params = .dispenser lost acap initial period) {a : PerSide} (h : a.one ≤ acap ∧ a.two ≤ acap ∧ a.three ≤ acap ∧
      a.four ≤ acap) (side : Side) (cause : ReleaseCause) :
    (refunded params a side cause).one ≤ acap ∧ (refunded params a side cause).two ≤ acap ∧
      (refunded params a side cause).three ≤ acap ∧ (refunded params a side cause).four ≤ acap := by
  rw [hp]
  cases cause with
  | aborted => exact PerSide.set_le h side (min_le_left _ _)
  | _ => exact h

theorem tame_performRelease (s : State) (f : FixtureNo) (cause : ReleaseCause) : Tame s (performRelease s f cause).1 := by
  unfold performRelease
  dsimp only
  split
  · rename_i c hold hc hh
    refine tame_setFixture s f ⟨rfl, id, fun h c' lost acap initial period hc' hp => ?_, fun _ e => nomatch e⟩
    obtain rfl : c = c' := Option.some.inj (hc.symm.trans hc')
    obtain ⟨le, bounds⟩ := h c lost acap initial period hc' hp
    exact ⟨le, refunded_le hp bounds _ _⟩
  · exact .refl s

theorem tame_performReleaseTail (s : State) (f : FixtureNo) (robot : Robot) (side : Side) (cause : ReleaseCause) :
    Tame s (performReleaseTail s f robot side cause).1 := by
  have sent := (tame_createEvent s (.release cause) (some f) robot side ((s.fixture f).eventValue side)).trans
    (tame_raiseChange _)
  unfold performReleaseTail
  dsimp only
  split
  · exact sent.trans (tame_makeHoldOff _ _ _)
  · exact sent

theorem tame_setFixtureState (s : State) (f : FixtureNo) (st : FixtureState) : Tame s (s.setFixtureState f st) :=
  tame_setFixture s f (by exact .of_claims rfl rfl)

theorem tame_performPromote (s : State) (f : FixtureNo) : Tame s (performPromote s f).1 := by
  unfold performPromote
  dsimp only
  split
  · exact .refl s
  · split
    · exact (tame_setFixtureState s f _).trans (tame_refreshIndicator _ f)
    · rename_i w rest hq
      have popped : Tame s (s.setClaims f { (s.fixture f).claims with queue := rest }) :=
        tame_setClaims s f (by rw [hq]; exact Nat.le_succ _) rfl rfl
      split
      · exact popped.trans (tame_makeHoldOff _ _ f)
      · exact popped

theorem tame_performPhaseRelease (s : State) (f : FixtureNo) : Tame s (performPhaseRelease s f).1 := by
  unfold performPhaseRelease
  dsimp only
  split
  · exact tame_setFixture s f (.same rfl le_rfl rfl fun _ e => nomatch e)
  · exact .refl s

theorem tame_performPhaseTail (s : State) (f : FixtureNo) (robot : Robot) (side : Side) :
    Tame s (performPhaseTail s f robot side).1 :=
  (((tame_createEvent s _ _ _ _ _).trans (tame_setClaims _ f (by exact Nat.zero_le _) (by rfl) (by rfl))).trans
    (tame_raiseChange _)).trans (tame_refreshIndicator _ f)

/-- A task is a grant. -/
def Task.isGrant (t : Task) : Bool :=
  match t with
  | .grant _ _ _ _ _ => true
  | .arrive _ | .moveOn _ | .unitFreed _ | .abortTail _ _ | .nextList _ | .start _ _ | .report _ _ | .release _ _
  | .releaseTail _ _ _ _ | .promote _ | .phaseRelease _ | .phaseTail _ _ _ => false

theorem tame_perform (s : State) (t : Task) (h : t.isGrant = false) : Tame s (perform s t).1 := by
  cases t with
  | arrive r => exact tame_performArrive s r
  | moveOn r => exact tame_performMoveOn s r
  | unitFreed u => exact tame_performUnitFreed s u
  | abortTail r i => exact tame_performAbortTail s r i
  | nextList r => exact tame_performNextList s r
  | start r t => exact tame_performStart s r t
  | report f r => exact tame_performReport s f r
  | release f cause => exact tame_performRelease s f cause
  | releaseTail f robot side cause => exact tame_performReleaseTail s f robot side cause
  | promote f => exact tame_performPromote s f
  | grant f robot side seen age => cases h
  | phaseRelease f => exact tame_performPhaseRelease s f
  | phaseTail f robot side => exact tame_performPhaseTail s f robot side

/-! ## Stacks of tasks -/

theorem Task.isGrant_of_attends {t : Task} (h : ∀ f, t.attends f = false) : t.isGrant = false := by
  cases t with
  | grant f robot side seen age => simpa [Task.attends] using h f
  | _ => rfl

/-- Of a stack of tasks only the one on top may be a grant, of a claim that passed its checks. -/
inductive Checked (s : State) : List Task → Prop
  | plain {ts : List Task} (plain : ∀ t ∈ ts, t.isGrant = false) : Checked s ts
  | grant {f : FixtureNo} {c : FixtureConfig} {robot : Robot} {side : Side} {seen age : Nat} {ts : List Task}
      (config : (s.fixture f).config = some c) (passes : s.claimFault f c robot = none)
      (plain : ∀ t ∈ ts, t.isGrant = false) : Checked s (.grant f robot side seen age :: ts)


theorem startTask_plain (c : FixtureConfig) (f : FixtureNo) (l : Option StepNo) (p : Purpose) :
    ∀ u ∈ c.startTask f l p, u.isGrant = false :=
  fun u hu => Task.isGrant_of_attends fun _ => startTask_attends u hu

/-- Only promotion calls for a grant. -/
theorem perform_plain (s : State) (t : Task) (h : ∀ f, t ≠ .promote f) : ∀ u ∈ (perform s t).2, u.isGrant = false := by
  have aside (k : Aside s (perform s t)) : ∀ u ∈ (perform s t).2, u.isGrant = false :=
    fun u hu => Task.isGrant_of_attends fun f => k.tasks f u hu
  have followed {c : FixtureConfig} {f : FixtureNo} {l : Option StepNo} {p : Purpose} {t : Task} (ht : t.isGrant = false) :
      ∀ u ∈ c.startTask f l p ++ [t], u.isGrant = false := fun u hu =>
    (List.mem_append.mp hu).elim (startTask_plain c f l p u) fun e => List.mem_singleton.mp e ▸ ht
  cases t with
  | arrive r => exact aside (aside_arrive s r)
  | moveOn r => exact aside (aside_moveOn s r)
  | unitFreed u => exact aside (aside_unitFreed s u)
  | abortTail r i => exact aside (aside_abortTail s r i)
  | nextList r => exact aside (aside_nextList s r)
  | start r t => exact aside (aside_start s r t)
  | report f r => exact aside (aside_report s f r)
  | release f cause =>
    show ∀ u ∈ (performRelease s f cause).2, _
    unfold performRelease
    dsimp only
    split
    · exact followed rfl
    · exact fun u hu => nomatch hu
  | releaseTail f robot side cause => exact fun u hu => List.mem_singleton.mp hu ▸ rfl
  | promote f => exact absurd rfl (h f)
  | grant f robot side seen age =>
    show ∀ u ∈ (performGrant s f robot side seen age).2, _
    unfold performGrant
    dsimp only
    split
    · exact fun u hu => nomatch hu
    · exact startTask_plain _ _ _ _
  | phaseRelease f =>
    show ∀ u ∈ (performPhaseRelease s f).2, _
    unfold performPhaseRelease
    dsimp only
    split
    · exact followed rfl
    · exact fun u hu => nomatch hu
  | phaseTail f robot side => exact fun u hu => nomatch hu

theorem Checked.of_plain {s : State} {us ts : List Task} (hu : ∀ t ∈ us, t.isGrant = false)
    (ht : ∀ t ∈ ts, t.isGrant = false) : Checked s (us ++ ts) :=
  .plain fun t h => (List.mem_append.mp h).elim (hu t) (ht t)

/-- R35: promotion grants a waiting robot that passes its checks, or nobody. -/
theorem Checked.promote {s : State} {f : FixtureNo} {ts : List Task} (ht : ∀ t ∈ ts, t.isGrant = false) :
    Checked (performPromote s f).1 ((performPromote s f).2 ++ ts) := by
  have next : ∀ t ∈ [Task.promote f], t.isGrant = false := fun t h => List.mem_singleton.mp h ▸ rfl
  unfold performPromote
  dsimp only
  split
  · exact .plain ht
  · rename_i c hc
    split
    · exact .plain ht
    · split
      · exact .of_plain next ht
      · rename_i hpass
        exact .grant (c := c) (by rw [State.setClaims_fixture, if_pos rfl]; exact hc) hpass ht

/-- Every task leaves the stack so. -/
theorem Checked.perform {s : State} {t : Task} {ts : List Task} (h : Checked s (t :: ts)) :
    Checked (perform s t).1 ((perform s t).2 ++ ts) := by
  have rest : ∀ u ∈ ts, u.isGrant = false := by
    cases h with
    | plain plain => exact fun u hu => plain u (List.mem_cons_of_mem _ hu)
    | grant _ _ plain => exact plain
  by_cases promotes : ∃ f, t = .promote f
  · obtain ⟨f, rfl⟩ := promotes
    exact .promote rest
  · exact .of_plain (perform_plain s t fun f e => promotes ⟨f, e⟩) rest

/-- A property that every tame step keeps, and every grant of a claim that passed its checks. -/
structure Claimwise (P : State → Prop) : Prop where
  tame : ∀ {s t : State}, Tame s t → P s → P t
  grant : ∀ {s : State} {f : FixtureNo} {c : FixtureConfig} {robot : Robot} (side : Side) (seen age : Nat),
    (s.fixture f).config = some c → s.claimFault f c robot = none → P s → P (performGrant s f robot side seen age).1

namespace Claimwise

variable {P : State → Prop} (k : Claimwise P)
include k

theorem perform {s : State} {t : Task} {ts : List Task} (checked : Checked s (t :: ts)) (h : P s) :
    P (perform s t).1 := by
  cases checked with
  | plain plain => exact k.tame (tame_perform s t (plain t (List.mem_cons_self ..))) h
  | grant config passes _ => exact k.grant _ _ _ config passes h

theorem settleChecked {s : State} {ts : List Task} (checked : Checked s ts) (h : P s) : P (settle s ts) :=
  (settle_keeps_stack (fun u us => Checked u us ∧ P u) (fun _ _ _ hu => ⟨hu.1.perform, k.perform hu.1 hu.2⟩) s ts
    ⟨checked, h⟩).2

/-- What a stack without grants on it sets off. -/
theorem settle {s : State} {ts : List Task} (plain : ∀ t ∈ ts, t.isGrant = false) (h : P s) : P (settle s ts) :=
  k.settleChecked (.plain plain) h

theorem settleTask {s : State} {t : Task} (plain : t.isGrant = false) (h : P s) : P (Machine.settle s [t]) :=
  k.settle (fun _ hu => List.mem_singleton.mp hu ▸ plain) h

end Claimwise

end Sys2Proof.Machine
end

section
/-! Proofs for 02_holds_and_wait_queues.md, part 12: the operations behind the commands, in steps that bring no new holder
and grants of claims that passed their checks. -/

namespace Sys2Proof.Machine

/-! ## Operations without tasks -/

/-- R29: time ages holder and waiting robots. -/
theorem tame_advance (s : State) (d : Nat) : Tame s (s.advance d) := by
  cases hrun : s.running with
  | false => rw [s.advance_stopped d hrun]; exact .refl s
  | true =>
    refine ⟨by simp, by simp, fun r h => ?_, fun f => ?_⟩
    · rw [State.advance_runner s d hrun, Runner.advance_queue]; exact h
    · rw [s.advance_fixture d f hrun]
      refine .same rfl (by simp [Fixture.advance, Claims.advance]) rfl fun r h => ?_
      simpa [Fixture.holderRobot, Fixture.advance, Claims.advance, Function.comp_def] using h

theorem tame_setPort (s : State) (p : PortNo) (x : Port) : Tame s (s.setPort p x) :=
  .of_fixtures rfl rfl rfl fun _ => .refl _

theorem tame_dropQueued (s : State) (f : FixtureNo) (r : Robot) : Tame s (dropQueued s f r) :=
  (tame_setClaims s f (by exact List.length_filter_le _ _) (by rfl) (by rfl)).trans (tame_makeHoldOff _ r f)

theorem tame_zoneNotice (s : State) (f : FixtureNo) (c : FixtureConfig) (new : Phase) : Tame s (zoneNotice s f c new) := by
  unfold zoneNotice
  dsimp only
  split
  · exact (tame_setFixture s f (by exact .of_claims rfl rfl)).trans (tame_raiseChange _)
  · exact (tame_setFixture s f (by exact .of_claims rfl rfl)).trans (tame_raiseChange _)
  · exact .refl s

theorem tame_goalNotice (s : State) (f : FixtureNo) (c : FixtureConfig) (grace : Nat) (old new : Phase) :
    Tame s (goalNotice s f c grace old new) := by
  unfold goalNotice
  dsimp only
  split
  · exact (tame_setFixtureState s f _).trans (tame_raiseChange _)
  · split
    · exact (tame_setFixtureState s f _).trans (tame_raiseChange _)
    · exact (tame_setFixture s f (by exact .of_claims rfl rfl)).trans (tame_raiseChange _)
  · exact .refl s

theorem tame_gateTick (s : State) (f : FixtureNo) : Tame s (gateTick s f) := by
  unfold gateTick
  dsimp only
  split
  · exact tame_setClaims s f le_rfl rfl (by simp [Fixture.holderRobot, Function.comp_def])
  · exact .refl s

theorem tame_dispenserTick (s : State) (f : FixtureNo) (c : FixtureConfig) (period : Nat) :
    Tame s (dispenserTick s f c period) := by
  unfold dispenserTick
  dsimp only
  split
  · exact tame_setClaims s f le_rfl rfl rfl
  · exact .refl s

/-- R39: a refill stays within ACAP. -/
theorem tame_refill (s : State) (f : FixtureNo) : Tame s (refillFixture f s) := by
  unfold refillFixture
  dsimp only
  split
  · exact .refl s
  · rename_i c hc
    split
    · rename_i lost acap initial period hp
      refine tame_setFixture s f ⟨rfl, id, fun h c' lost' acap' initial' period' hc' hp' => ?_, fun _ e => e⟩
      obtain rfl : c = c' := Option.some.inj (hc.symm.trans hc')
      obtain ⟨-, rfl, -⟩ : lost = lost' ∧ acap = acap' ∧ initial = initial' ∧ period = period' := by
        simpa using hp.symm.trans hp'
      obtain ⟨le, -⟩ := h c _ _ _ _ hc' hp'
      exact ⟨le, min_le_left _ _, min_le_left _ _, min_le_left _ _, min_le_left _ _⟩
    all_goals exact .refl s

theorem tame_endGrace (s : State) (f : FixtureNo) : Tame s (endGrace f s) := by
  unfold endGrace
  dsimp only
  split
  · exact .refl s
  · split
    · exact tame_setFixture s f (by exact .of_claims rfl rfl)
    · exact ((tame_setFixture s f (by exact .of_claims rfl rfl)).trans (tame_raiseChange _)).trans
        (tame_refreshIndicator _ f)

theorem tame_jam (s : State) (f : FixtureNo) : Tame s (jamGoal f s) :=
  (((tame_setFixture s f (by exact .of_claims rfl rfl)).trans (tame_createEvent _ _ _ _ _ _)).trans
    (tame_raiseChange _)).trans (tame_refreshIndicator _ f)

theorem tame_unjam (s : State) (f : FixtureNo) : Tame s (unjamGoal f s) := by
  unfold unjamGoal
  dsimp only
  split
  · exact .refl s
  · exact (((tame_setFixture s f (by exact .of_claims rfl rfl)).trans (tame_createEvent _ _ _ _ _ _)).trans
      (tame_raiseChange _)).trans (tame_refreshIndicator _ f)

theorem tame_sampleRecords (s : State) (pins : BitVec 12) (sample : Input → Bool → Input) :
    Tame s (sampleRecords s pins sample) := by
  have judged (inputs : Inputs) (g : FixtureNo → Bool) : Tame s { s with
      inputs := inputs
      engine := { s.engine with fixtures := Vector.ofFn fun i => s.engine.fixtures[i].inputChanged (g i) } } :=
    .of_fixtures rfl rfl rfl fun f => by
      simp only [State.fixture, Fin.getElem_fin, Vector.getElem_ofFn]
      refine .of_claims (Fixture.inputChanged_config _ _) ?_
      unfold Fixture.inputChanged
      split <;> rfl
  unfold sampleRecords
  dsimp only
  split
  · exact judged _ _
  · exact (judged _ _).trans (tame_raiseChange _)

/-- R24: a sighting brings no new robot. -/
theorem tame_refresh (s : State) (f : FixtureNo) (r : Robot) :
    Tame s (s.setClaims f ((s.fixture f).claims.refresh r s.nowMs)) :=
  tame_setClaims s f (by simp [Claims.refresh]) rfl (Claims.refresh_holderRobot _ r _)

/-- Table 1-9: a robot joins a wait queue with room. -/
theorem State.judgeClaim_queued_room {s : State} {f : FixtureNo} {c : FixtureConfig} {r : Robot}
    (h : s.judgeClaim f c r = .queued) : (s.fixture f).claims.queue.length < 4 := by
  unfold State.judgeClaim at h
  dsimp only at h
  split at h
  · cases h
  · split at h
    · cases h
    · split at h
      · cases h
      · split at h
        · cases h
        · split at h
          · rename_i room; exact room
          · cases h

/-- R28: a robot joins a queue with room. -/
theorem tame_joinQueue {s : State} {f : FixtureNo} (r : Robot) (room : (s.fixture f).claims.queue.length < 4) :
    Tame s (joinQueue s f r) :=
  tame_setFixture s f ⟨rfl, fun _ => by simpa using room, id, fun _ e => e⟩

/-! ## START and CLEAR (R22, R38, R92, R95) -/

/-- R38: the allowances return to A0. -/
theorem Fixture.Tame.resetAllowance (x : Fixture) : x.Tame x.resetAllowance := by
  unfold Fixture.resetAllowance
  split
  · rename_i c hc
    split
    · rename_i lost acap initial period hp
      split
      · exact .refl x
      · refine ⟨rfl, id, fun h c' lost' acap' initial' period' hc' hp' => ?_, fun _ e => e⟩
        obtain rfl : c = c' := Option.some.inj (hc.symm.trans hc')
        obtain ⟨-, -, rfl, -⟩ : lost = lost' ∧ acap = acap' ∧ initial = initial' ∧ period = period' := by
          simpa using hp.symm.trans hp'
        obtain ⟨le, -⟩ := h c _ _ _ _ hc' hp'
        exact ⟨le, le, le, le, le⟩
    all_goals exact .refl x
  · exact .refl x

/-- R22: CLEAR leaves neither a holder nor a robot waiting. -/
theorem Fixture.Tame.cleared (x : Fixture) : x.Tame x.cleared := by
  unfold Fixture.cleared
  split
  · exact .refl x
  · refine ⟨rfl, fun _ => Nat.zero_le _, fun h => ?_, fun _ e => nomatch e⟩
    have reset := (Fixture.Tame.resetAllowance x).allowance h
    unfold Fixture.AllowanceSound at reset ⊢
    rw [Fixture.resetAllowance_config] at reset
    exact reset

theorem tame_startBegun (s : State) : Tame s s.startBegun :=
  .of_fixtures rfl rfl rfl fun f => by
    simpa [State.startBegun, State.fixture] using Fixture.Tame.resetAllowance _

theorem tame_fixturesCleared (s : State) : Tame s s.fixturesCleared :=
  .of_fixtures rfl rfl rfl fun f => by
    simpa [State.fixturesCleared, State.fixture] using Fixture.Tame.cleared _

theorem tame_clearEnded (s : State) : Tame s s.clearEnded :=
  Tame.trans (t := { s with
    runners := { s.runners with fault := false }
    pulse := s.pulse.leaveSafe
    picture := { s.picture with eventsLost := false } })
    ⟨rfl, id, fun r h => by cases r <;> exact h, fun _ => .refl _⟩ (tame_raiseChange _)

namespace Claimwise

variable {P : State → Prop} (k : Claimwise P)
include k

/-! ## Changes of phase (R5–R7, R92–R96, R104, R150) -/

/-- The clock bears on none of this. -/
theorem clock {s : State} (c : Clock) (h : P s) : P { s with clock := c } :=
  k.tame (s := s) (.of_fixtures rfl rfl rfl fun _ => .refl _) h

theorem pulse {s : State} (p : Pulse) (h : P s) : P { s with pulse := p } := k.tame (tame_setPulse s p) h

theorem raiseChange {s : State} (h : P s) : P s.raiseChange := k.tame (tame_raiseChange s) h

theorem claimNotice {s : State} (f : FixtureNo) (c : FixtureConfig) (new : Phase) (h : P s) :
    P (claimNotice s f c new) := by
  unfold Machine.claimNotice
  split
  · exact k.raiseChange (k.tame (tame_setFixtureState s f _) h)
  · exact k.raiseChange (k.tame (tame_setFixtureState s f _) h)
  · exact k.settleTask rfl h
  · exact h

theorem fixtureNotice {s : State} (old new : Phase) (f : FixtureNo) (h : P s) : P (fixtureNotice old new s f) := by
  refine k.tame (tame_refreshIndicator _ f) ?_
  split
  · exact h
  · split
    · exact h
    · split
      · exact k.claimNotice f _ new h
      · exact k.claimNotice f _ new h
      · exact k.tame (tame_zoneNotice s f _ new) h
      · exact k.tame (tame_goalNotice s f _ _ old new) h

theorem haltRunner {s : State} (r : RunnerId) (h : P s) : P (haltRunner s r) := by
  refine k.settle (fun t ht => ?_)
    (k.tame ((tame_setPulse s _).trans (tame_setRunner _ r fun _ => Nat.zero_le 4)) h)
  rcases List.mem_append.mp ht with ht | ht
  · split at ht
    · exact Task.isGrant_of_attends fun _ => reportTask_attends t ht
    · exact nomatch ht
  · obtain ⟨x, -, ht⟩ := List.mem_flatMap.mp ht
    exact Task.isGrant_of_attends fun _ => reportTask_attends t ht

theorem haltRunners {s : State} (h : P s) : P (haltRunners s) := k.haltRunner .B (k.haltRunner .A h)

theorem announce {s : State} (old : Phase) (h : P s) : P (announce s old) := by
  have noticed : P (fixtureNumbers.foldl (Machine.fixtureNotice old s.clock.phase) s) :=
    List.foldlRecOn _ _ (motive := P) h fun _ hu f _ => k.fixtureNotice old _ f hu
  unfold Machine.announce
  dsimp only
  split
  · exact k.raiseChange (k.pulse _ (k.haltRunners noticed))
  · exact k.raiseChange (k.pulse _ noticed)

theorem changePhase {s : State} (new : Phase) (h : P s) : P (changePhase s new) := k.announce _ (k.clock _ h)

theorem applyStart {s : State} (h : P s) : P (applyStart s) := by
  rw [applyStart_eq]
  exact k.changePhase _ (k.tame (tame_startBegun s) h)

theorem applyHalt {s : State} (h : P s) : P (applyHalt s) :=
  k.changePhase (s := { s with clock := { s.clock with resume := s.clock.phase } }) _ (k.clock _ h)

theorem applyClear {s : State} (h : P s) : P (applyClear s) := by
  rw [applyClear_eq]
  exact k.tame (tame_clearEnded _) (k.haltRunners (List.foldlRecOn fixtureNumbers State.refreshIndicator (motive := P)
    (k.tame (tame_fixturesCleared s) h) fun u hu f _ => k.tame (tame_refreshIndicator u f) hu))

theorem lateJoin {s : State} (row : PeerRow) (h : P s) : P (lateJoin s row) := by
  unfold Machine.lateJoin
  split
  · exact k.changePhase _ (k.clock _ h)
  · exact h

theorem takeCommand {s : State} (c : Command) (h : P s) : P (takeCommand s c) := by
  have tell (c : Command) : P (s.queueCommand c) := k.tame (tame_queueCommand s c) h
  unfold Machine.takeCommand
  split
  · exact h
  · split
    · exact tell .halt
    · split
      · exact h
      · cases c with
        | start => exact k.applyStart h
        | halt => exact k.applyHalt h
        | resume => exact k.changePhase _ h
        | clear => exact k.applyClear h

theorem localHalt {s : State} (mode : InputMode) (h : P s) : P (localHalt s mode) := by
  unfold Machine.localHalt
  split
  · cases mode with
    | edge => exact k.tame (tame_queueCommand s .halt) h
    | level => exact h
  · exact k.tame (tame_queueCommand _ .halt) (k.applyHalt h)

theorem localCommand {s : State} (c : Command) (mode : InputMode) (h : P s) : P (localCommand s c mode) := by
  have tell (c : Command) : P (s.queueCommand c) := k.tame (tame_queueCommand s c) h
  unfold Machine.localCommand
  split
  · exact k.localHalt mode h
  · split
    · exact tell .halt
    · split
      · exact h
      · exact tell .resume
  all_goals
    split
    · exact h
    · exact tell _

/-! ## Counted ticks (R30, R39, R48, R54, R90) -/

theorem zoneTick {s : State} (f : FixtureNo) (c : FixtureConfig) (cmax rateCap : Nat) (h : P s) :
    P (zoneTick s f c cmax rateCap) := by
  have controlled := k.tame (tame_setFixture s f (x := { s.fixture f with
    control := (s.fixture f).control.tick cmax (s.zoneRates c rateCap) }) (.of_claims rfl rfl)) h
  unfold Machine.zoneTick
  dsimp only
  split
  · split
    · exact k.tame (tame_refreshIndicator _ f) controlled
    · exact k.tame (tame_refreshIndicator _ f) (k.raiseChange controlled)
  · rename_i hne
    rw [if_neg fun e => hne e.1]
    exact k.settle (startTask_plain _ _ _ _)
      (k.tame (tame_refreshIndicator _ f) (k.raiseChange (k.tame (tame_createEvent _ _ _ _ _ _) controlled)))

theorem fixtureTick {s : State} (f : FixtureNo) (h : P s) : P (fixtureTick s f) := by
  unfold Machine.fixtureTick
  dsimp only
  split
  · exact h
  · split
    · exact h
    · split
      · exact k.tame (tame_gateTick s f) h
      · exact k.tame (tame_dispenserTick s f _ _) h
      · split
        · exact k.zoneTick f _ _ _ h
        · exact h
      · exact h

theorem tickOn (fs : List FixtureNo) {s : State} (h : P s) : P (tickOn fs s) :=
  tickOn_keeps P (fun _ f => k.fixtureTick f) (fun _ _ => k.clock _) fs s h

theorem finishTick {s : State} (h : P s) : P (finishTick s) :=
  finishTick_keeps P (fun _ f => k.fixtureTick f) (fun _ _ => k.clock _) s h

theorem resumeTick {s : State} (h : P s) : P (resumeTick s) := by
  unfold Machine.resumeTick
  split
  · exact k.tickOn _ h
  · exact h

theorem countTick {s : State} (h : P s) : P (countTick s) := k.tickOn _ (k.clock _ (k.finishTick h))

theorem endPeriod {s : State} (h : P s) : P (endPeriod s) :=
  k.changePhase (s := { Machine.finishTick s with clock := { (Machine.finishTick s).clock with boundaryDue := false } }) _
    (k.clock _ (k.finishTick h))

/-! ## Goals, inputs and patterns (R57–R69, R127–R131, R145, R147) -/

theorem takePiece {s : State} (f : FixtureNo) (h : P s) : P (takePiece s f) := by
  have counted (c : FixtureConfig) (rule : Option CreditRule) (values : PerPhase) (phase : Phase) :
      P (countPiece s f c rule values phase) := by
    have scored (n : Nat) (points : PerSide) : Tame s { s.setFixture f { s.fixture f with
        scoring := { (s.fixture f).scoring with pieces := n } } with
        engine := { (s.setFixture f { s.fixture f with
          scoring := { (s.fixture f).scoring with pieces := n } }).engine with points := points } } :=
      (tame_setFixture s f (by exact .of_claims rfl rfl)).trans (.of_fixtures rfl rfl rfl fun _ => .refl _)
    exact k.settle (startTask_plain _ _ _ _) (k.tame ((((scored _ _).trans (tame_createEvent _ _ _ _ _ _)).trans
      (tame_raiseChange _)).trans (tame_startTransient _ f _)) h)
  unfold Machine.takePiece
  dsimp only
  split
  · exact h
  · split
    · split
      · exact h
      · split
        · exact counted _ _ _ _
        · split
          · exact counted _ _ _ _
          · exact h
        all_goals exact h
    all_goals exact h

theorem takeLatch {s : State} (i : InputNo) (h : P s) : P (takeLatch s i) := by
  have taken (x : Input) : P (s.setInput i x) :=
    k.tame (s := s) (.of_fixtures rfl rfl rfl fun _ => .refl _) h
  unfold Machine.takeLatch
  dsimp only
  split
  · exact h
  · split
    · exact h
    · split
      · exact h
      · exact k.takePiece _ (taken _)
    · exact k.localCommand _ _ (taken _)

theorem takeLatches {s : State} (h : P s) : P (takeLatches s) :=
  List.foldlRecOn inputNumbers Machine.takeLatch (motive := P) h fun _ hs i _ => k.takeLatch i hs

theorem endPatternPhase {s : State} (u : UnitNo) (h : P s) : P (endPatternPhase u s) := by
  have ends : P (Machine.endPattern s u) := by
    have freed := k.pulse (s.setUnit u s.pulse.units[u].released).pulse h
    unfold Machine.endPattern
    dsimp only
    split
    · exact freed
    · refine k.settle (fun t ht => ?_) freed
      rcases List.mem_cons.mp ht with rfl | ht
      · rfl
      · exact Task.isGrant_of_attends fun _ => afterPattern_attends t ht
  unfold Machine.endPatternPhase
  split
  · exact h
  · split
    · exact k.pulse _ h
    · exact ends

/-! ## Sightings (R23, R24, R33, R72–R78) -/

theorem takeRequest {s : State} (f : FixtureNo) (c : FixtureConfig) (r : Robot) (hc : (s.fixture f).config = some c)
    (h : P s) : P (takeRequest s f c r) := by
  unfold Machine.takeRequest
  split
  · exact h
  · exact h
  · exact k.tame ((tame_makeHoldOff s r f).trans (tame_startTransient _ f _)) h
  · rename_i granted
    obtain ⟨-, -, passes, -⟩ := State.judgeClaim_passes (.inl granted)
    exact k.settleChecked (.grant hc passes fun _ hu => nomatch hu) h
  · rename_i queued
    exact k.tame (tame_joinQueue r (State.judgeClaim_queued_room queued)) h

theorem takeRelease {s : State} (f : FixtureNo) (c : FixtureConfig) (r : Robot) (h : P s) :
    P (takeRelease s f c r) := by
  unfold Machine.takeRelease
  dsimp only
  split
  · split
    · exact k.settleTask rfl h
    all_goals exact h
  · split
    · exact k.tame (tame_dropQueued s f r) h
    · exact h

theorem sighting {s : State} (p : PortNo) (r : Robot) (i : Intent) (h : P s) : P (sightingAtFixture s p r i) := by
  unfold sightingAtFixture
  split
  · exact h
  · rename_i f _
    split
    · exact h
    · rename_i c hc
      split
      · exact h
      · have seen := k.tame (tame_refresh s f r) h
        cases i with
        | present => exact seen
        | request => exact k.takeRequest f c r (by rw [State.setClaims_fixture, if_pos rfl]; exact hc) seen
        | release => exact k.takeRelease f c r seen

theorem judgeWord {s : State} (p : PortNo) (h : P s) : P (judgeWord s p) := by
  unfold Machine.judgeWord
  split
  · exact k.sighting p _ _ (k.tame (tame_setPort s p _) h)
  · exact h

theorem completeWord {s : State} (p : PortNo) (r : Robot) (i : BitVec 2) (h : P s) : P (completeWord p r i s) := by
  unfold Machine.completeWord
  split
  · exact k.judgeWord p (k.tame (tame_setPort s p _) h)
  · exact h

theorem changeLevel {s : State} (p : PortNo) (active : Bool) (h : P s) : P (changeLevel p active s) := by
  have heard (x : Port) : P (s.setPort p x) := k.tame (tame_setPort s p x) h
  unfold Machine.changeLevel
  dsimp only
  split
  · exact h
  · split
    · exact heard _
    · split
      · exact heard _
      · split
        · exact k.judgeWord p (heard _)
        · exact heard _

end Claimwise

end Sys2Proof.Machine
end

section
/-! Proofs for 02_holds_and_wait_queues.md, part 13: the line controller's transmit queue (R100, R176, R179–R184), and every
command. -/

namespace Sys2Proof.Machine

/-! ## The transmit queue (R176) -/

/-- The line controller's part of a change that makes the transmit queue no longer. -/
theorem OnlyReports.tame_of_le {s t : State} (h : OnlyReports s t) (queue : t.line.queue.length ≤ s.line.queue.length) :
    Tame s t := h.tame queue.trans

theorem tame_setPeer (s : State) (n : StationNo) (row : PeerRow) : Tame s (s.setPeer n row) :=
  (onlyReports_setPeer s n row).tame_of_le (by unfold State.setPeer; split <;> rfl)

theorem tame_setPicture (s : State) (x : Picture) : Tame s { s with picture := x } := OnlyReports.tame_of_le rfl le_rfl

theorem tame_setLine (s : State) {l : Line} (h : l.queue.length ≤ s.line.queue.length) : Tame s { s with line := l } :=
  OnlyReports.tame_of_le rfl h

/-- R183: a station that is muted empties its queue. -/
theorem tame_enterMuted (s : State) (cause : MuteCause) : Tame s (enterMuted s cause) :=
  (onlyReports_enterMuted s cause).tame_of_le (by unfold enterMuted; rw [State.setEventsLost_line]; exact Nat.zero_le _)

theorem tame_meetTwin (s : State) : Tame s (meetTwin s) := by
  unfold meetTwin
  split
  · exact tame_enterMuted s .twin
  · exact tame_setLine s le_rfl

@[simp] theorem Line.fallen_queue (l : Line) (d : Nat) : (l.fallen d).queue = l.queue := by
  unfold Line.fallen; rfl

@[simp] theorem Line.skip_queue (l : Line) (d i : Nat) : (l.skip d i).queue = l.queue := by
  simp [Line.skip]

theorem Line.append_queue (l : Line) (b : Byte) : (l.append b).queue = l.queue := by
  unfold Line.append
  dsimp only
  split
  · simp
  · split <;> simp

theorem Line.hear_queue (l : Line) (heard : Heard) : (l.hear heard).queue = l.queue := by
  unfold Line.hear
  split
  · simp
  · split
    · split <;> simp
    · exact l.append_queue _
    · simp

theorem tame_skip (s : State) (d i : Nat) : Tame s (s.skip d i) := tame_setLine s (by simp)

theorem tame_abandon (cause : AbandonCause) (s : State) : Tame s (State.abandon cause s) := by
  unfold State.abandon
  split
  · exact tame_skip s _ _
  · exact tame_skip s _ _
  · split
    · exact tame_skip s _ _
    all_goals exact .refl s

theorem tame_leaveMuted (s : State) : Tame s (leaveMuted s) := by
  unfold leaveMuted
  split
  · exact .refl s
  · refine Tame.trans ?_ (tame_createEvent _ _ _ _ _ _)
    have unmuted : Tame s { s with line := { s.line with muted := none, muteTimer := 0 } } := tame_setLine s le_rfl
    unfold raiseUnmuted
    split
    · exact unmuted.trans (tame_setPicture _ _)
    · exact unmuted.trans (tame_raiseChange _)

/-- R100: frames removed unsent leave the queue shorter. -/
theorem length_dropRefused (ok : Command → Bool) (queue : List QueuedFrame) :
    (dropRefused ok queue).length ≤ queue.length := by
  induction queue with
  | nil => exact le_rfl
  | cons q rest ih =>
    unfold dropRefused
    split
    · exact Nat.succ_le_succ ih
    · split
      · exact le_rfl
      · exact ih.trans (Nat.le_succ _)

theorem length_markSending (is : FrameBody → Bool) (queue : List QueuedFrame) :
    (markSending is queue).length = queue.length := by
  induction queue with
  | nil => rfl
  | cons q rest ih =>
    unfold markSending
    split
    · rfl
    · exact congrArg Nat.succ ih

theorem tame_beginAttempt (s : State) (item : Item) (bytes : List Byte) : Tame s (beginAttempt s item bytes) :=
  tame_setLine s (by simp)

theorem tame_beginCommand (s : State) (c : Command) : Tame s (beginCommand s c) :=
  (tame_setLine s (by exact (length_markSending _ _).le)).trans (tame_beginAttempt _ _ _)

theorem tame_beginHead (s : State) (h : Head) : Tame s (beginHead s h) := by
  unfold beginHead
  split
  · exact tame_beginCommand s _
  · exact (tame_setLine s (by exact (length_markSending _ _).le)).trans (tame_beginAttempt _ _ _)
  · split
    · exact (tame_setPicture s _).trans (tame_beginAttempt _ _ _)
    · exact .refl s

theorem tame_checkHead (s : State) : Tame s (checkHead s) := by
  unfold checkHead
  split
  · exact .refl s
  · split
    · exact tame_beginCommand s _
    · have dropped := tame_setLine s (l := { s.line with queue := dropRefused s.passesHead s.line.queue })
        (length_dropRefused _ _)
      dsimp only
      split
      · exact dropped.trans (tame_beginCommand _ _)
      all_goals exact dropped
  · exact tame_beginHead s _
  · exact tame_beginHead s _

theorem tame_abortAttempt (s : State) : Tame s (abortAttempt s) := by
  unfold abortAttempt
  split
  · exact .refl s
  · rename_i a _
    have aborted (x : Picture) (n : Nat) : Tame s { s with
        line := { s.line.leaveAttempt a with
          queue := s.line.queue.map fun q => { q with sending := false }, aborts := n }
        picture := x } := OnlyReports.tame_of_le rfl (by simp)
    dsimp only
    split
    · exact (aborted _ _).trans (tame_enterMuted _ _)
    · exact aborted _ _

namespace Claimwise

variable {P : State → Prop} (k : Claimwise P)
include k

/-! ## Frames (R43, R104, R110, R174, R175, R181) -/

theorem dualHold {s : State} (p : StationNo) (entries : List SummaryEntry) (h : P s) : P (dualHold s p entries) := by
  unfold Machine.dualHold
  split
  · refine List.foldlRecOn fixtureNumbers _ (motive := P) h fun u hu f _ => ?_
    split
    · exact k.settleTask rfl hu
    · exact hu
  · exact h

theorem takeStatus {s : State} (p : StationNo) (payload : List Byte) (h : P s) : P (takeStatus s p payload) := by
  have shown (row : PeerRow) : P (s.setPeer p row) := k.tame (tame_setPeer s p row) h
  unfold Machine.takeStatus
  split
  · exact h
  · split
    · exact h
    · dsimp only
      split
      · exact k.lateJoin _ (k.dualHold p _ (shown _))
      · exact shown _

theorem takeFrame {s : State} (kind : FrameKind) (sender : StationNo) (payload : List Byte) (h : P s) :
    P (takeFrame s kind sender payload) := by
  have heard := k.tame (tame_setLine s (l := { s.line with lastSender := sender }) le_rfl) h
  have met : P (if sender = s.loader.station then meetTwin { s with line := { s.line with lastSender := sender } }
      else { s with line := { s.line with lastSender := sender } }) := by
    split
    · exact k.tame (tame_meetTwin _) heard
    · exact heard
  unfold Machine.takeFrame
  dsimp only
  split
  · split
    · exact k.takeCommand _ met
    · exact met
  · exact k.takeStatus _ _ met
  · exact met

theorem receiveFrame {wanted : Judgement → Bool} {dt : Nat} {frame : List Byte} {s t : State}
    (h : receiveFrame wanted dt frame s = .next t) (hs : P s) : P t := by
  have passed (d : Nat) : P (s.advance d) := k.tame (tame_advance s d) hs
  rcases receiveFrame_cases wanted dt frame s with ⟨e, -⟩ | ⟨-, -, -, e⟩
  · rw [e] at h; cases h; exact passed dt
  · rw [e] at h
    have skipped (d : Nat) : P ((s.advance d).skip 0 0) := k.tame (tame_skip _ 0 0) (passed d)
    cases h
    split
    · exact k.takeFrame _ _ _ (skipped _)
    · exact skipped _
    · exact skipped _

theorem succeed {s : State} (h : P s) : P (succeed s) := by
  unfold Machine.succeed
  split
  · exact h
  · have sent {l : Line} (x : Picture) (hl : l.queue = s.line.queue.filter fun q => !q.sending) :
        P { s with line := l, picture := x } :=
      k.tame (OnlyReports.tame_of_le rfl (by rw [hl]; exact List.length_filter_le _ _)) h
    dsimp only
    split
    · exact k.takeCommand _ (sent _ rfl)
    · exact sent _ rfl
    · exact sent _ rfl

/-! ## Every command -/

theorem expiry {wait : State → Option Nat} {act : State → State} {s t : State} (h : onExpiry wait act s = .next t)
    (hs : P s) (hact : ∀ u, P u → P (act u)) : P t := by
  rcases onExpiry_cases h with rfl | ⟨d, -, rfl⟩
  · exact hs
  · exact hact _ (k.tame (tame_advance s d) hs)

/-- An expiry whose act brings no new holder. -/
theorem tameExpiry {wait : State → Option Nat} {act : State → State} {s t : State} (h : onExpiry wait act s = .next t)
    (hs : P s) (hact : ∀ u, Tame u (act u)) : P t :=
  k.expiry h hs fun u => k.tame (hact u)

theorem timed {dt : Nat} {act : State → State} {s t : State} (h : afterTime dt act s = .next t) (hs : P s)
    (hact : ∀ u, P u → P (act u)) : P t := by
  cases h; exact hact _ (k.tame (tame_advance s dt) hs)

/-- Every command but those of a reset and a load keeps such a property. -/
theorem exec {c : Instr} {s t : State} (hc : c.reconfigures = false) (h : exec c s = .next t) (hs : P s) : P t := by
  have passed (d : Nat) : P (s.advance d) := k.tame (tame_advance s d) hs
  cases c with
  | reset _ => cases hc
  | loadEnd _ _ => cases hc
  | resetAsserted => cases hc
  | sighting dt p r i => exact k.timed (act := Machine.completeWord p r i) h hs fun _ => k.completeWord p r i
  | holdOffExpiry r f =>
    exact k.tameExpiry (wait := holdOffWait r f) (act := dropHoldOff r f) h hs
      fun _ => .of_fixtures rfl rfl rfl fun _ => .refl _
  | sightExpiry p r =>
    exact k.tameExpiry (wait := sightWait p r) (act := dropSight p r) h hs fun u => tame_setPort u p _
  | lost f =>
    exact k.expiry (wait := lostWait f) (act := fun s => Machine.settle s [.release f .lost]) h hs fun _ => k.settleTask rfl
  | queuedLost f r =>
    exact k.tameExpiry (wait := queuedLostWait f r) (act := fun s => dropQueued s f r) h hs
      fun u => tame_dropQueued u f r
  | overstay f =>
    obtain rfl := Host.Outcome.next.inj h
    split
    · exact k.resumeTick (k.settleTask rfl hs)
    · exact hs
  | countedTick => exact k.expiry (wait := tickWait) (act := Machine.countTick) h hs fun _ => k.countTick
  | refill f =>
    obtain rfl := Host.Outcome.next.inj h
    split
    · exact k.resumeTick (k.tame (tame_refill s f) hs)
    · exact hs
  | periodEnd =>
    obtain rfl := Host.Outcome.next.inj h
    split
    · exact k.endPeriod hs
    · exact hs
  | graceEnd f => exact k.tameExpiry (wait := graceWait f) (act := endGrace f) h hs fun u => tame_endGrace u f
  | jam f => exact k.tameExpiry (wait := jamWait f) (act := jamGoal f) h hs fun u => tame_jam u f
  | unjam f => exact k.tameExpiry (wait := unjamWait f) (act := unjamGoal f) h hs fun u => tame_unjam u f
  | transientEnd f =>
    exact k.tameExpiry (wait := transientWait f) (act := endTransient f) h hs
      fun u => (tame_setFixture u f (by exact .of_claims rfl rfl)).trans (tame_refreshIndicator _ f)
  | inputSample pins =>
    exact k.expiry (wait := sampleWait) (act := fun s => Machine.takeLatches (sampleRecords s pins Input.sample)) h hs
      fun u hu => k.takeLatches (k.tame (tame_sampleRecords u pins _) hu)
  | start dt => exact k.timed (act := (Machine.takeCommand · .start)) h hs fun _ => k.takeCommand .start
  | halt dt => exact k.timed (act := (Machine.takeCommand · .halt)) h hs fun _ => k.takeCommand .halt
  | resume dt => exact k.timed (act := (Machine.takeCommand · .resume)) h hs fun _ => k.takeCommand .resume
  | clear dt => exact k.timed (act := (Machine.takeCommand · .clear)) h hs fun _ => k.takeCommand .clear
  | statusReceived dt frame => exact k.receiveFrame (wanted := Judgement.isValid .status) h hs
  | eventFrameReceived dt frame => exact k.receiveFrame (wanted := Judgement.isValid .event) h hs
  | frameDiscard dt frame => exact k.receiveFrame (wanted := (· == .discarded)) h hs
  | matchFrameReceived dt frame => exact k.receiveFrame (wanted := Judgement.isValid .command) h hs
  | frameAbandon dt cause =>
    change execFrameAbandon dt cause s = _ at h
    unfold execFrameAbandon at h
    split at h <;> obtain rfl := Host.Outcome.next.inj h
    · exact k.tame (tame_abandon cause _) (passed _)
    · exact passed dt
  | statusTimerExpiry =>
    exact k.tameExpiry (wait := statusWait) (act := raiseStatus) h hs fun u => tame_setPicture u _
  | changeEligible => exact k.tameExpiry (wait := changeWait) (act := id) h hs .refl
  | attemptBegin => exact k.tameExpiry (wait := attemptWait) (act := checkHead) h hs tame_checkHead
  | attemptSuccess => exact k.expiry (wait := attemptLeft) (act := Machine.succeed) h hs fun _ => k.succeed
  | attemptAbort dt =>
    change execAttemptAbort dt s = _ at h
    rcases execAttemptAbort_cases dt s with ⟨e, -⟩ | ⟨a, d, -, -, e⟩ <;> rw [e] at h <;>
      obtain rfl := Host.Outcome.next.inj h
    · exact passed dt
    · exact k.tame (tame_abortAttempt _) (passed d)
  | muteTimerExpiry => exact k.tameExpiry (wait := muteWait) (act := leaveMuted) h hs tame_leaveMuted
  | patternPhaseEnd u =>
    exact k.expiry (wait := patternWait u) (act := Machine.endPatternPhase u) h hs fun _ => k.endPatternPhase u
  | delayEnd r =>
    exact k.expiry (wait := delayWait r) (act := fun s => Machine.settle s [.moveOn r]) h hs fun _ => k.settleTask rfl
  | lampPhaseEnd u =>
    exact k.tameExpiry (wait := lampWait u) (act := endLampPhase u) h hs fun v => tame_setPulse v (endLampPhase u v).pulse
  | beaconLevelChange dt p active => exact k.timed (act := Machine.changeLevel p active) h hs fun _ => k.changeLevel p active
  | beaconWindowOverrun p =>
    exact k.tameExpiry (wait := overrunWait p) (act := overrun p) h hs fun u => tame_setPort u p _
  | nonSyncCharacter dt line =>
    change execNonSyncCharacter dt line s = _ at h
    rcases execNonSyncCharacter_cases dt line s with ⟨e, -⟩ | ⟨heard, -, -, e⟩ <;> rw [e] at h <;>
      obtain rfl := Host.Outcome.next.inj h
    · exact passed dt
    · exact k.tame (tame_setLine _ (by rw [Line.hear_queue])) (passed _)
  | receiverReturnToHunt =>
    exact k.tameExpiry (wait := huntWait) (act := returnToHunt) h hs fun u => tame_setLine u le_rfl

/-- And so does every step, where it holds of a station at its start-up state and of one that has just been configured. -/
theorem step (restart : ∀ s l m, m.queue = [] → P { State.restart s l with line := m })
    (configured : ∀ s records dominant, P (showIndicators (State.configure s (readScript records) dominant)))
    {s t : State} (hs : P s) (h : step s = .next t) : P t := by
  unfold Machine.step at h
  split at h
  · obtain rfl := Host.Outcome.next.inj h; exact k.tame (tame_advance s 1) hs
  · rename_i c rest _
    have popped : P { s with pending := rest } := k.tame (s := s) (.of_fixtures rfl rfl rfl fun _ => .refl _) hs
    cases hc : c.reconfigures with
    | false => exact k.exec hc h popped
    | true =>
      cases c with
      | reset straps => obtain rfl := Host.Outcome.next.inj h; exact restart _ _ _ rfl
      | resetAsserted => obtain rfl := Host.Outcome.next.inj h; exact restart _ _ _ rfl
      | loadEnd miso pins =>
        change execLoadEnd miso pins _ = _ at h
        unfold execLoadEnd at h
        split at h
        · split at h <;> obtain rfl := Host.Outcome.next.inj h
          · exact k.takeLatches (k.raiseChange (k.tame (tame_sampleRecords _ _ _) (configured _ _ _)))
          · exact restart _ _ _ rfl
        · obtain rfl := Host.Outcome.next.inj h; exact popped
      | _ => cases hc

end Claimwise

end Sys2Proof.Machine
end

section
/-! Proofs for 02_holds_and_wait_queues.md, part 14: O5, O7 and O10 settled. Each of the three is kept by tame steps and by
the grants of claims that passed their checks, and holds of a station that starts. -/

namespace Sys2Proof.Machine

/-! ## Start-up (R21, R187, R194) -/

/-- A fixture as a station starts with it: nobody holds it or waits for it, and its allowances are A0. -/
structure Fixture.Fresh (x : Fixture) : Prop where
  holder : x.claims.holder = none
  queue : x.claims.queue = []
  allowance : x.AllowanceSound

theorem Fixture.absent_fresh : Fixture.absent.Fresh := ⟨rfl, rfl, fun _ _ _ _ _ hc => nomatch hc⟩

/-- R37, R192: A0 is read within ACAP. -/
theorem readParams_initial_le {k : Kind} {b : List Byte} {lost acap initial period : Nat}
    (h : readParams k b = .dispenser lost acap initial period) : initial ≤ acap := by
  cases k with
  | dispenser =>
    simp only [readParams, KindParams.dispenser.injEq] at h
    obtain ⟨-, rfl, rfl, -⟩ := h
    unfold clamp
    omega
  | _ => cases h

/-- A fixture that the script gives has the parameters that its record reads as. -/
theorem readScript_params (records : List Record) (f : FixtureNo) :
    (readScript records).fixtures[f] = Fixture.absent ∨
      ∃ c dead k b, (readScript records).fixtures[f] = Fixture.loaded c dead ∧ c.params = readParams k b := by
  simp only [readScript, Fin.getElem_fin, Vector.getElem_ofFn]
  split
  · rename_i hconfig hbody
    simp only [hbody, Option.map_some, Option.some.injEq] at hconfig
    exact .inr ⟨_, _, _, _, rfl, by rw [← hconfig]; rfl⟩
  · exact .inl rfl

theorem readScript_fresh (records : List Record) (f : FixtureNo) : ((readScript records).fixtures[f]).Fresh := by
  rcases readScript_params records f with habsent | ⟨c, dead, k, b, hloaded, hparams⟩
  · rw [habsent]; exact Fixture.absent_fresh
  · rw [hloaded]
    refine ⟨rfl, rfl, fun c' lost acap initial period hc hp => ?_⟩
    obtain rfl : c = c' := Option.some.inj hc
    have le := readParams_initial_le (hparams.symm.trans hp)
    simp only [Fixture.loaded, hp]
    exact ⟨le, le, le, le, le⟩

/-- A station that starts: no fixture claimed, no start waiting, nothing to send. -/
structure Fresh (s : State) : Prop where
  fixtures : ∀ f, (s.fixture f).Fresh
  starts : ∀ r, (s.runner r).queue = []
  line : s.line.queue = []

theorem fresh_restart (s : State) (l : Loader) {m : Line} (hm : m.queue = []) :
    Fresh { State.restart s l with line := m } where
  fixtures f := by
    have absent : (State.restart s l).fixture f = Fixture.absent := by
      simp [State.restart, State.fixture, State.reset, Engine.start]
    show ((State.restart s l).fixture f).Fresh
    rw [absent]; exact Fixture.absent_fresh
  starts r := by cases r <;> rfl
  line := hm

theorem showIndicators_runners (s : State) : (showIndicators s).runners = s.runners :=
  List.foldlRecOn fixtureNumbers _ (motive := fun u : State => u.runners = s.runners) rfl
    fun u hu f _ => (u.handOver_runners f _).trans hu

theorem showIndicators_line (s : State) : (showIndicators s).line = s.line :=
  List.foldlRecOn fixtureNumbers _ (motive := fun u : State => u.line = s.line) rfl
    fun u hu f _ => (u.handOver_line f _).trans hu

theorem fresh_configured (s : State) (records : List Record) (dominant : Nat) :
    Fresh (showIndicators (State.configure s (readScript records) dominant)) where
  fixtures f := by
    rw [State.fixture_def, showIndicators_engine]
    exact readScript_fresh records f
  starts r := by
    unfold State.runner
    rw [showIndicators_runners]
    cases r <;> rfl
  line := by rw [showIndicators_line]; rfl

/-- So every step keeps what tame steps, checked grants and a start-up keep. -/
theorem Claimwise.step_of_fresh {P : State → Prop} (k : Claimwise P) (fresh : ∀ s, Fresh s → P s) {s t : State}
    (hs : P s) (h : Machine.step s = .next t) : P t :=
  k.step (fun s l _ hm => fresh _ (fresh_restart s l hm))
    (fun s records dominant => fresh _ (fresh_configured s records dominant)) hs h

/-! ## What a grant changes (R27) -/

theorem granted_other (s : State) {f g : FixtureNo} (c : FixtureConfig) (h : Holder) (hg : g ≠ f) :
    (s.granted f c h).fixture g = s.fixture g := by
  obtain ⟨others, -⟩ := s.granted_restAs f c h
  exact others g hg

/-- To be kept by the grants of checked claims, it is enough to be kept by `State.granted`. -/
theorem Claimwise.of_granted {P : State → Prop} (tame : ∀ {s t : State}, Tame s t → P s → P t)
    (granted : ∀ {s : State} {f : FixtureNo} {c : FixtureConfig} (h : Holder), (s.fixture f).config = some c →
      s.claimFault f c h.robot = none → P s → P (s.granted f c h)) : Claimwise P where
  tame := tame
  grant {s f c robot} side seen age hc passes hs := by
    rw [performGrant_eq hc]
    exact granted ⟨robot, side, s.clock.tick, seen, age, 0⟩ hc passes hs

/-! ## Queues (O5) -/

theorem claimwise_queuesBounded : Claimwise QueuesBounded := by
  refine .of_granted (fun h => ?_) fun {s f c} h hc _ hs => ?_
  · rintro ⟨line, a, b, waits⟩
    exact ⟨h.line line, h.starts .A a, h.starts .B b, fun f => (h.fixtures f).queue (waits f)⟩
  · obtain ⟨line, a, b, waits⟩ := hs
    have reports := s.granted_reportsAs f c h
    obtain ⟨others, -, -, -, -, -, -, -, runners, -⟩ := s.granted_restAs f c h
    obtain ⟨-, -, claims, -⟩ := s.granted_fixture f c h
    refine ⟨?_, by rw [runners]; exact a, by rw [runners]; exact b, fun g => ?_⟩
    · rw [reports.line]
      exact ((tame_createEvent s _ _ _ _ _).trans (tame_raiseChange _)).line line
    · by_cases hg : g = f
      · rw [hg, claims]; exact waits f
      · rw [others g hg]; exact waits g

/-- Settles O5: a tame step keeps every queue within its room, and a grant joins nobody to any. -/
theorem queuesStayBounded : Obligations.QueuesStayBounded := by
  unfold Obligations.QueuesStayBounded
  intro s t
  refine claimwise_queuesBounded.step_of_fresh fun s h => ⟨?_, ?_, ?_, fun f => ?_⟩
  · rw [h.line]; exact Nat.zero_le _
  · exact (congrArg List.length (h.starts .A)).trans_le (Nat.zero_le _)
  · exact (congrArg List.length (h.starts .B)).trans_le (Nat.zero_le _)
  · rw [(h.fixtures f).queue]; exact Nat.zero_le _

/-! ## Allowances (O7) -/

theorem claimwise_allowancesSound : Claimwise AllowancesSound := by
  refine .of_granted (fun h hs => ?_) fun {s f c} h _ _ hs g => ?_
  · rw [allowancesSound_iff] at hs ⊢
    exact fun f => (h.fixtures f).allowance (hs f)
  · by_cases hg : g = f
    · subst hg
      obtain ⟨config, -, claims, -⟩ := s.granted_fixture g c h
      intro c' lost acap initial period hc' hp
      rw [config] at hc'
      obtain ⟨le, bounds⟩ := hs g c' lost acap initial period hc' hp
      rw [claims]
      refine ⟨le, ?_⟩
      unfold Fixture.grantedAllowance
      split
      · refine PerSide.set_le bounds _ ((Nat.sub_le _ _).trans (AllowancesSound.get_le hs hc' hp _))
      · exact bounds
    · rw [granted_other s c h hg]
      exact hs g

/-- Settles O7: a tame step keeps the allowances within ACAP, and a grant takes one. -/
theorem allowancesStaySound : Obligations.AllowancesStaySound := by
  unfold Obligations.AllowancesStaySound
  exact fun s t => claimwise_allowancesSound.step_of_fresh fun s h f => (h.fixtures f).allowance

/-! ## Single hold (O10) -/

/-- R25: the holder's number is what single hold depends on. -/
theorem singleHold_iff (s : State) : SingleHold s ↔ (s.settings.singleHold = true → ∀ f g : FixtureNo, f ≠ g →
    s.isGate f → s.isGate g → ∀ r, (s.fixture f).holderRobot = some r → (s.fixture g).holderRobot ≠ some r) := by
  have claims (f : FixtureNo) (r : Robot) :
      (s.fixture f).holderRobot = some r ↔ ∃ h, (s.fixture f).claims.holder = some h ∧ h.robot = r := by
    simp [Fixture.holderRobot]
  unfold SingleHold
  simp only [ne_eq, claims]
  constructor
  · rintro hs single f g hne gf gg r ⟨h, hf, rfl⟩ ⟨k, hg, e⟩
    exact hs single f g hne gf gg h k hf hg e.symm
  · intro hs single f g hne gf gg h k hf hg e
    exact hs single f g hne gf gg h.robot ⟨h, hf, rfl⟩ ⟨k, hg, e.symm⟩

/-- Check 7 of Table 2-1: a claim that passes is of a robot that holds no other GATE of the station. -/
theorem State.claimFault_none_holder {s : State} {f g : FixtureNo} {c : FixtureConfig} {r : Robot}
    (h : s.claimFault f c r = none) (hk : c.kind = .gate) (single : s.settings.singleHold = true) (hg : g ≠ f)
    (gate : s.isGate g) : (s.fixture g).holderRobot ≠ some r := by
  rw [State.claimFault_eq] at h
  have elsewhere : failsCheck s f c r .elsewhere = false := by simpa using List.find?_eq_none.mp h .elsewhere (by simp)
  simp only [failsCheck, hk, single, beq_self_eq_true, Bool.true_and, State.holdsElsewhere, Bool.or_eq_false_iff] at elsewhere
  obtain ⟨own, -⟩ := elsewhere
  have here := List.any_eq_false.mp own g (mem_fixtureNumbers g)
  intro holds
  obtain ⟨k, hh, rfl⟩ := Option.map_eq_some_iff.mp holds
  unfold State.isGate at gate
  simp [hg, gate, hh] at here

theorem claimwise_singleHold : Claimwise SingleHold := by
  refine .of_granted (fun {s t} h hs => ?_) fun {s f c} h hc passes hs => ?_
  · rw [singleHold_iff] at hs ⊢
    intro single f g hne gf gg r hf hg
    have gate {f : FixtureNo} (k : t.isGate f) : s.isGate f := by
      unfold State.isGate Fixture.kind? at *
      rwa [(h.fixtures f).config] at k
    exact hs (h.settings ▸ single) f g hne (gate gf) (gate gg) r ((h.fixtures f).holder r hf) ((h.fixtures g).holder r hg)
  · obtain ⟨config, -, claims, -⟩ := s.granted_fixture f c h
    obtain ⟨others, -, -, -, settings, -⟩ := s.granted_restAs f c h
    have gate {g : FixtureNo} (k : (s.granted f c h).isGate g) : s.isGate g := by
      unfold State.isGate Fixture.kind? at *
      by_cases hg : g = f
      · subst hg; rwa [config] at k
      · rwa [others g hg] at k
    have kind (k : s.isGate f) : c.kind = .gate := by
      unfold State.isGate at k
      rw [Fixture.kind?_eq hc] at k
      exact Option.some.inj k
    have robot : ((s.granted f c h).fixture f).holderRobot = some h.robot := by
      unfold Fixture.holderRobot
      rw [claims]
      rfl
    rw [singleHold_iff] at hs ⊢
    intro single g g' hne kg kg' r hr hr'
    rw [settings] at single
    by_cases hg : g = f
    · subst hg
      obtain rfl : h.robot = r := Option.some.inj (robot.symm.trans hr)
      rw [others g' (Ne.symm hne)] at hr'
      exact State.claimFault_none_holder passes (kind (gate kg)) single (Ne.symm hne) (gate kg') hr'
    · rw [others g hg] at hr
      by_cases hg' : g' = f
      · subst hg'
        obtain rfl : h.robot = r := Option.some.inj (robot.symm.trans hr')
        exact State.claimFault_none_holder passes (kind (gate kg')) single hg (gate kg) hr
      · rw [others g' hg'] at hr'
        exact hs single g g' hne (gate kg) (gate kg') r hr hr'

/-- Settles O10: a tame step brings no new holder, and a grant only one that holds no other GATE. -/
theorem singleHoldIsKept : Obligations.SingleHoldIsKept := by
  unfold Obligations.SingleHoldIsKept
  refine fun s t => claimwise_singleHold.step_of_fresh fun s h _ f _ _ _ _ k _ hk => ?_
  rw [(h.fixtures f).holder] at hk
  cases hk

end Sys2Proof.Machine
end

section
/-! Proofs for 03_zones_and_goals.md, part 1: what a goal's own timers and a piece come to (R57–R62, R64, R67–R69). -/

namespace Sys2Proof.Machine

/-! ## A goal over time (R64, R66) -/

theorem Fixture.liveGoal_of {x : Fixture} {c : FixtureConfig} (hc : x.config = some c) (hk : c.kind = .goal)
    (hdead : x.state ≠ .dead) : x.liveGoal = true := by
  simp [Fixture.liveGoal, Fixture.kind?_eq hc, hk, hdead]

@[simp] theorem State.advance_pieces (s : State) (d : Nat) (f : FixtureNo) :
    ((s.advance d).fixture f).scoring.pieces = (s.fixture f).scoring.pieces := by
  cases hrun : s.running with
  | true => rw [s.advance_fixture d f hrun]; rfl
  | false => rw [s.advance_stopped d hrun]

/-! ## An event that a goal sends of itself (R62, R67, R69) -/

/-- A fixture's new record, told to the field: the event, CHANGE, and the indicator that follows. -/
def State.told (s : State) (f : FixtureNo) (x : Fixture) (k : EventKind) (r : Robot) (side : Side) (v : Nat) : State :=
  (((s.setFixture f x).createEvent k (some f) r side v).raiseChange).refreshIndicator f

section
variable (s : State) (f : FixtureNo) (x : Fixture) (k : EventKind) (r : Robot) (side : Side) (v : Nat)

theorem State.told_fixture :
    (s.told f x k r side v).fixture f = { x with indicator := indicatorOf s.clock.phase x } := by
  simp [State.told, State.refreshIndicator_fixture]

theorem State.told_restAs : RestAs s (s.told f x k r side v) f :=
  (((restAs_setFixture s f x).trans (restAs_createEvent _ _ _ _ _ _ f)).trans (restAs_raiseChange _ f)).trans
    (restAs_refreshIndicator _ f)

theorem State.told_reportsAs : ReportsAs (s.createEvent k (some f) r side v).raiseChange (s.told f x k r side v) :=
  (((reportsAs_setFixture s f x).createEvent k (some f) r side v).raiseChange).trans (reportsAs_refreshIndicator _ f)

theorem State.told_line : (s.told f x k r side v).line = (s.createEvent k (some f) r side v).line :=
  (s.told_reportsAs f x k r side v).line.trans (State.raiseChange_line _)

@[simp] theorem State.told_holdOff : (s.told f x k r side v).engine.holdOff = s.engine.holdOff := by simp [State.told]

end

/-! ## Grace (R64, R68) -/

/-- A goal's record as its grace has ended: no time left, and no credited phase. -/
def Fixture.graceOver (x : Fixture) : Fixture := { x with scoring := { x.scoring with graceLeft := 0, credited := none } }

theorem endGrace_jammed {s : State} {f : FixtureNo} {c : FixtureConfig} (hc : (s.fixture f).config = some c)
    (h : (s.fixture f).state = .jammed) : endGrace f s = s.setFixture f (s.fixture f).graceOver := by
  simp only [endGrace, hc, h, if_true, Fixture.graceOver]

theorem endGrace_grace {s : State} {f : FixtureNo} {c : FixtureConfig} (hc : (s.fixture f).config = some c)
    (h : (s.fixture f).state ≠ .jammed) : endGrace f s = ((s.setFixture f { (s.fixture f).graceOver with
      state := if inMask c.liveMask s.clock.phase then .counting else .dormant }).raiseChange).refreshIndicator f := by
  simp only [endGrace, hc, if_neg h, Fixture.graceOver]

/-- Settles O32: `endGrace` once the rest of the grace has passed. -/
theorem graceEnds : Obligations.GraceEnds := by
  unfold Obligations.GraceEnds
  intro s f c hready hc hk hphase hgrace
  have hdead : (s.fixture f).state ≠ .dead := by rcases hgrace with h | ⟨h, -⟩ <;> simp [h]
  have runs : (s.fixture f).graceRuns = true := by
    rcases hgrace with h | ⟨h, hjam, hcredited⟩
    · simp [Fixture.graceRuns, h]
    · simp [Fixture.graceRuns, h, hjam, Option.isSome_iff_ne_none, hcredited]
  have hwait : graceWait f s = some (s.fixture f).scoring.graceLeft := by
    simp [graceWait, Fixture.liveGoal_of hc hk hdead, runs, hphase]
  refine ⟨_, onExpiry_some hwait, ?_⟩
  generalize (s.fixture f).scoring.graceLeft = d
  have hcu : ((s.advance d).fixture f).config = some c := (s.advance_fixture_config d f).trans hc
  have hstate := s.advance_fixture_state d f
  have hnow : (s.advance d).now = s.now + d := s.advance_now d (State.ready_running hready)
  have hpieces := s.advance_pieces d f
  by_cases hjammed : (s.fixture f).state = .jammed
  · rw [endGrace_jammed hcu (hstate.trans hjammed), State.setFixture_fixture_same, if_pos hjammed, if_pos hjammed]
    exact ⟨hnow, hstate.trans hjammed, rfl, rfl, hpieces, rfl, rfl, rfl, restAs_setFixture ..⟩
  · rw [endGrace_grace hcu (hstate ▸ hjammed), if_neg hjammed, if_neg hjammed]
    have reports : ReportsAs (s.advance d).raiseChange _ :=
      ((reportsAs_setFixture (s.advance d) f { ((s.advance d).fixture f).graceOver with
        state := if inMask c.liveMask (s.advance d).clock.phase then .counting else .dormant }).raiseChange).trans
        (reportsAs_refreshIndicator _ f)
    refine ⟨by simpa using hnow, ?_, ?_, ?_, ?_, by simp, reports.picture, by simp,
      ((restAs_setFixture ..).trans (restAs_raiseChange _ f)).trans (restAs_refreshIndicator _ f)⟩
    all_goals simp [State.refreshIndicator_fixture, Fixture.graceOver]

/-! ## Jam (R67, R69) -/

theorem unjamGoal_eq {s : State} {f : FixtureNo} {c : FixtureConfig} (hc : (s.fixture f).config = some c) :
    unjamGoal f s = 
      let x := s.fixture f
      let st := unjamState x c.liveMask s.clock.phase
      s.told f { x with state := st, scoring := { x.scoring with
        jamFromGrace := false
        graceLeft := if st = .grace then x.scoring.graceLeft else 0
        credited := if st = .grace then x.scoring.credited else none } } .unjam 0 0 0 := by
  simp only [unjamGoal, hc, State.told]

theorem jamGoal_eq (s : State) (f : FixtureNo) : jamGoal f s = s.told f { s.fixture f with
    state := .jammed, scoring := { (s.fixture f).scoring with jamFromGrace := (s.fixture f).state == .grace } }
    .jam 0 0 0 := rfl

theorem State.jamFlag_of {s : State} {f : FixtureNo} (h : (s.fixture f).state = .jammed) : s.jamFlag = true :=
  List.any_eq_true.mpr ⟨f, mem_fixtureNumbers f, by simp [h]⟩

/-- Settles O33: JAM and UNJAM come once the missing time has passed, and tell the goal's new record. -/
theorem goalsJamAndUnjam : Obligations.GoalsJamAndUnjam := by
  unfold Obligations.GoalsJamAndUnjam
  intro s f c credit values grace jamT hready hc hp hdead hphase
  have hk : c.kind = .goal := by simp [FixtureConfig.kind, KindParams.kind, hp]
  have live := Fixture.liveGoal_of hc hk hdead
  refine ⟨fun hstate hinput _ => ?_, fun hstate hinput _ => ?_⟩
  · have hwait : jamWait f s = some (jamT * 100000 - (s.fixture f).scoring.jamTimer) := by
      simp [jamWait, hc, hp, live, hstate, hinput, hphase, jamTime, Config.tenth]
    refine ⟨_, onExpiry_some hwait, ?_⟩
    generalize jamT * 100000 - (s.fixture f).scoring.jamTimer = d
    rw [jamGoal_eq, State.told_line, State.told_holdOff]
    refine ⟨by rw [State.told_fixture], State.jamFlag_of (f := f) (by rw [State.told_fixture]), ?_, rfl,
      (State.told_reportsAs ..).picture, rfl, State.told_restAs ..⟩
    rw [State.told_fixture, State.advance_fixture_state]
  · have hwait : unjamWait f s = some (1000000 - (s.fixture f).scoring.jamTimer) := by
      simp [unjamWait, live, hstate, hinput, hphase, Config.unjamTime, Config.ms]
    refine ⟨_, onExpiry_some hwait, ?_⟩
    generalize 1000000 - (s.fixture f).scoring.jamTimer = d
    rw [unjamGoal_eq ((s.advance_fixture_config d f).trans hc), State.told_line, State.told_holdOff, State.told_fixture]
    refine ⟨s.advance_pieces d f, rfl, ?_, rfl, (State.told_reportsAs ..).picture, rfl, State.told_restAs ..⟩
    simp [unjamState, Option.isSome_iff_ne_none]

/-! ## Pieces (R57–R62) -/

/-- A station as a piece has been counted at a goal and credited to a side (R60, R61). -/
def State.scored (s : State) (f : FixtureNo) (side : Side) (points : Nat) : State :=
  let x := s.fixture f
  let s1 := s.setFixture f { x with scoring := { x.scoring with pieces := min Config.countMax (x.scoring.pieces + 1) } }
  { s1 with engine := { s1.engine with points := addPoints s1.engine.points side points } }

theorem State.scored_fixture (s : State) (f : FixtureNo) (side : Side) (points : Nat) :
    (s.scored f side points).fixture f = { s.fixture f with
      scoring := { (s.fixture f).scoring with pieces := min Config.countMax ((s.fixture f).scoring.pieces + 1) } } :=
  State.setFixture_fixture_same s f _

theorem reportsAs_scored (s : State) (f : FixtureNo) (side : Side) (points : Nat) : ReportsAs s (s.scored f side points) :=
  ⟨rfl, rfl, rfl, rfl, rfl⟩

/-- The number of the robot last seen at a goal, 0 for none (R59, R62). -/
def State.lastSeenRobot (s : State) (c : FixtureConfig) : Robot :=
  match s.lastSeen c with
  | some e => e.robot
  | none => 0

/-- A piece counted at a goal without an on-change list: counted, told as SCORE, and shown. -/
theorem countPiece_noList {c : FixtureConfig} (hlist : c.firstList = none) (s : State) (f : FixtureNo)
    (rule : Option CreditRule) (values : PerPhase) (phase : Phase) : countPiece s f c rule values phase =
      ((((s.scored f (s.creditSide c rule) (values.get phase)).createEvent (.score phase) (some f) (s.lastSeenRobot c)
        (s.creditSide c rule) (if s.creditSide c rule = 0 then 0 else values.get phase)).raiseChange).startTransient f
        .scored) := by
  simp only [countPiece, FixtureConfig.startTask, hlist, settle_nil]
  rfl

theorem State.startTransient_fixture (s : State) (f : FixtureNo) (x : Transient) : (s.startTransient f x).fixture f =
    { s.fixture f with
      transient := some x
      transientLeft := Config.transientTime
      indicator := indicatorOf s.clock.phase
        { s.fixture f with transient := some x, transientLeft := Config.transientTime } } := by
  simp [State.startTransient, State.refreshIndicator_fixture]

theorem restAs_startTransient (s : State) (f : FixtureNo) (x : Transient) : RestAs s (s.startTransient f x) f :=
  (restAs_setFixture s f _).trans (restAs_refreshIndicator _ f)

/-- R57: what a piece comes to at a goal. -/
theorem takePiece_goal {s : State} {f : FixtureNo} {c : FixtureConfig} {credit : Option CreditRule} {values : PerPhase}
    {grace jamT : Nat} (hc : (s.fixture f).config = some c) (hp : c.params = .goal credit values grace jamT)
    (hphase : s.clock.phase ≠ .halted) (phase : Phase)
    (h : ((s.fixture f).state = .counting ∧ phase = s.clock.phase) ∨
      ((s.fixture f).state = .grace ∧ (s.fixture f).scoring.credited = some phase)) :
    takePiece s f = countPiece s f c credit values phase := by
  rcases h with ⟨hstate, rfl⟩ | ⟨hstate, hcredited⟩
  · simp [takePiece, hc, hp, hphase, hstate]
  · simp [takePiece, hc, hp, hphase, hstate, hcredited]

/-- Settles O36: a piece that counts is `countPiece_noList`; elsewhere `takePiece` leaves the state. -/
theorem pieceIsCounted : Obligations.PieceIsCounted := by
  unfold Obligations.PieceIsCounted
  intro s f c credit values grace jamT hc hp hlist
  refine ⟨fun phase hphase hcounts => ?_, fun hidle => ?_⟩
  · have hdead : (s.fixture f).state ≠ .dead := by rcases hcounts with ⟨h, -⟩ | ⟨h, -⟩ <;> simp [h]
    rw [takePiece_goal hc hp hphase phase hcounts, countPiece_noList hlist]
    intro t side robot
    have reports : ReportsAs (s.createEvent (.score phase) (some f) robot side
        (if side = 0 then 0 else values.get phase)).raiseChange t :=
      ((((reportsAs_scored s f side (values.get phase)).createEvent (.score phase) (some f) robot side _).raiseChange).trans
        (reportsAs_setFixture _ f _)).trans (reportsAs_refreshIndicator _ f)
    have rest : RestAs (s.scored f side (values.get phase)) t f :=
      ((restAs_createEvent _ _ _ _ _ _ f).trans (restAs_raiseChange _ f)).trans (restAs_startTransient _ f _)
    obtain ⟨others, points, sideTable, loader, settings, now, clock, inputs, runners, pending⟩ := rest
    refine ⟨points, ?_, reports.line.trans (State.raiseChange_line _), reports.picture,
      fun g hg => (others g hg).trans (State.setFixture_fixture_other s (Ne.symm hg) _), clock, runners, ?_,
      loader, settings, now, ?_, inputs, sideTable, pending⟩
    · simp only [t, State.startTransient_fixture, State.raiseChange_fixture, State.createEvent_fixture,
        State.scored_fixture, State.raiseChange_clock, State.createEvent_clock, indicatorOf, if_neg hdead]
      rfl
    · simp [t, State.startTransient, State.scored]
    · simp [t, State.startTransient, State.scored]
  · rcases hidle with h | h | h <;> simp [takePiece, hc, hp, h]

end Sys2Proof.Machine
end

section
/-! Proofs for 03_zones_and_goals.md, part 2: what the tasks that one occurrence sets off leave of the fixtures (R27,
R34–R36, R40–R42, R141–R149): of each fixture all but its hold, and of one that is no DISPENSER everything, where no task
on the stack is at its hold. -/

namespace Sys2Proof.Machine

/-! ## Tasks of the runners -/

/-- The fixture at whose hold a task works. A report may be about any fixture, and is taken up by a DISPENSER alone. -/
def Task.hold? (t : Task) : Option FixtureNo :=
  match t with
  | .release f _ | .releaseTail f _ _ _ | .promote f | .grant f _ _ _ _ | .phaseRelease f | .phaseTail f _ _ => some f
  | .arrive _ | .moveOn _ | .unitFreed _ | .abortTail _ _ | .nextList _ | .start _ _ | .report _ _ => none

theorem playsOnly_setPulse (s : State) (p : Pulse) : PlaysOnly s { s with pulse := p } := rfl

theorem playsOnly_performStart (s : State) (r : RunnerId) (t : Start) : PlaysOnly s (performStart s r t).1 := by
  unfold performStart
  dsimp only
  split
  · exact .refl s
  · split
    · exact playsOnly_setRunner s r _
    all_goals
      split
      · exact playsOnly_setRunner s r _
      · exact (onlyReports_createEvent s _ _ _ _ _).playsOnly

theorem playsOnly_issue (s : State) (r : RunnerId) (u : UnitNo) (t : Step) : PlaysOnly s (issue s r u t).1 := by
  unfold issue
  dsimp only
  split <;> exact (playsOnly_setPulse s _).trans (playsOnly_setRunner _ r _)

theorem playsOnly_abortAt (s : State) (r : RunnerId) (i : StepNo) : PlaysOnly s (abortAt s r i).1 :=
  (playsOnly_setPulse s _).trans (playsOnly_setRunner _ r _)

theorem playsOnly_performArrive (s : State) (r : RunnerId) : PlaysOnly s (performArrive s r).1 := by
  unfold performArrive
  dsimp only
  split
  · exact .refl s
  · split
    · exact playsOnly_abortAt s r _
    · split
      · exact playsOnly_setRunner s r _
      · split
        · exact playsOnly_issue s r _ _
        · exact playsOnly_setRunner s r _

theorem playsOnly_performMoveOn (s : State) (r : RunnerId) : PlaysOnly s (performMoveOn s r).1 := by
  unfold performMoveOn
  dsimp only
  split
  · exact .refl s
  · split
    · split <;> exact playsOnly_setRunner s r _
    · split
      · exact playsOnly_setRunner s r _
      · exact playsOnly_abortAt s r _

theorem playsOnly_performUnitFreed (s : State) (u : UnitNo) : PlaysOnly s (performUnitFreed s u).1 := by
  unfold performUnitFreed
  split
  · exact .refl s
  · split
    · exact .refl s
    · split
      · exact .refl s
      · exact playsOnly_issue s _ u _

theorem playsOnly_performAbortTail (s : State) (r : RunnerId) (i : StepNo) : PlaysOnly s (performAbortTail s r i).1 := by
  unfold performAbortTail
  split
  · exact .refl s
  · exact (onlyReports_createEvent s _ _ _ _ _).playsOnly.trans (playsOnly_setRunnerFault _)

theorem playsOnly_performNextList (s : State) (r : RunnerId) : PlaysOnly s (performNextList s r).1 := by
  unfold performNextList
  dsimp only
  split <;> exact playsOnly_setRunner s r _

/-! ## Tasks at a hold -/

/-- The record differs in its hold and its indicator alone, its refill count standing. -/
structure Fixture.HoldOnly (x y : Fixture) : Prop where
  eq : y = { x with state := y.state, claims := y.claims, indicator := y.indicator }
  refillCount : y.claims.refillCount = x.claims.refillCount

theorem Fixture.HoldOnly.refl (x : Fixture) : x.HoldOnly x := ⟨rfl, rfl⟩

theorem Fixture.HoldOnly.trans {x y z : Fixture} (h : x.HoldOnly y) (k : y.HoldOnly z) : x.HoldOnly z :=
  ⟨by rw [k.eq, h.eq], k.refillCount.trans h.refillCount⟩

theorem Fixture.HoldOnly.config {x y : Fixture} (h : x.HoldOnly y) : y.config = x.config := by rw [h.eq]

theorem Fixture.HoldOnly.kind? {x y : Fixture} (h : x.HoldOnly y) : y.kind? = x.kind? := by
  unfold Fixture.kind?; rw [h.config]

/-- What the tasks at one fixture's hold leave: the rest of the part, and of this fixture all but its hold. -/
structure HoldAt (f : FixtureNo) (s t : State) : Prop where
  rest : RestAs s t f
  ports : t.ports = s.ports
  here : (s.fixture f).HoldOnly (t.fixture f)

theorem HoldAt.refl (f : FixtureNo) (s : State) : HoldAt f s s := ⟨.refl s f, rfl, .refl _⟩

theorem HoldAt.trans {f : FixtureNo} {s t u : State} (h : HoldAt f s t) (k : HoldAt f t u) : HoldAt f s u :=
  ⟨h.rest.trans k.rest, k.ports.trans h.ports, h.here.trans k.here⟩

theorem holdAt_setFixture (s : State) (f : FixtureNo) {x : Fixture} (h : (s.fixture f).HoldOnly x) :
    HoldAt f s (s.setFixture f x) :=
  ⟨restAs_setFixture s f x, rfl, by rwa [State.setFixture_fixture_same]⟩

theorem holdAt_setClaims (s : State) (f : FixtureNo) {c : Claims} (h : c.refillCount = (s.fixture f).claims.refillCount) :
    HoldAt f s (s.setClaims f c) := holdAt_setFixture s f ⟨rfl, h⟩

theorem OnlyReports.holdAt {s t : State} (h : OnlyReports s t) (f : FixtureNo) : HoldAt f s t :=
  ⟨h.restAs f, by rw [h], by rw [show t.fixture f = s.fixture f by rw [h]; rfl]; exact .refl _⟩

theorem holdAt_makeHoldOff (s : State) (r : Robot) (f : FixtureNo) : HoldAt f s (s.makeHoldOff r f) :=
  ⟨restAs_makeHoldOff s r f f, by simp, by rw [State.makeHoldOff_fixture]; exact .refl _⟩

theorem holdAt_refreshIndicator (s : State) (f : FixtureNo) : HoldAt f s (s.refreshIndicator f) :=
  ⟨restAs_refreshIndicator s f, by simp, by rw [State.refreshIndicator_fixture, if_pos rfl]; exact ⟨rfl, rfl⟩⟩

theorem holdAt_told (s : State) (f : FixtureNo) (k : EventKind) (r : Robot) (side : Side) (v : Nat) :
    HoldAt f s (s.createEvent k (some f) r side v).raiseChange :=
  ((onlyReports_createEvent s _ _ _ _ _).holdAt f).trans ((onlyReports_raiseChange _).holdAt f)

theorem holdAt_performReport (s : State) (f : FixtureNo) (r : Report) : HoldAt f s (performReport s f r).1 := by
  have ends (cause : ReleaseCause) : HoldAt f s (endDispense s f cause).1 := by
    unfold endDispense
    dsimp only
    split <;> exact holdAt_setClaims s f rfl
  unfold performReport
  dsimp only
  split
  · exact .refl f s
  · split
    · exact holdAt_setClaims s f rfl
    · exact .refl f s
    all_goals exact ends _

theorem holdAt_performRelease (s : State) (f : FixtureNo) (cause : ReleaseCause) :
    HoldAt f s (performRelease s f cause).1 := by
  unfold performRelease
  dsimp only
  split
  · exact holdAt_setFixture s f ⟨rfl, rfl⟩
  · exact .refl f s

theorem holdAt_performReleaseTail (s : State) (f : FixtureNo) (robot : Robot) (side : Side) (cause : ReleaseCause) :
    HoldAt f s (performReleaseTail s f robot side cause).1 := by
  have told := holdAt_told s f (.release cause) robot side ((s.fixture f).eventValue side)
  unfold performReleaseTail
  dsimp only
  split
  · exact told.trans (holdAt_makeHoldOff _ _ f)
  · exact told

theorem holdAt_performPromote (s : State) (f : FixtureNo) : HoldAt f s (performPromote s f).1 := by
  unfold performPromote
  dsimp only
  split
  · exact .refl f s
  · split
    · exact (holdAt_setFixture s f (by exact ⟨rfl, rfl⟩)).trans (holdAt_refreshIndicator _ f)
    · split
      · exact (holdAt_setClaims s f (by rfl)).trans (holdAt_makeHoldOff _ _ f)
      · exact holdAt_setClaims s f rfl

theorem holdAt_performGrant (s : State) (f : FixtureNo) (robot : Robot) (side : Side) (seen age : Nat) :
    HoldAt f s (performGrant s f robot side seen age).1 := by
  unfold performGrant
  dsimp only
  split
  · exact .refl f s
  · exact ((holdAt_setFixture s f (by exact ⟨rfl, rfl⟩)).trans (holdAt_told _ f _ _ _ _)).trans
      (holdAt_refreshIndicator _ f)

theorem holdAt_performPhaseRelease (s : State) (f : FixtureNo) : HoldAt f s (performPhaseRelease s f).1 := by
  unfold performPhaseRelease
  dsimp only
  split
  · exact holdAt_setFixture s f ⟨rfl, rfl⟩
  · exact .refl f s

theorem holdAt_performPhaseTail (s : State) (f : FixtureNo) (robot : Robot) (side : Side) :
    HoldAt f s (performPhaseTail s f robot side).1 :=
  ((((onlyReports_createEvent s _ _ _ _ _).holdAt f).trans (holdAt_setClaims _ f (by rfl))).trans
    ((onlyReports_raiseChange _).holdAt f)).trans (holdAt_refreshIndicator _ f)

/-! ## Every task -/

/-- What no task touches: clock, beacon ports and side points, and of each fixture all but its hold. -/
structure HoldsOnly (s t : State) : Prop where
  clock : t.clock = s.clock
  ports : t.ports = s.ports
  points : t.engine.points = s.engine.points
  fixtures : ∀ f, (s.fixture f).HoldOnly (t.fixture f)

theorem HoldsOnly.refl (s : State) : HoldsOnly s s := ⟨rfl, rfl, rfl, fun _ => .refl _⟩

theorem HoldsOnly.trans {s t u : State} (h : HoldsOnly s t) (k : HoldsOnly t u) : HoldsOnly s u :=
  ⟨k.clock.trans h.clock, k.ports.trans h.ports, k.points.trans h.points, fun f => (h.fixtures f).trans (k.fixtures f)⟩

theorem HoldAt.holdsOnly {f : FixtureNo} {s t : State} (h : HoldAt f s t) : HoldsOnly s t := by
  obtain ⟨⟨others, points, -, -, -, -, clock, -⟩, ports, here⟩ := h
  refine ⟨clock, ports, points, fun g => ?_⟩
  by_cases hg : g = f
  · rw [hg]; exact here
  · rw [others g hg]; exact .refl _

theorem PlaysOnly.holdsOnly {s t : State} (h : PlaysOnly s t) : HoldsOnly s t :=
  ⟨h.clock, by rw [h], by rw [h], fun f => by rw [h.fixture f]; exact .refl _⟩

/-- Every task is one of a runner, a report, or at one fixture's hold. -/
theorem perform_cases (s : State) (t : Task) :
    (t.hold? = none ∧ PlaysOnly s (perform s t).1) ∨ (∃ f r, t = .report f r) ∨
      ∃ f, t.hold? = some f ∧ HoldAt f s (perform s t).1 := by
  cases t with
  | arrive r => exact .inl ⟨rfl, playsOnly_performArrive s r⟩
  | moveOn r => exact .inl ⟨rfl, playsOnly_performMoveOn s r⟩
  | unitFreed u => exact .inl ⟨rfl, playsOnly_performUnitFreed s u⟩
  | abortTail r i => exact .inl ⟨rfl, playsOnly_performAbortTail s r i⟩
  | nextList r => exact .inl ⟨rfl, playsOnly_performNextList s r⟩
  | start r t => exact .inl ⟨rfl, playsOnly_performStart s r t⟩
  | report f r => exact .inr (.inl ⟨f, r, rfl⟩)
  | release f cause => exact .inr (.inr ⟨f, rfl, holdAt_performRelease s f cause⟩)
  | releaseTail f robot side cause => exact .inr (.inr ⟨f, rfl, holdAt_performReleaseTail s f robot side cause⟩)
  | promote f => exact .inr (.inr ⟨f, rfl, holdAt_performPromote s f⟩)
  | grant f robot side seen age => exact .inr (.inr ⟨f, rfl, holdAt_performGrant s f robot side seen age⟩)
  | phaseRelease f => exact .inr (.inr ⟨f, rfl, holdAt_performPhaseRelease s f⟩)
  | phaseTail f robot side => exact .inr (.inr ⟨f, rfl, holdAt_performPhaseTail s f robot side⟩)

theorem holdsOnly_perform (s : State) (t : Task) : HoldsOnly s (perform s t).1 := by
  rcases perform_cases s t with ⟨-, plays⟩ | ⟨f, r, rfl⟩ | ⟨f, -, held⟩
  · exact plays.holdsOnly
  · exact (holdAt_performReport s f r).holdsOnly
  · exact held.holdsOnly

theorem holdsOnly_settle (s : State) (ts : List Task) : HoldsOnly s (settle s ts) :=
  settle_keeps (HoldsOnly s) (fun u t h => h.trans (holdsOnly_perform u t)) s ts (.refl s)

/-! ## Stacks on which every hold is a DISPENSER's -/

/-- None of these tasks is at a hold. -/
def NoHold (ts : List Task) : Prop := ∀ t ∈ ts, t.hold? = none

theorem noHold_nil : NoHold [] := fun _ h => nomatch h

theorem NoHold.append {ts us : List Task} (h : NoHold ts) (k : NoHold us) : NoHold (ts ++ us) :=
  fun t ht => (List.mem_append.mp ht).elim (h t) (k t)

theorem noHold_singleton {t : Task} (h : t.hold? = none) : NoHold [t] := fun _ hu => List.mem_singleton.mp hu ▸ h

theorem noHold_reportTask (t : Start) (r : Report) : NoHold (t.reportTask r) := by
  unfold Start.reportTask
  split
  · exact noHold_singleton rfl
  all_goals exact noHold_nil

theorem noHold_startTask (c : FixtureConfig) (f : FixtureNo) (l : Option StepNo) (p : Purpose) :
    NoHold (c.startTask f l p) := by
  unfold FixtureConfig.startTask
  split
  · exact noHold_singleton rfl
  · exact noHold_nil

theorem noHold_issue (s : State) (r : RunnerId) (u : UnitNo) (t : Step) : NoHold (issue s r u t).2 := by
  unfold issue
  dsimp only
  split
  · exact noHold_singleton rfl
  · exact noHold_nil

theorem noHold_abortAt (s : State) (r : RunnerId) (i : StepNo) : NoHold (abortAt s r i).2 :=
  .append (fun t ht => by obtain ⟨u, -, rfl⟩ := List.mem_map.mp ht; rfl) (noHold_singleton rfl)

theorem noHold_performStart (s : State) (r : RunnerId) (t : Start) : NoHold (performStart s r t).2 := by
  unfold performStart
  dsimp only
  split
  · exact noHold_reportTask t _
  · split
    · exact (noHold_reportTask t _).append (noHold_singleton rfl)
    all_goals split <;> exact noHold_reportTask t _

theorem noHold_performArrive (s : State) (r : RunnerId) : NoHold (performArrive s r).2 := by
  unfold performArrive
  dsimp only
  split
  · exact noHold_nil
  · split
    · exact noHold_abortAt s r _
    · split
      · exact noHold_nil
      · split
        · exact noHold_issue s r _ _
        · exact noHold_nil

theorem noHold_performMoveOn (s : State) (r : RunnerId) : NoHold (performMoveOn s r).2 := by
  unfold performMoveOn
  dsimp only
  split
  · exact noHold_nil
  · split
    · split
      · exact (noHold_reportTask _ _).append (noHold_singleton rfl)
      · exact noHold_nil
    · split
      · exact noHold_singleton rfl
      · exact noHold_abortAt s r _

theorem noHold_performUnitFreed (s : State) (u : UnitNo) : NoHold (performUnitFreed s u).2 := by
  unfold performUnitFreed
  split
  · exact noHold_nil
  · split
    · exact noHold_nil
    · split
      · exact noHold_nil
      · exact noHold_issue s _ u _

theorem noHold_performAbortTail (s : State) (r : RunnerId) (i : StepNo) : NoHold (performAbortTail s r i).2 := by
  unfold performAbortTail
  split
  · exact noHold_singleton rfl
  · exact (noHold_reportTask _ _).append (noHold_singleton rfl)

theorem noHold_performNextList (s : State) (r : RunnerId) : NoHold (performNextList s r).2 := by
  unfold performNextList
  dsimp only
  split
  · exact noHold_nil
  · exact noHold_singleton rfl

/-- Every hold on the stack is that of a DISPENSER. -/
def AtDispensers (s : State) (ts : List Task) : Prop :=
  ∀ t ∈ ts, ∀ f, t.hold? = some f → (s.fixture f).kind? = some .dispenser

theorem NoHold.atDispensers {ts : List Task} (h : NoHold ts) (s : State) : AtDispensers s ts :=
  fun t ht f hf => by rw [h t ht] at hf; cases hf

theorem AtDispensers.append {s : State} {ts us : List Task} (h : AtDispensers s ts) (k : AtDispensers s us) :
    AtDispensers s (ts ++ us) := fun t ht => (List.mem_append.mp ht).elim (h t) (k t)

theorem atDispensers_singleton {s : State} {t : Task}
    (h : ∀ f, t.hold? = some f → (s.fixture f).kind? = some .dispenser) : AtDispensers s [t] :=
  fun _ hu => List.mem_singleton.mp hu ▸ h

/-- R40: only a DISPENSER takes up a report. -/
theorem performReport_dispenser (s : State) (f : FixtureNo) (r : Report) :
    performReport s f r = (s, []) ∨ (s.fixture f).kind? = some .dispenser := by
  by_cases hk : (s.fixture f).kind? = some .dispenser
  · exact .inr hk
  · exact .inl (if_pos hk)

/-- What a task at holds of DISPENSERs sets off is so again. -/
theorem atDispensers_perform {s : State} {t : Task} (h : ∀ f, t.hold? = some f → (s.fixture f).kind? = some .dispenser) :
    AtDispensers s (perform s t).2 := by
  have followed {c : FixtureConfig} {f : FixtureNo} {l : Option StepNo} {p : Purpose} {u : Task}
      (hu : u.hold? = some f) (hf : (s.fixture f).kind? = some .dispenser) : AtDispensers s (c.startTask f l p ++ [u]) :=
    ((noHold_startTask c f l p).atDispensers s).append
      (atDispensers_singleton fun g hg => Option.some.inj (hu.symm.trans hg) ▸ hf)
  have alone {f : FixtureNo} {u : Task} (hu : u.hold? = some f) (hf : (s.fixture f).kind? = some .dispenser) :
      AtDispensers s [u] := atDispensers_singleton fun g hg => Option.some.inj (hu.symm.trans hg) ▸ hf
  cases t with
  | arrive r => exact (noHold_performArrive s r).atDispensers s
  | moveOn r => exact (noHold_performMoveOn s r).atDispensers s
  | unitFreed u => exact (noHold_performUnitFreed s u).atDispensers s
  | abortTail r i => exact (noHold_performAbortTail s r i).atDispensers s
  | nextList r => exact (noHold_performNextList s r).atDispensers s
  | start r t => exact (noHold_performStart s r t).atDispensers s
  | report f r =>
    show AtDispensers s (performReport s f r).2
    rcases performReport_dispenser s f r with e | hk
    · rw [e]; exact noHold_nil.atDispensers s
    · have ends (cause : ReleaseCause) : AtDispensers s (endDispense s f cause).2 := by
        unfold endDispense
        dsimp only
        split
        · exact alone rfl hk
        · exact noHold_nil.atDispensers s
      unfold performReport
      dsimp only
      split
      · exact noHold_nil.atDispensers s
      · split
        · exact noHold_nil.atDispensers s
        · split
          · exact alone rfl hk
          · exact noHold_nil.atDispensers s
        all_goals exact ends _
  | release f cause =>
    show AtDispensers s (performRelease s f cause).2
    unfold performRelease
    dsimp only
    split
    · exact followed rfl (h f rfl)
    · exact noHold_nil.atDispensers s
  | releaseTail f robot side cause => exact alone rfl (h f rfl)
  | promote f =>
    show AtDispensers s (performPromote s f).2
    unfold performPromote
    dsimp only
    split
    · exact noHold_nil.atDispensers s
    · split
      · exact noHold_nil.atDispensers s
      · split <;> exact alone rfl (h f rfl)
  | grant f robot side seen age =>
    show AtDispensers s (performGrant s f robot side seen age).2
    unfold performGrant
    dsimp only
    split
    · exact noHold_nil.atDispensers s
    · exact (noHold_startTask _ _ _ _).atDispensers s
  | phaseRelease f =>
    show AtDispensers s (performPhaseRelease s f).2
    unfold performPhaseRelease
    dsimp only
    split
    · exact followed rfl (h f rfl)
    · exact noHold_nil.atDispensers s
  | phaseTail f robot side => exact noHold_nil.atDispensers s

/-- A task at holds of DISPENSERs leaves every other fixture wholly as it was. -/
theorem perform_spares {s : State} {t : Task} (h : ∀ f, t.hold? = some f → (s.fixture f).kind? = some .dispenser)
    {g : FixtureNo} (hg : (s.fixture g).kind? ≠ some .dispenser) : (perform s t).1.fixture g = s.fixture g := by
  rcases perform_cases s t with ⟨-, plays⟩ | ⟨f, r, rfl⟩ | ⟨f, hf, held⟩
  · exact plays.fixture g
  · rcases performReport_dispenser s f r with e | hk
    · show (performReport s f r).1.fixture g = _
      rw [e]
    · obtain ⟨⟨others, -⟩, -, -⟩ := holdAt_performReport s f r
      exact others g fun e => hg (e ▸ hk)
  · obtain ⟨⟨others, -⟩, -, -⟩ := held
    exact others g fun e => hg (e ▸ h f hf)

/-- So does the whole of what a stack at holds of DISPENSERs comes to. -/
theorem settle_spares {s : State} {ts : List Task} (h : AtDispensers s ts) {g : FixtureNo}
    (hg : (s.fixture g).kind? ≠ some .dispenser) : (settle s ts).fixture g = s.fixture g := by
  refine (settle_keeps_stack (fun u us => AtDispensers u us ∧ HoldsOnly s u ∧ u.fixture g = s.fixture g)
    (fun u t us hu => ?_) s ts ⟨h, .refl s, rfl⟩).2.2
  obtain ⟨stack, held, same⟩ := hu
  have top := stack t (List.mem_cons_self ..)
  have step := holdsOnly_perform u t
  have kind (f : FixtureNo) : ((perform u t).1.fixture f).kind? = (u.fixture f).kind? := (step.fixtures f).kind?
  refine ⟨fun v hv f hf => ?_, held.trans step, (perform_spares top (same ▸ hg)).trans same⟩
  rw [kind]
  exact ((atDispensers_perform top).append fun w hw => stack w (List.mem_cons_of_mem _ hw)) v hv f hf

end Sys2Proof.Machine
end

section
/-! Proofs for 03_zones_and_goals.md, part 3: the zone tick (R49–R55, Table 3-1). -/

namespace Sys2Proof.Machine

/-! ## Table 3-1 -/

/-- R49: a side is present when its rate is not 0; side 0 never is. -/
theorem mem_presentSides (rates : PerSide) (n : Side) : n ∈ presentSides rates ↔ rates.get n ≠ 0 := by
  have member : n ≠ 0 → n ∈ sides := by revert n; decide
  simp only [presentSides, List.mem_filter, bne_iff_ne, and_iff_right_iff_imp]
  exact fun h => member fun e => h (e ▸ rfl)

theorem presentSides_nodup (rates : PerSide) : (presentSides rates).Nodup := List.Nodup.filter _ (by decide)

theorem Control.tick_nobody {rates : PerSide} (h : presentSides rates = []) (z : Control) (cmax : Nat) :
    z.tick cmax rates = z.empty := by simp only [Control.tick, h]

theorem Control.tick_alone {rates : PerSide} {n : Side} (h : presentSides rates = [n]) (z : Control) (cmax : Nat) :
    z.tick cmax rates = z.alone cmax n (rates.get n) := by simp only [Control.tick, h]

theorem Control.tick_contested {rates : PerSide} (h : 2 ≤ (presentSides rates).length) (z : Control) (cmax : Nat) :
    z.tick cmax rates = { z with contested := true } := by
  unfold Control.tick
  split
  · rename_i e; simp [e] at h
  · rename_i e; simp [e] at h
  · rfl

/-- Two sides present are two on the list of them. -/
theorem two_le_presentSides {rates : PerSide} {m n : Side} (hne : m ≠ n) (hm : rates.get m ≠ 0) (hn : rates.get n ≠ 0) :
    2 ≤ (presentSides rates).length := by
  have sub : [m, n].Subperm (presentSides rates) := List.subperm_of_subset (by simp [hne]) fun x hx => by
    rw [mem_presentSides]
    rcases List.mem_cons.mp hx with rfl | hx
    · exact hm
    · exact List.mem_singleton.mp hx ▸ hn
  exact sub.length_le

theorem presentSides_nobody {rates : PerSide} (h : ∀ n : Side, rates.get n = 0) : presentSides rates = [] :=
  List.eq_nil_iff_forall_not_mem.mpr fun n hn => (mem_presentSides rates n).mp hn (h n)

theorem presentSides_alone {rates : PerSide} {n : Side} (hn : rates.get n ≠ 0) (h : ∀ m : Side, m ≠ n → rates.get m = 0) :
    presentSides rates = [n] := by
  have only : ∀ m ∈ presentSides rates, m = n := fun m hm => by
    by_contra hne
    exact (mem_presentSides rates m).mp hm (h m hne)
  refine List.perm_singleton.mp ?_
  exact (List.perm_ext_iff_of_nodup (presentSides_nodup rates) (List.nodup_singleton n)).mpr fun m =>
    ⟨fun hm => List.mem_singleton.mpr (only m hm), fun hm => by
      rw [List.mem_singleton.mp hm, mem_presentSides]; exact hn⟩

/-- A zone tick follows Table 3-1: its three parts are the three branches of `Control.tick`. -/
theorem Control.tick_table (z : Control) (cmax : Nat) (rates : PerSide) :
    ZoneTickTable z (z.tick cmax rates) cmax rates := by
  refine ⟨?_, fun nobody => ?_, fun n hn hother => ?_⟩
  · rintro ⟨m, n, hne, hm, hn⟩
    exact z.tick_contested (two_le_presentSides hne hm hn) cmax
  · rw [z.tick_nobody (presentSides_nobody nobody)]
    unfold Control.empty
    split <;> simp [*]
  · rw [z.tick_alone (presentSides_alone hn hother)]
    unfold Control.alone
    dsimp only
    split
    · split
      · split <;> simp [*]
      · split <;> simp [*]
    · split
      · simp [*]
      · split <;> simp [*]

/-! ## What a zone tick hands on (R54, R55) -/

/-- A zone tick up to its on-change list. -/
def State.zoned (s : State) (f : FixtureNo) (w : Control) : State :=
  (zoneHandsOn (s.setFixture f { s.fixture f with control := w }) f (s.fixture f).control w).refreshIndicator f

theorem zoneTick_eq (s : State) (f : FixtureNo) (c : FixtureConfig) (cmax rate : Nat) :
    let z := (s.fixture f).control
    let w := z.tick cmax (s.zoneRates c rate)
    zoneTick s f c cmax rate =
      settle (s.zoned f w) (if w.owner = z.owner then [] else c.startTask f c.firstList .change) := by
  intro z w
  have handed : (let s1 := s.setFixture f { s.fixture f with control := w }
      let s2 := if w.owner = z.owner then s1 else s1.createEvent .owner (some f) 0 w.owner z.owner.val
      if w.owner = z.owner ∧ w.level = z.level then s2 else s2.raiseChange) =
      zoneHandsOn (s.setFixture f { s.fixture f with control := w }) f z w := by
    unfold zoneHandsOn
    by_cases howner : w.owner = z.owner
    · by_cases hlevel : w.level = z.level <;> simp [howner, hlevel]
    · simp [howner]
  unfold zoneTick State.zoned
  rw [← handed]
  split <;> simp_all [z, w]

theorem onlyReports_zoneHandsOn (s : State) (f : FixtureNo) (z w : Control) : OnlyReports s (zoneHandsOn s f z w) := by
  unfold zoneHandsOn
  split
  · exact (onlyReports_createEvent s _ _ _ _ _).trans (onlyReports_raiseChange _)
  · split
    · exact onlyReports_raiseChange s
    · exact .refl s

theorem ReportsAs.zoneHandsOn {s t : State} (h : ReportsAs s t) (f : FixtureNo) (z w : Control) :
    ReportsAs (zoneHandsOn s f z w) (zoneHandsOn t f z w) := by
  unfold Machine.zoneHandsOn
  split
  · exact (h.createEvent _ _ _ _ _).raiseChange
  · split
    · exact h.raiseChange
    · exact h

section
variable (s : State) (f : FixtureNo) (w : Control)

theorem State.zoned_restAs : RestAs s (s.zoned f w) f :=
  ((restAs_setFixture s f _).trans ((onlyReports_zoneHandsOn _ f _ w).restAs f)).trans (restAs_refreshIndicator _ f)

theorem State.zoned_reportsAs : ReportsAs (zoneHandsOn s f (s.fixture f).control w) (s.zoned f w) :=
  ((reportsAs_setFixture s f _).zoneHandsOn f _ w).trans (reportsAs_refreshIndicator _ f)

theorem State.zoned_fixture : (s.zoned f w).fixture f = { s.fixture f with
    control := w, indicator := indicatorOf s.clock.phase { s.fixture f with control := w } } := by
  have handed := onlyReports_zoneHandsOn (s.setFixture f { s.fixture f with control := w }) f (s.fixture f).control w
  have same : (zoneHandsOn (s.setFixture f { s.fixture f with control := w }) f (s.fixture f).control w).fixture f =
      { s.fixture f with control := w } := by
    rw [handed]; exact State.setFixture_fixture_same ..
  rw [State.zoned, State.refreshIndicator_fixture, if_pos rfl, same, handed]
  rfl

@[simp] theorem State.zoned_ports : (s.zoned f w).ports = s.ports := by
  rw [State.zoned, State.refreshIndicator_ports, onlyReports_zoneHandsOn]
  rfl

@[simp] theorem State.zoned_holdOff : (s.zoned f w).engine.holdOff = s.engine.holdOff := by
  rw [State.zoned, State.refreshIndicator_holdOff, onlyReports_zoneHandsOn]
  rfl

end

section
variable (s : State) (f : FixtureNo) (c : FixtureConfig) (cmax rate : Nat)

/-- What a zone tick makes of the zone's control. -/
def State.tickedControl : Control := (s.fixture f).control.tick cmax (s.zoneRates c rate)

/-- The on-change list plays no part in a zone's control. -/
theorem zoneTick_control : ((zoneTick s f c cmax rate).fixture f).control = s.tickedControl f c cmax rate := by
  rw [zoneTick_eq, ((holdsOnly_settle _ _).fixtures f).eq, State.zoned_fixture]
  rfl

/-- Without an on-change list a zone tick is the whole of it. -/
theorem zoneTick_noList (hlist : c.firstList = none) :
    zoneTick s f c cmax rate = s.zoned f (s.tickedControl f c cmax rate) := by
  rw [zoneTick_eq]
  simp only [FixtureConfig.startTask, hlist, ite_self, settle_nil]
  rfl

/-- R55: a busy runner with room queues the on-change list. -/
theorem zoneTick_queues {i : StepNo} (hlist : c.firstList = some i) (busy : (s.runner c.runner).mode ≠ .idle)
    (room : (s.runner c.runner).queue.length < 4) (hphase : s.clock.phase ≠ .halted) :
    (zoneTick s f c cmax rate).runner c.runner = { s.runner c.runner with
      queue := (s.runner c.runner).queue ++
        if (s.tickedControl f c cmax rate).owner ≠ (s.fixture f).control.owner then [⟨i, f, .change⟩] else [] } := by
  obtain ⟨-, -, -, -, -, -, clock, -, runners, -⟩ := s.zoned_restAs f (s.tickedControl f c cmax rate)
  have same : (s.zoned f (s.tickedControl f c cmax rate)).runner c.runner = s.runner c.runner := by
    unfold State.runner; rw [runners]
  rw [zoneTick_eq]
  show (settle (s.zoned f (s.tickedControl f c cmax rate)) (if (s.tickedControl f c cmax rate).owner = _ then _ else _)).runner
    c.runner = _
  split
  · rename_i howner
    rw [settle_nil, same, if_neg (not_not.mpr howner), List.append_nil]
  · rename_i howner
    have started := performStart_room ⟨i, f, .change⟩ (clock ▸ hphase) (same ▸ busy) (same ▸ room)
    simp only [FixtureConfig.startTask, hlist]
    rw [settle_step (t := .start c.runner ⟨i, f, .change⟩) started]
    simp [Start.reportTask, same]

end

end Sys2Proof.Machine
end

section
/-! Proofs for 03_zones_and_goals.md, part 4: O59 settled: a counted tick comes to the zone, and what follows leaves it. -/

namespace Sys2Proof.Machine

/-! ## A fixture's tick spares the others (R2, R30, R39, R48) -/

/-- The beacon ports, the phase and the fixture's configuration and refill count stand, and all of a fixture that is no
DISPENSER. -/
structure Spares (f : FixtureNo) (s t : State) : Prop where
  ports : t.ports = s.ports
  phase : t.clock.phase = s.clock.phase
  held : (s.fixture f).HoldOnly (t.fixture f)
  whole : (s.fixture f).kind? ≠ some .dispenser → t.fixture f = s.fixture f

theorem Spares.refl (f : FixtureNo) (s : State) : Spares f s s := ⟨rfl, rfl, .refl _, fun _ => rfl⟩

theorem Spares.trans {f : FixtureNo} {s t u : State} (h : Spares f s t) (k : Spares f t u) : Spares f s u :=
  ⟨k.ports.trans h.ports, k.phase.trans h.phase, h.held.trans k.held,
    fun hk => (k.whole (h.held.kind? ▸ hk)).trans (h.whole hk)⟩

theorem Spares.of_fixture {f : FixtureNo} {s t : State} (ports : t.ports = s.ports)
    (phase : t.clock.phase = s.clock.phase) (fixture : t.fixture f = s.fixture f) : Spares f s t :=
  ⟨ports, phase, by rw [fixture]; exact .refl _, fun _ => fixture⟩

/-- What a stack sets off that is at no hold. -/
theorem spares_settle (f : FixtureNo) (s : State) {ts : List Task} (h : NoHold ts) : Spares f s (settle s ts) :=
  have held := holdsOnly_settle s ts
  ⟨held.ports, by rw [held.clock], held.fixtures f, settle_spares (h.atDispensers s)⟩

theorem spares_zoneTick (s : State) {f g : FixtureNo} (hg : f ≠ g) (c : FixtureConfig) (cmax rate : Nat) :
    Spares f s (zoneTick s g c cmax rate) := by
  rw [zoneTick_eq]
  refine .trans (t := s.zoned g (s.tickedControl g c cmax rate)) ?_ (spares_settle f _ ?_)
  · obtain ⟨others, -, -, -, -, -, clock, -⟩ := s.zoned_restAs g (s.tickedControl g c cmax rate)
    exact .of_fixture (s.zoned_ports g _) (by rw [clock]) (others f hg)
  · split
    · exact noHold_nil
    · exact noHold_startTask _ _ _ _

theorem spares_setClaims (s : State) {f g : FixtureNo} (hg : f ≠ g) (c : Claims) : Spares f s (s.setClaims g c) :=
  .of_fixture rfl rfl (by rw [State.setClaims_fixture, if_neg (Ne.symm hg)])

theorem spares_fixtureTick (s : State) {f g : FixtureNo} (hg : f ≠ g) : Spares f s (fixtureTick s g) := by
  unfold fixtureTick
  dsimp only
  split
  · exact .refl f s
  · split
    · exact .refl f s
    · split
      · unfold gateTick
        dsimp only
        split
        · exact spares_setClaims s hg _
        · exact .refl f s
      · unfold dispenserTick
        dsimp only
        split
        · exact spares_setClaims s hg _
        · exact .refl f s
      · split
        · exact spares_zoneTick s hg _ _ _
        · exact .refl f s
      · exact .refl f s

theorem spares_ticks {f : FixtureNo} (fs : List FixtureNo) (h : f ∉ fs) (s : State) :
    Spares f s (fs.foldl fixtureTick s) :=
  List.foldlRecOn fs fixtureTick (motive := Spares f s) (.refl f s)
    fun _ hu _ hg => hu.trans (spares_fixtureTick _ fun e => h (e ▸ hg))

/-- A tick that goes on with other fixtures, as far as it comes. -/
theorem spares_tickOn {f : FixtureNo} (fs : List FixtureNo) (h : f ∉ fs) (s : State) : Spares f s (tickOn fs s) := by
  obtain ⟨done, rest, e, t⟩ := tickOn_split fs s
  rw [t]
  exact (spares_ticks done (fun hf => h (e ▸ List.mem_append_left rest hf)) s).trans (.of_fixture rfl rfl rfl)

/-! ## Fixtures whose tick calls for no command (log entry 11) -/

/-- The fixture's next tick reaches neither a hold limit nor a refill period (R30, R39). -/
def Fixture.TicksQuietly (x : Fixture) : Prop :=
  ∀ d, x.config = some d →
    (∀ limit lost h, d.params = .gate limit lost → x.claims.holder = some h → limit = 0 ∨ h.held + 1 < limit) ∧
      ∀ lost acap initial period, d.params = .dispenser lost acap initial period →
        period = 0 ∨ x.claims.refillCount + 1 < period

theorem Spares.ticksQuietly {f : FixtureNo} {s t : State} (h : Spares f s t) (quiet : (s.fixture f).TicksQuietly) :
    (t.fixture f).TicksQuietly := by
  intro d hd
  rw [h.held.config] at hd
  obtain ⟨gate, dispenser⟩ := quiet d hd
  refine ⟨fun limit lost k hp hk => gate limit lost k hp ?_, fun lost acap initial period hp => ?_⟩
  · rwa [h.whole (by simp [Fixture.kind?, hd, FixtureConfig.kind, hp, KindParams.kind])] at hk
  · rw [h.held.refillCount]
    exact dispenser lost acap initial period hp

theorem zoneTick_config (s : State) (f : FixtureNo) (c : FixtureConfig) (cmax rate : Nat) :
    ((zoneTick s f c cmax rate).fixture f).config = (s.fixture f).config := by
  rw [zoneTick_eq, ((holdsOnly_settle _ _).fixtures f).config, State.zoned_fixture]

theorem fixtureTick_unconfigured {s : State} {f : FixtureNo} (hc : (s.fixture f).config = none) : fixtureTick s f = s := by
  simp only [fixtureTick, hc]

theorem fixtureTick_dead {s : State} {f : FixtureNo} (h : (s.fixture f).state = .dead) : fixtureTick s f = s := by
  unfold fixtureTick
  dsimp only
  split
  · rfl
  · exact if_pos h

section
variable {s : State} {f : FixtureNo} {c : FixtureConfig} (hc : (s.fixture f).config = some c)
  (halive : (s.fixture f).state ≠ .dead)
include hc halive

theorem fixtureTick_gate {limit lost : Nat} (hp : c.params = .gate limit lost) : fixtureTick s f = gateTick s f := by
  simp only [fixtureTick, hc, hp, if_neg halive]

theorem fixtureTick_dispenser {lost acap initial period : Nat} (hp : c.params = .dispenser lost acap initial period) :
    fixtureTick s f = dispenserTick s f c period := by
  simp only [fixtureTick, hc, hp, if_neg halive]

theorem fixtureTick_zone {cmax rate : Nat} (hp : c.params = .zone cmax rate) :
    fixtureTick s f = if (s.fixture f).state = .live then zoneTick s f c cmax rate else s := by
  simp only [fixtureTick, hc, hp, if_neg halive]

end

@[simp] theorem fixtureTick_config (s : State) (f : FixtureNo) :
    ((fixtureTick s f).fixture f).config = (s.fixture f).config := by
  unfold fixtureTick
  dsimp only
  split
  · rfl
  · split
    · rfl
    · split
      · unfold gateTick; dsimp only; split <;> simp
      · unfold dispenserTick; dsimp only; split <;> simp
      · split
        · exact zoneTick_config s f _ _ _
        · rfl
      · rfl

/-- A fixture that is no GATE is never overstayed, and none but a DISPENSER refills. -/
theorem overstayed_of_kind {s : State} {f : FixtureNo} (h : (s.fixture f).kind? ≠ some .gate) : overstayed f s = false := by
  unfold overstayed
  dsimp only
  split
  · rename_i c _ hc _
    split
    · rename_i hp; simp [Fixture.kind?, hc, FixtureConfig.kind, hp, KindParams.kind] at h
    all_goals rfl
  · rfl

theorem refillDue_of_kind {s : State} {f : FixtureNo} (h : (s.fixture f).kind? ≠ some .dispenser) :
    refillDue f s = false := by
  unfold refillDue
  dsimp only
  split
  · rename_i c hc
    split
    · rename_i hp; simp [Fixture.kind?, hc, FixtureConfig.kind, hp, KindParams.kind] at h
    all_goals rfl
  · rfl

theorem overstayed_of_state {s : State} {f : FixtureNo} (h : (s.fixture f).state ≠ .held) : overstayed f s = false := by
  unfold overstayed
  dsimp only
  split
  · split <;> simp [h]
  · rfl

theorem refillDue_dead {s : State} {f : FixtureNo} (h : (s.fixture f).state = .dead) : refillDue f s = false := by
  unfold refillDue
  dsimp only
  split
  · split <;> simp [h]
  · rfl

/-- After its tick such a fixture calls for no OVERSTAY. -/
theorem overstayed_fixtureTick {s : State} {f : FixtureNo} (quiet : (s.fixture f).TicksQuietly) :
    overstayed f (fixtureTick s f) = false := by
  cases hc : (s.fixture f).config with
  | none => rw [fixtureTick_unconfigured hc]; exact overstayed_of_kind (by simp [Fixture.kind?, hc])
  | some c =>
    by_cases halive : (s.fixture f).state = .dead
    · rw [fixtureTick_dead halive]; exact overstayed_of_state (by simp [halive])
    · cases hp : c.params with
      | gate limit lost =>
        rw [fixtureTick_gate hc halive hp]
        unfold gateTick
        dsimp only
        split
        · cases hh : (s.fixture f).claims.holder with
          | none => simp [overstayed, hc]
          | some h =>
            have below := (quiet c hc).1 limit lost h hp hh
            simp [overstayed, hc, hp]
            omega
        · exact overstayed_of_state ‹_›
      | dispenser _ _ _ _ | zone _ _ | goal _ _ _ _ =>
        refine overstayed_of_kind ?_
        simp [Fixture.kind?, fixtureTick_config, hc, FixtureConfig.kind, hp, KindParams.kind]

/-- Nor does it call for a REFILL. -/
theorem refillDue_fixtureTick {s : State} {f : FixtureNo} (quiet : (s.fixture f).TicksQuietly) :
    refillDue f (fixtureTick s f) = false := by
  cases hc : (s.fixture f).config with
  | none => rw [fixtureTick_unconfigured hc]; exact refillDue_of_kind (by simp [Fixture.kind?, hc])
  | some c =>
    by_cases halive : (s.fixture f).state = .dead
    · rw [fixtureTick_dead halive]; exact refillDue_dead halive
    · cases hp : c.params with
      | dispenser lost acap initial period =>
        have below := (quiet c hc).2 lost acap initial period hp
        rw [fixtureTick_dispenser hc halive hp]
        unfold dispenserTick
        dsimp only
        split <;> simp [refillDue, hc, hp] <;> omega
      | gate _ _ | zone _ _ | goal _ _ _ _ =>
        refine refillDue_of_kind ?_
        simp [Fixture.kind?, fixtureTick_config, hc, FixtureConfig.kind, hp, KindParams.kind]

/-- The tick passes over such fixtures to the next. -/
theorem tickOn_quiet {fs : List FixtureNo} (nodup : fs.Nodup) (rest : List FixtureNo) (s : State)
    (quiet : ∀ g ∈ fs, (s.fixture g).TicksQuietly) : tickOn (fs ++ rest) s = tickOn rest (fs.foldl fixtureTick s) := by
  induction fs generalizing s with
  | nil => rfl
  | cons f fs ih =>
    obtain ⟨hf, nodup⟩ := List.nodup_cons.mp nodup
    have here := quiet f (List.mem_cons_self ..)
    rw [List.cons_append, tickOn_goes _ (overstayed_fixtureTick here) (refillDue_fixtureTick here), List.foldl_cons]
    exact ih nodup _ fun g hg => (spares_fixtureTick s (ne_of_mem_of_not_mem hg hf)).ticksQuietly
      (quiet g (List.mem_cons_of_mem _ hg))

/-! ## A counted tick comes to the zone -/

/-- The fixtures below one take the tick before it, the others after it (R2). -/
theorem fixtureNumbers_split (f : FixtureNo) : ∃ lower higher, fixtureNumbers = lower ++ f :: higher ∧
    (∀ g ∈ lower, g < f) ∧ f ∉ higher ∧ lower.Nodup := by
  obtain ⟨lower, higher, e⟩ := List.append_of_mem (mem_fixtureNumbers f)
  have ordered : (lower ++ f :: higher).Pairwise (· < ·) := by rw [← e]; decide
  obtain ⟨first, second, between⟩ := List.pairwise_append.mp ordered
  exact ⟨lower, higher, e, fun g hg => between g hg f (List.mem_cons_self ..),
    fun hf => lt_irrefl f ((List.pairwise_cons.mp second).1 f hf), first.imp ne_of_lt⟩

/-- A fixture that is absent or DEAD. -/
def Fixture.Idle (x : Fixture) : Prop := x.config = none ∨ x.state = .dead

theorem fixtureTick_idle {s : State} {f : FixtureNo} (h : (s.fixture f).Idle) : fixtureTick s f = s :=
  h.elim fixtureTick_unconfigured fixtureTick_dead

theorem ticks_idle {s : State} (fs : List FixtureNo) (h : ∀ g ∈ fs, (s.fixture g).Idle) : fs.foldl fixtureTick s = s :=
  foldl_idle fs fun g hg => fixtureTick_idle (h g hg)

theorem tickOn_idle {s : State} (fs : List FixtureNo) (h : ∀ g ∈ fs, (s.fixture g).Idle) :
    (tickOn fs s).line = s.line ∧ (tickOn fs s).picture = s.picture := by
  obtain ⟨done, rest, e, t⟩ := tickOn_split fs s
  rw [t, ticks_idle done fun g hg => h g (e ▸ List.mem_append_left rest hg)]
  exact ⟨rfl, rfl⟩

section
variable (s : State) (f : FixtureNo) (c : FixtureConfig) (cmax rate : Nat)

/-- A zone tick of a fixture that holds nothing leaves all of it but its control and its indicator. -/
theorem zoneTick_fixture (hk : (s.fixture f).kind? ≠ some .dispenser) : (zoneTick s f c cmax rate).fixture f =
    { s.fixture f with
      control := s.tickedControl f c cmax rate
      indicator := indicatorOf s.clock.phase { s.fixture f with control := s.tickedControl f c cmax rate } } := by
  rw [zoneTick_eq, ← State.zoned_fixture]
  refine (spares_settle f _ ?_).whole ?_
  · split
    · exact noHold_nil
    · exact noHold_startTask _ _ _ _
  · rw [State.zoned_fixture]; exact hk

end

theorem State.zoneRates_congr {s t : State} (h : t.ports = s.ports) (c : FixtureConfig) (rate : Nat) :
    t.zoneRates c rate = s.zoneRates c rate := by
  unfold State.zoneRates State.admittedSights State.sightsOf
  rw [h]

theorem Spares.tickedControl {f : FixtureNo} {s t : State} (h : Spares f s t)
    (hk : (s.fixture f).kind? ≠ some .dispenser) (c : FixtureConfig) (cmax rate : Nat) :
    t.tickedControl f c cmax rate = s.tickedControl f c cmax rate := by
  unfold State.tickedControl
  rw [h.whole hk, State.zoneRates_congr h.ports]

/-- Where no fixture below a LIVE zone calls for a command, the tick comes to the zone, which takes its zone tick; the
fixtures above it, as far as they come, leave it so. -/
theorem tickOn_zone {v : State} {f : FixtureNo} {c : FixtureConfig} {cmax rate : Nat}
    (hc : (v.fixture f).config = some c) (hp : c.params = .zone cmax rate) (hlive : (v.fixture f).state = .live)
    (quiet : ∀ g, g < f → (v.fixture g).TicksQuietly) : ∃ lower higher w, fixtureNumbers = lower ++ f :: higher ∧
      f ∉ lower ∧ f ∉ higher ∧ w = lower.foldl fixtureTick v ∧ Spares f v w ∧
      tickOn fixtureNumbers v = tickOn higher (zoneTick w f c cmax rate) := by
  obtain ⟨lower, higher, e, below, hhigher, nodup⟩ := fixtureNumbers_split f
  have hlower : f ∉ lower := fun hf => lt_irrefl f (below f hf)
  have spared := spares_ticks lower hlower v
  have hk : (v.fixture f).kind? = some .zone := by simp [Fixture.kind?_eq hc, FixtureConfig.kind, hp, KindParams.kind]
  refine ⟨lower, higher, _, e, hlower, hhigher, rfl, spared, ?_⟩
  have same := spared.whole (by simp [hk])
  have taken : fixtureTick (lower.foldl fixtureTick v) f = zoneTick (lower.foldl fixtureTick v) f c cmax rate := by
    rw [fixtureTick_zone (same ▸ hc) (by simp [same, hlive]) hp, same, if_pos hlive]
  have kind : ((fixtureTick (lower.foldl fixtureTick v) f).fixture f).kind? = some .zone := by
    rw [Fixture.kind?, fixtureTick_config, same, ← Fixture.kind?, hk]
  rw [e, tickOn_quiet nodup _ v fun g hg => quiet g (below g hg),
    tickOn_goes _ (overstayed_of_kind (by simp [kind])) (refillDue_of_kind (by simp [kind])), taken]

/-! ## What a counted tick shows and sends -/

theorem raiseChange_withClock (s : State) (k : Clock) :
    State.raiseChange { s with clock := k } = { s.raiseChange with clock := k } := by
  unfold State.raiseChange State.ready
  dsimp only
  split <;> rfl

theorem setEventsLost_withClock (s : State) (k : Clock) :
    State.setEventsLost { s with clock := k } = { s.setEventsLost with clock := k } := by
  unfold State.setEventsLost State.ready
  dsimp only
  split
  · cases s.picture.eventsLost with
    | true => rfl
    | false => rw [if_neg Bool.false_ne_true, if_neg Bool.false_ne_true, raiseChange_withClock]
  · rfl

/-- An event reads the match tick of the clock, and nothing else of it. -/
theorem createEvent_withClock (s : State) {k : Clock} (h : k.tick = s.clock.tick) (e : EventKind) (f : Option FixtureNo)
    (r : Robot) (side : Side) (v : Nat) :
    State.createEvent { s with clock := k } e f r side v = { s.createEvent e f r side v with clock := k } := by
  unfold State.createEvent State.ready
  dsimp only
  rw [h]
  split
  · split
    · rfl
    · exact setEventsLost_withClock { s with picture := { s.picture with eventSeq := s.picture.eventSeq + 1 } } k
  · rfl

theorem zoneHandsOn_withClock (s : State) {k : Clock} (h : k.tick = s.clock.tick) (f : FixtureNo) (z w : Control) :
    zoneHandsOn { s with clock := k } f z w = { zoneHandsOn s f z w with clock := k } := by
  unfold zoneHandsOn
  rw [createEvent_withClock s h]
  split
  · rw [raiseChange_withClock]
  · split
    · rw [raiseChange_withClock]
    · rfl

@[simp] theorem State.advance_ticking (s : State) (d : Nat) : (s.advance d).clock.ticking = s.clock.ticking := by
  cases hrun : s.running with
  | true => rw [s.advance_running d hrun]; rfl
  | false => rw [s.advance_stopped d hrun]

/-- R90: the match tick has risen, and no fixture has taken the counted tick. -/
def State.tickBegun (s : State) : State :=
  let u := s.advance (100000 - s.clock.tenth)
  { u with clock := u.clock.count }

theorem zoneHandsOn_tickBegun (s : State) (f : FixtureNo) (z w : Control) :
    let u := s.advance (100000 - s.clock.tenth)
    let ticked : State := { u with clock := { u.clock with tick := min 65535 (u.clock.tick + 1) } }
    (zoneHandsOn s.tickBegun f z w).line = (zoneHandsOn ticked f z w).line ∧
      (zoneHandsOn s.tickBegun f z w).picture = (zoneHandsOn ticked f z w).picture := by
  intro u ticked
  have same : zoneHandsOn s.tickBegun f z w = { zoneHandsOn ticked f z w with clock := s.tickBegun.clock } :=
    zoneHandsOn_withClock ticked (k := s.tickBegun.clock) rfl f z w
  rw [same]
  exact ⟨rfl, rfl⟩

/-- The next counted tick finds no tick still under way. -/
theorem exec_countedTick {s : State} (hready : s.ready = true) (hphase : s.clock.phase.running = true)
    (hticking : s.clock.ticking = []) : exec .countedTick s = .next (tickOn fixtureNumbers s.tickBegun) := by
  have due : tickWait s = some (100000 - s.clock.tenth) := by simp [tickWait, hready, hphase, Config.tenth]
  show onExpiry tickWait countTick s = _
  rw [onExpiry_some due, countTick, finishTick_none _ (by simpa using hticking), State.tickBegun]

/-- A zone tick follows Table 3-1 and hands on what it should, in any state. -/
theorem zoneTick_follows (s : State) (f : FixtureNo) (c : FixtureConfig) (cmax rate : Nat) :
    let z := (s.fixture f).control
    let t := zoneTick s f c cmax rate
    ZoneTickTable z (t.fixture f).control cmax (s.zoneRates c rate) ∧
    (c.firstList = none → (t.fixture f) = { s.fixture f with
        control := (t.fixture f).control, indicator := indicatorOf s.clock.phase (t.fixture f) } ∧
      t.line = (zoneHandsOn s f z (t.fixture f).control).line ∧
      t.picture = (zoneHandsOn s f z (t.fixture f).control).picture ∧ t.engine.holdOff = s.engine.holdOff ∧
      RestAs s t f) ∧
    ∀ i, c.firstList = some i → (s.runner c.runner).mode ≠ .idle → (s.runner c.runner).queue.length < 4 →
      s.clock.phase ≠ .halted → t.runner c.runner = { s.runner c.runner with
        queue := (s.runner c.runner).queue ++
          if (t.fixture f).control.owner ≠ z.owner then [⟨i, f, .change⟩] else [] } := by
  intro z t
  have control : (t.fixture f).control = s.tickedControl f c cmax rate := zoneTick_control s f c cmax rate
  rw [control]
  refine ⟨z.tick_table cmax _, fun hlist => ?_, fun i hlist busy room hphase => ?_⟩
  · have reports := s.zoned_reportsAs f (s.tickedControl f c cmax rate)
    have fixture := s.zoned_fixture f (s.tickedControl f c cmax rate)
    rw [show t = s.zoned f (s.tickedControl f c cmax rate) from zoneTick_noList s f c cmax rate hlist]
    refine ⟨?_, reports.line, reports.picture, s.zoned_holdOff f _, s.zoned_restAs f _⟩
    rw [fixture]
    rfl
  · exact zoneTick_queues s f c cmax rate hlist busy room hphase

/-- The fixtures below the zone leave it to take its zone tick from `v`, as the counted tick began. -/
theorem tickOn_zone_fixture {v : State} {f : FixtureNo} {c : FixtureConfig} {cmax rate : Nat}
    (hc : (v.fixture f).config = some c) (hp : c.params = .zone cmax rate) (hlive : (v.fixture f).state = .live)
    (quiet : ∀ g, g < f → (v.fixture g).TicksQuietly) : (tickOn fixtureNumbers v).fixture f =
      { v.fixture f with
        control := v.tickedControl f c cmax rate
        indicator := indicatorOf v.clock.phase { v.fixture f with control := v.tickedControl f c cmax rate } } := by
  obtain ⟨lower, higher, w, -, -, hhigher, -, spared, ticked⟩ := tickOn_zone hc hp hlive quiet
  have hk : (v.fixture f).kind? ≠ some .dispenser := by
    simp [Fixture.kind?_eq hc, FixtureConfig.kind, hp, KindParams.kind]
  have same := spared.whole hk
  have here := zoneTick_fixture w f c cmax rate (same ▸ hk)
  have after := (spares_tickOn higher hhigher (zoneTick w f c cmax rate)).whole (by rw [here, same]; exact hk)
  rw [ticked, after, here, spared.tickedControl hk, same, spared.phase]

/-- Where every other fixture is absent or DEAD, the tick is the zone's own. -/
theorem tickOn_zone_alone {v : State} {f : FixtureNo} {c : FixtureConfig} {cmax rate : Nat}
    (hc : (v.fixture f).config = some c) (hp : c.params = .zone cmax rate) (hlive : (v.fixture f).state = .live)
    (quiet : ∀ g, g < f → (v.fixture g).TicksQuietly) (hlist : c.firstList = none)
    (alone : ∀ g, g ≠ f → (v.fixture g).Idle) :
    let h := zoneHandsOn v f (v.fixture f).control (v.tickedControl f c cmax rate)
    (tickOn fixtureNumbers v).line = h.line ∧ (tickOn fixtureNumbers v).picture = h.picture := by
  intro h
  obtain ⟨lower, higher, w, -, hlower, hhigher, begun, -, ticked⟩ := tickOn_zone hc hp hlive quiet
  rw [ticks_idle lower fun g hg => alone g (ne_of_mem_of_not_mem hg hlower)] at begun
  subst begun
  obtain ⟨others, -⟩ := w.zoned_restAs f (w.tickedControl f c cmax rate)
  have reports := w.zoned_reportsAs f (w.tickedControl f c cmax rate)
  obtain ⟨line, picture⟩ := tickOn_idle (s := w.zoned f (w.tickedControl f c cmax rate)) higher fun g hg => by
    have hg := ne_of_mem_of_not_mem hg hhigher
    rw [others g hg]
    exact alone g hg
  rw [ticked, zoneTick_noList w f c cmax rate hlist, line, picture]
  exact ⟨reports.line, reports.picture⟩

/-- Settles O59: Table 3-1 in any state (`zoneTick_follows`), and the counted tick that comes to the zone
(`tickOn_zone_fixture`, `tickOn_zone_alone`). -/
theorem contestedTickFreezes : Obligations.ContestedTickFreezes := by
  unfold Obligations.ContestedTickFreezes
  refine ⟨zoneTick_follows, fun s f c cmax rate hready hphase hticking hc hp hlive below => ?_⟩
  have hrun := State.ready_running hready
  let u := s.advance (100000 - s.clock.tenth)
  let v := s.tickBegun
  have fixture (g : FixtureNo) : v.fixture g = (s.fixture g).advance (100000 - s.clock.tenth)
      (if s.clock.phase = .halted then 0 else 100000 - s.clock.tenth) := s.advance_fixture _ g hrun
  have hcv : (v.fixture f).config = some c := by rw [fixture]; exact hc
  have hlivev : (v.fixture f).state = .live := by rw [fixture]; exact hlive
  have control : (v.fixture f).control = (s.fixture f).control := by rw [fixture]; rfl
  have quiet : ∀ g, g < f → (v.fixture g).TicksQuietly := by
    intro g hg d hd
    rw [fixture] at hd ⊢
    obtain ⟨gate, dispenser⟩ := below g d hg hd
    refine ⟨fun limit lost h hp hh => ?_, dispenser⟩
    obtain ⟨k, hk, rfl⟩ := Option.map_eq_some_iff.mp hh
    exact gate limit lost k hp hk
  have after := tickOn_zone_fixture hcv hp hlivev quiet
  have ticked : ((tickOn fixtureNumbers v).fixture f).control = (s.fixture f).control.tick cmax (u.zoneRates c rate) := by
    rw [after, ← control]; rfl
  refine ⟨tickOn fixtureNumbers v, exec_countedTick hready hphase hticking, ?_, ?_, ?_, ?_⟩
  · rw [after]; exact hlivev
  · rw [ticked]
    exact Control.tick_table _ _ _
  · intro contested hnone
    have running : v.clock.phase ≠ .halted := fun e => by
      have halted : s.clock.phase = .halted := (s.advance_phase _).symm.trans e
      simp [halted, Phase.running] at hphase
    have frozen : v.tickedControl f c cmax rate = { (v.fixture f).control with contested := true } :=
      Control.tick_contested contested _ _
    have transient : (v.fixture f).transient = none := by rw [fixture]; exact hnone
    simp [after, indicatorOf, running, hlivev, transient, stateIndicator, frozen]
  · intro hlist alone
    obtain ⟨line, picture⟩ := tickOn_zone_alone hcv hp hlivev quiet hlist fun g hg => by
      rw [fixture]; exact alone g hg
    have reached : ((tickOn fixtureNumbers v).fixture f).control = v.tickedControl f c cmax rate := by rw [after]
    rw [line, picture, control, reached]
    exact zoneHandsOn_tickBegun s f _ _

end Sys2Proof.Machine
end

section
/-! Proofs for 03_zones_and_goals.md, part 5: what the operations behind the commands do to the tallies of a station (R53,
R61, R90): the match tick, the side points, the piece counts and the zones' controls. -/

namespace Sys2Proof.Machine

/-! ## Tallies -/

/-- A saturating count goes on as one, and only a CLEAR lowers it. -/
def Rises (clears : Bool) (m n : Nat) : Prop := m ≤ 65535 → n ≤ 65535 ∧ (clears = false → m ≤ n)

theorem Rises.of_eq {clears : Bool} {m n : Nat} (h : n = m) : Rises clears m n := fun hm => ⟨h ▸ hm, fun _ => h.ge⟩

theorem Rises.trans {clears : Bool} {m n p : Nat} (h : Rises clears m n) (k : Rises clears n p) : Rises clears m p :=
  fun hm => by
    obtain ⟨hn, le⟩ := h hm
    obtain ⟨hp, le'⟩ := k hn
    exact ⟨hp, fun e => (le e).trans (le' e)⟩

/-- R61: a count rises and saturates. -/
theorem Rises.saturate (clears : Bool) (m n : Nat) : Rises clears m (min Config.countMax (m + n)) := fun hm =>
  ⟨min_le_left _ _, fun _ => le_min hm (Nat.le_add_right m n)⟩

/-- CLEAR puts a count to 0. -/
theorem Rises.zero (m : Nat) : Rises true m 0 := fun _ => ⟨Nat.zero_le _, fun e => nomatch e⟩

/-- R53: with neither owner nor challenger a zone's level is 0, and an owned zone has no challenger. -/
structure Control.Sound (z : Control) : Prop where
  nobody : z.owner = 0 → z.challenger = 0 → z.level = 0
  owned : z.owner ≠ 0 → z.challenger = 0

/-- R53: what `ZonesSound` says of one fixture. -/
structure Fixture.ZoneSound (x : Fixture) : Prop where
  level : ∀ c cmax rate, x.config = some c → c.params = .zone cmax rate → x.control.level ≤ cmax
  control : x.control.Sound

theorem zonesSound_iff (s : State) : ZonesSound s ↔ ∀ f, (s.fixture f).ZoneSound :=
  forall_congr' fun _ => ⟨fun ⟨level, nobody, owned⟩ => ⟨level, nobody, owned⟩,
    fun ⟨level, nobody, owned⟩ => ⟨level, nobody, owned⟩⟩

/-- A fixture's tallies go on. -/
structure Fixture.Tallies (clears : Bool) (x y : Fixture) : Prop where
  pieces : Rises clears x.scoring.pieces y.scoring.pieces
  zone : x.ZoneSound → y.ZoneSound

/-- A fixture's tallies stand. -/
structure Fixture.SameTallies (x y : Fixture) : Prop where
  config : y.config = x.config
  pieces : y.scoring.pieces = x.scoring.pieces
  level : y.control.level = x.control.level
  owner : y.control.owner = x.control.owner
  challenger : y.control.challenger = x.control.challenger

theorem Fixture.SameTallies.refl (x : Fixture) : x.SameTallies x := ⟨rfl, rfl, rfl, rfl, rfl⟩

theorem Fixture.HoldOnly.sameTallies {x y : Fixture} (h : x.HoldOnly y) : x.SameTallies y := by
  rw [h.eq]; exact ⟨rfl, rfl, rfl, rfl, rfl⟩

theorem Fixture.SameTallies.zone {x y : Fixture} (h : x.SameTallies y) (k : x.ZoneSound) : y.ZoneSound := by
  obtain ⟨level, nobody, owned⟩ := k
  refine ⟨?_, ?_, ?_⟩
  · rw [h.config, h.level]; exact level
  · rw [h.owner, h.challenger, h.level]; exact nobody
  · rw [h.owner, h.challenger]; exact owned

theorem Fixture.SameTallies.tallies {x y : Fixture} (h : x.SameTallies y) (clears : Bool) : x.Tallies clears y :=
  ⟨.of_eq h.pieces, h.zone⟩

/-- A station's tallies go on: the match tick within its limit, the counts rising, the zones sound. Where `clears` is set
a CLEAR may have lowered them. -/
structure Tallies (clears : Bool) (s t : State) : Prop where
  tick : s.clock.tick ≤ 65535 → t.clock.tick ≤ 65535
  points : ∀ side, Rises clears (s.engine.points.get side) (t.engine.points.get side)
  fixtures : ∀ f, (s.fixture f).Tallies clears (t.fixture f)

namespace Tallies

theorem trans {clears : Bool} {s t u : State} (h : Tallies clears s t) (k : Tallies clears t u) : Tallies clears s u :=
  ⟨fun e => k.tick (h.tick e), fun side => (h.points side).trans (k.points side), fun f =>
    ⟨(h.fixtures f).pieces.trans (k.fixtures f).pieces, fun e => (k.fixtures f).zone ((h.fixtures f).zone e)⟩⟩

theorem of_same {clears : Bool} {s t : State} (tick : s.clock.tick ≤ 65535 → t.clock.tick ≤ 65535)
    (points : t.engine.points = s.engine.points) (fixtures : ∀ f, (s.fixture f).SameTallies (t.fixture f)) :
    Tallies clears s t :=
  ⟨tick, fun _ => .of_eq (by rw [points]), fun f => (fixtures f).tallies clears⟩

theorem refl (clears : Bool) (s : State) : Tallies clears s s := .of_same id rfl fun _ => .refl _

/-- One fixture changes, its tallies standing. -/
theorem of_rest {clears : Bool} {s t : State} {f : FixtureNo} (rest : RestAs s t f)
    (same : (s.fixture f).SameTallies (t.fixture f)) : Tallies clears s t := by
  obtain ⟨others, points, -, -, -, -, clock, -⟩ := rest
  refine .of_same (by rw [clock]; exact id) points fun g => ?_
  by_cases hg : g = f
  · rw [hg]; exact same
  · rw [others g hg]; exact .refl _

/-- A fold of updates that each keep the tallies. -/
theorem fold {α : Type} {clears : Bool} (l : List α) (act : State → α → State)
    (h : ∀ u a, Tallies clears u (act u a)) (s : State) : Tallies clears s (l.foldl act s) :=
  List.foldlRecOn l act (motive := Tallies clears s) (.refl clears s) fun u hu a _ => hu.trans (h u a)

end Tallies

/-! ## Updates that leave the tallies -/

theorem HoldsOnly.tallies {s t : State} (h : HoldsOnly s t) (clears : Bool) : Tallies clears s t :=
  .of_same (by rw [h.clock]; exact id) h.points fun f => (h.fixtures f).sameTallies

theorem PlaysOnly.tallies {s t : State} (h : PlaysOnly s t) (clears : Bool) : Tallies clears s t :=
  h.holdsOnly.tallies clears

theorem OnlyReports.tallies {s t : State} (h : OnlyReports s t) (clears : Bool) : Tallies clears s t :=
  h.playsOnly.tallies clears

section
variable (k : Bool) (s : State) (f : FixtureNo)

theorem tallies_settle (ts : List Task) : Tallies k s (settle s ts) := (holdsOnly_settle s ts).tallies k

theorem tallies_raiseChange : Tallies k s s.raiseChange := (onlyReports_raiseChange s).tallies k

theorem tallies_createEvent (e : EventKind) (g : Option FixtureNo) (r : Robot) (side : Side) (v : Nat) :
    Tallies k s (s.createEvent e g r side v) := (onlyReports_createEvent s e g r side v).tallies k

theorem tallies_queueCommand (c : Command) : Tallies k s (s.queueCommand c) := (onlyReports_queueCommand s c).tallies k

theorem tallies_refreshIndicator : Tallies k s (s.refreshIndicator f) :=
  (holdAt_refreshIndicator s f).holdsOnly.tallies k

theorem tallies_makeHoldOff (r : Robot) (g : FixtureNo) : Tallies k s (s.makeHoldOff r g) :=
  (holdAt_makeHoldOff s r g).holdsOnly.tallies k

theorem tallies_setFixture {x : Fixture} (h : (s.fixture f).SameTallies x) : Tallies k s (s.setFixture f x) :=
  .of_rest (restAs_setFixture s f x) (by rwa [State.setFixture_fixture_same])

theorem tallies_setClaims (c : Claims) : Tallies k s (s.setClaims f c) :=
  tallies_setFixture k s f ⟨rfl, rfl, rfl, rfl, rfl⟩

theorem tallies_setFixtureState (st : FixtureState) : Tallies k s (s.setFixtureState f st) :=
  tallies_setFixture k s f ⟨rfl, rfl, rfl, rfl, rfl⟩

theorem tallies_startTransient (t : Transient) : Tallies k s (s.startTransient f t) :=
  (tallies_setFixture k s f (by exact ⟨rfl, rfl, rfl, rfl, rfl⟩)).trans (tallies_refreshIndicator k _ f)

/-- The other blocks bear on no tally. -/
theorem tallies_setPulse (p : Pulse) : Tallies k s { s with pulse := p } := .of_same id rfl fun _ => .refl _

theorem tallies_setPort (p : PortNo) (x : Port) : Tallies k s (s.setPort p x) := .of_same id rfl fun _ => .refl _

theorem tallies_setInput (i : InputNo) (x : Input) : Tallies k s (s.setInput i x) := .of_same id rfl fun _ => .refl _

theorem tallies_setHoldOff (l : List HoldOff) : Tallies k s (s.setHoldOff l) := .of_same id rfl fun _ => .refl _

theorem tallies_setReports (l : Line) (p : Picture) : Tallies k s { s with line := l, picture := p } :=
  .of_same id rfl fun _ => .refl _

/-- The clock bears on the match tick alone. -/
theorem tallies_setClock {c : Clock} (h : s.clock.tick ≤ 65535 → c.tick ≤ 65535) : Tallies k s { s with clock := c } :=
  .of_same h rfl fun _ => .refl _

/-- No tally changes by time alone. -/
theorem tallies_advance (d : Nat) : Tallies k s (s.advance d) := by
  cases hrun : s.running with
  | false => rw [s.advance_stopped d hrun]; exact .refl k s
  | true =>
    refine .of_same (by rw [s.advance_running d hrun]; exact id) (by rw [s.advance_running d hrun]; rfl) fun f => ?_
    rw [s.advance_fixture d f hrun]
    exact ⟨rfl, rfl, rfl, rfl, rfl⟩

end

/-! ## Notices (R5–R7, R96, R150) -/

section
variable (k : Bool) (s : State)

theorem tallies_claimNotice (f : FixtureNo) (c : FixtureConfig) (new : Phase) : Tallies k s (claimNotice s f c new) := by
  unfold claimNotice
  split
  · exact (tallies_setFixtureState k s f _).trans (tallies_raiseChange k _)
  · exact (tallies_setFixtureState k s f _).trans (tallies_raiseChange k _)
  · exact tallies_settle k s _
  · exact .refl k s

theorem tallies_zoneNotice (f : FixtureNo) (c : FixtureConfig) (new : Phase) : Tallies k s (zoneNotice s f c new) := by
  unfold zoneNotice
  dsimp only
  split
  · exact (tallies_setFixture k s f (by exact ⟨rfl, rfl, rfl, rfl, rfl⟩)).trans (tallies_raiseChange k _)
  · exact (tallies_setFixture k s f (by exact ⟨rfl, rfl, rfl, rfl, rfl⟩)).trans (tallies_raiseChange k _)
  · exact .refl k s

theorem tallies_goalNotice (f : FixtureNo) (c : FixtureConfig) (grace : Nat) (old new : Phase) :
    Tallies k s (goalNotice s f c grace old new) := by
  unfold goalNotice
  dsimp only
  split
  · exact (tallies_setFixtureState k s f _).trans (tallies_raiseChange k _)
  · split
    · exact (tallies_setFixtureState k s f _).trans (tallies_raiseChange k _)
    · exact (tallies_setFixture k s f (by exact ⟨rfl, rfl, rfl, rfl, rfl⟩)).trans (tallies_raiseChange k _)
  · exact .refl k s

theorem tallies_fixtureNotice (old new : Phase) (f : FixtureNo) : Tallies k s (fixtureNotice old new s f) := by
  refine .trans ?_ (tallies_refreshIndicator k _ f)
  split
  · exact .refl k s
  · split
    · exact .refl k s
    · split
      · exact tallies_claimNotice k s f _ new
      · exact tallies_claimNotice k s f _ new
      · exact tallies_zoneNotice k s f _ new
      · exact tallies_goalNotice k s f _ _ old new

theorem tallies_haltRunner (r : RunnerId) : Tallies k s (haltRunner s r) :=
  (((playsOnly_setPulse s _).trans (playsOnly_setRunner _ r _)).tallies k).trans (tallies_settle k _ _)

theorem tallies_haltRunners : Tallies k s (haltRunners s) :=
  (tallies_haltRunner k s .A).trans (tallies_haltRunner k _ .B)

theorem tallies_announce (old : Phase) : Tallies k s (announce s old) := by
  have noticed := Tallies.fold fixtureNumbers (fixtureNotice old s.clock.phase)
    (fun u f => tallies_fixtureNotice k u old s.clock.phase f) s
  have shown (u : State) (p : Pulse) : Tallies k u (State.raiseChange { u with pulse := p }) :=
    (tallies_setPulse k u p).trans (tallies_raiseChange k _)
  unfold announce
  dsimp only
  split
  · exact (noticed.trans (tallies_haltRunners k _)).trans (shown _ _)
  · exact noticed.trans (shown _ _)

theorem tallies_changePhase (new : Phase) : Tallies k s (changePhase s new) :=
  (tallies_setClock k s (c := { s.clock with phase := new }) id).trans (tallies_announce k _ _)

/-! ## START, HALT, RESUME and CLEAR (R92–R95) -/

theorem Fixture.resetAllowance_sameTallies (x : Fixture) : x.SameTallies x.resetAllowance := by
  unfold Fixture.resetAllowance
  split
  · split
    · split
      · exact .refl x
      · exact ⟨rfl, rfl, rfl, rfl, rfl⟩
    all_goals exact .refl x
  · exact .refl x

theorem tallies_applyStart : Tallies k s (applyStart s) := by
  have begun : Tallies k s s.startBegun := .of_same (fun _ => Nat.zero_le _) rfl fun f => by
    simpa [State.startBegun, State.fixture] using Fixture.resetAllowance_sameTallies _
  rw [applyStart_eq]
  exact begun.trans (tallies_changePhase k _ _)

theorem tallies_applyHalt : Tallies k s (applyHalt s) :=
  (tallies_setClock k s (c := { s.clock with resume := s.clock.phase }) id).trans (tallies_changePhase k _ _)

/-- R22: at CLEAR a goal's count is 0, and a zone is as at the start. -/
theorem Fixture.cleared_tallies (x : Fixture) : x.Tallies true x.cleared := by
  unfold Fixture.cleared
  split
  · exact (Fixture.SameTallies.refl x).tallies true
  · exact ⟨.zero _, fun _ => ⟨fun _ _ _ _ _ => Nat.zero_le _, fun _ _ => rfl, fun h => (h rfl).elim⟩⟩

theorem tallies_clearEnded : Tallies k s s.clearEnded :=
  Tallies.trans (t := { s with
    runners := { s.runners with fault := false }
    pulse := s.pulse.leaveSafe
    picture := { s.picture with eventsLost := false } }) (.of_same id rfl fun _ => .refl _) (tallies_raiseChange k _)

theorem tallies_applyClear : Tallies true s (applyClear s) := by
  rw [applyClear_eq]
  have cleared : Tallies true s s.fixturesCleared := by
    refine ⟨fun _ => Nat.zero_le _, fun side => ?_, fun f => ?_⟩
    · fin_cases side <;> exact .zero _
    · simpa [State.fixturesCleared, State.fixture] using Fixture.cleared_tallies _
  exact ((cleared.trans (.fold fixtureNumbers _ (fun u f => tallies_refreshIndicator true u f) _)).trans
    (tallies_haltRunners true _)).trans (tallies_clearEnded true _)

/-- R97, R101: a command from any source. A CLEAR lowers tallies where it is accepted. -/
theorem tallies_takeCommand {k : Bool} {s : State} (c : Command)
    (hclear : c = .clear → clearAccepted s = true → k = true) : Tallies k s (takeCommand s c) := by
  unfold takeCommand
  split
  · exact .refl k s
  · rename_i hready
    split
    · exact tallies_queueCommand k s .halt
    · split
      · exact .refl k s
      · rename_i haccepted
        cases c with
        | start => exact tallies_applyStart k s
        | halt => exact tallies_applyHalt k s
        | resume => exact tallies_changePhase k s _
        | clear =>
          obtain rfl := hclear rfl (by simpa [clearAccepted] using And.intro hready haccepted)
          exact tallies_applyClear s

theorem tallies_localHalt (mode : InputMode) : Tallies k s (localHalt s mode) := by
  unfold localHalt
  split
  · cases mode with
    | edge => exact tallies_queueCommand k s .halt
    | level => exact .refl k s
  · exact (tallies_applyHalt k s).trans (tallies_queueCommand k _ .halt)

theorem tallies_localCommand (c : Command) (mode : InputMode) : Tallies k s (localCommand s c mode) := by
  unfold localCommand
  split
  · exact tallies_localHalt k s mode
  · split
    · exact tallies_queueCommand k s _
    · split
      · exact .refl k s
      · exact tallies_queueCommand k s _
  all_goals
    split
    · exact .refl k s
    · exact tallies_queueCommand k s _

/-- R104: a row's tick is adopted. -/
theorem tallies_lateJoin {row : PeerRow} (h : row.tick ≤ 65535) : Tallies k s (lateJoin s row) := by
  unfold lateJoin
  split
  · refine (tallies_setClock k s ?_).trans (tallies_changePhase k _ _)
    intro _
    split
    · exact h
    · dsimp only
      split
      · exact Nat.zero_le _
      · exact h
  · exact .refl k s

end

end Sys2Proof.Machine
end

section
/-! Proofs for 03_zones_and_goals.md, part 6: the tallies over zone ticks and pieces, inputs, patterns and sightings, and
over the line controller's frames. -/

namespace Sys2Proof.Machine

/-! ## Zone ticks (R51–R53, Table 3-1) -/

/-- R53, of a zone of this CMAX. -/
structure Control.SoundTo (cmax : Nat) (z : Control) : Prop extends z.Sound where
  level : z.level ≤ cmax

theorem Control.SoundTo.empty {cmax : Nat} {z : Control} (h : z.SoundTo cmax) : z.empty.SoundTo cmax := by
  obtain ⟨⟨nobody, owned⟩, level⟩ := h
  unfold Control.empty
  split
  · rename_i howner
    refine ⟨⟨fun _ hc => ?_, fun h => (h howner).elim⟩, by dsimp only; omega⟩
    dsimp only at hc ⊢
    split at hc
    · assumption
    · rw [nobody howner hc]
  · exact ⟨⟨nobody, owned⟩, level⟩

theorem Control.SoundTo.alone {cmax : Nat} {z : Control} (h : z.SoundTo cmax) {side : Side} (hside : side ≠ 0)
    (rate : Nat) : (z.alone cmax side rate).SoundTo cmax := by
  obtain ⟨⟨nobody, owned⟩, level⟩ := h
  have up : min cmax (z.level + rate) ≤ cmax := min_le_left _ _
  have down : z.level - rate ≤ cmax := (Nat.sub_le _ _).trans level
  have gone : Control.SoundTo cmax ⟨0, 0, side, false⟩ :=
    ⟨⟨fun _ _ => rfl, fun h => (h rfl).elim⟩, Nat.zero_le _⟩
  unfold Control.alone
  dsimp only
  split
  · rename_i howner
    split
    · split
      · exact ⟨⟨fun h => (hside h).elim, fun _ => rfl⟩, up⟩
      · exact ⟨⟨fun _ h => (hside h).elim, fun h => (h rfl).elim⟩, up⟩
    · rename_i other
      split
      · exact gone
      · exact ⟨⟨fun _ h => (other (.inl h)).elim, fun h => (h howner).elim⟩, down⟩
  · rename_i howner
    split
    · exact ⟨⟨fun h => (howner h).elim, owned⟩, up⟩
    · split
      · exact gone
      · exact ⟨⟨fun h => (howner h).elim, owned⟩, down⟩

theorem Control.SoundTo.tick {cmax : Nat} {z : Control} (h : z.SoundTo cmax) (rates : PerSide) :
    (z.tick cmax rates).SoundTo cmax := by
  unfold Control.tick
  split
  · exact h.empty
  · rename_i side present
    refine h.alone (fun e => ?_) _
    have := (mem_presentSides rates side).mp (present ▸ List.mem_singleton_self side)
    exact this (e ▸ rfl)
  · obtain ⟨⟨nobody, owned⟩, level⟩ := h
    exact ⟨⟨nobody, owned⟩, level⟩

/-- A zone's own tick keeps it sound. -/
theorem Fixture.tallies_tick {x : Fixture} {c : FixtureConfig} {cmax rate : Nat} (hc : x.config = some c)
    (hp : c.params = .zone cmax rate) (clears : Bool) (rates : PerSide) :
    x.Tallies clears { x with control := x.control.tick cmax rates } := by
  refine ⟨.of_eq rfl, fun ⟨level, sound⟩ => ?_⟩
  obtain ⟨sound', level'⟩ := Control.SoundTo.tick ⟨sound, level c cmax rate hc hp⟩ rates
  refine ⟨fun d cmax' rate' hd hp' => ?_, sound'⟩
  obtain rfl : c = d := Option.some.inj (hc.symm.trans hd)
  obtain ⟨rfl, -⟩ : cmax = cmax' ∧ rate = rate' := by simpa using hp.symm.trans hp'
  exact level'

section
variable (k : Bool) (s : State)

/-- One fixture's tallies go on. -/
theorem tallies_putFixture (f : FixtureNo) {x : Fixture} (h : (s.fixture f).Tallies k x) :
    Tallies k s (s.setFixture f x) := by
  refine ⟨id, fun _ => .of_eq rfl, fun g => ?_⟩
  rw [State.setFixture_fixture]
  split
  · rename_i hg; exact hg ▸ h
  · exact (Fixture.SameTallies.refl _).tallies k

variable {s}

theorem tallies_zoneTick {f : FixtureNo} {c : FixtureConfig} {cmax rate : Nat} (hc : (s.fixture f).config = some c)
    (hp : c.params = .zone cmax rate) : Tallies k s (zoneTick s f c cmax rate) := by
  have ticked := tallies_putFixture k s f (Fixture.tallies_tick hc hp k (s.zoneRates c rate))
  rw [zoneTick_eq]
  exact ((ticked.trans ((onlyReports_zoneHandsOn _ f _ _).tallies k)).trans (tallies_refreshIndicator k _ f)).trans
    (tallies_settle k _ _)

variable (s)

theorem tallies_fixtureTick (f : FixtureNo) : Tallies k s (fixtureTick s f) := by
  unfold fixtureTick
  dsimp only
  split
  · exact .refl k s
  · rename_i c hc
    split
    · exact .refl k s
    · split
      · unfold gateTick
        dsimp only
        split
        · exact tallies_setClaims k s f _
        · exact .refl k s
      · unfold dispenserTick
        dsimp only
        split
        · exact tallies_setClaims k s f _
        · exact .refl k s
      · rename_i hp
        split
        · exact tallies_zoneTick k hc hp
        · exact .refl k s
      · exact .refl k s

theorem tallies_ticking (l : List FixtureNo) : Tallies k s { s with clock := { s.clock with ticking := l } } :=
  tallies_setClock k s id

theorem tallies_tickOn (fs : List FixtureNo) : Tallies k s (tickOn fs s) :=
  tickOn_keeps (Tallies k s) (fun u f h => h.trans (tallies_fixtureTick k u f))
    (fun u l h => h.trans (tallies_ticking k u l)) fs s (.refl k s)

theorem tallies_finishTick : Tallies k s (finishTick s) :=
  finishTick_keeps (Tallies k s) (fun u f h => h.trans (tallies_fixtureTick k u f))
    (fun u l h => h.trans (tallies_ticking k u l)) s (.refl k s)

theorem tallies_resumeTick : Tallies k s (resumeTick s) := by
  unfold resumeTick
  split
  · exact tallies_tickOn k s _
  · exact .refl k s

/-- R90: the match tick saturates. -/
theorem tallies_countTick : Tallies k s (countTick s) :=
  ((tallies_finishTick k s).trans (tallies_setClock k _ (c := (finishTick s).clock.count) fun _ => min_le_left _ _)).trans
    (tallies_tickOn k _ _)

theorem tallies_endPeriod : Tallies k s (endPeriod s) :=
  ((tallies_finishTick k s).trans
    (tallies_setClock k _ (c := { (finishTick s).clock with boundaryDue := false }) id)).trans (tallies_changePhase k _ _)

/-! ## Goals (R57–R69) -/

/-- R61: a side's points rise and saturate. -/
theorem addPoints_rises (p : PerSide) (side : Side) (n : Nat) (other : Side) :
    Rises k (p.get other) ((addPoints p side n).get other) := by
  unfold addPoints
  by_cases h : other = side
  · subst h
    fin_cases other
    · exact .of_eq rfl
    all_goals exact .saturate k _ n
  · refine .of_eq ?_
    revert h
    fin_cases side <;> fin_cases other <;> simp [PerSide.set, PerSide.get]

/-- R61: a piece raises the count and the points. -/
theorem tallies_scored (f : FixtureNo) (side : Side) (points : Nat) : Tallies k s (s.scored f side points) := by
  have counted := tallies_putFixture k s f
    (x := { s.fixture f with scoring := { (s.fixture f).scoring with
      pieces := min Config.countMax ((s.fixture f).scoring.pieces + 1) } })
    ⟨.saturate k _ 1, fun h => ⟨h.level, h.control⟩⟩
  exact ⟨counted.tick, addPoints_rises k _ side points, counted.fixtures⟩

theorem tallies_countPiece (f : FixtureNo) (c : FixtureConfig) (rule : Option CreditRule) (values : PerPhase)
    (phase : Phase) : Tallies k s (countPiece s f c rule values phase) :=
  ((((tallies_scored k s f _ _).trans (tallies_createEvent k _ _ _ _ _ _)).trans (tallies_raiseChange k _)).trans
    (tallies_startTransient k _ f .scored)).trans (tallies_settle k _ _)

theorem tallies_takePiece (f : FixtureNo) : Tallies k s (takePiece s f) := by
  unfold takePiece
  dsimp only
  split
  · exact .refl k s
  · split
    · split
      · exact .refl k s
      · split
        · exact tallies_countPiece k s f _ _ _ _
        · split
          · exact tallies_countPiece k s f _ _ _ _
          · exact .refl k s
        all_goals exact .refl k s
    all_goals exact .refl k s

theorem tallies_endGrace (f : FixtureNo) : Tallies k s (endGrace f s) := by
  unfold endGrace
  dsimp only
  split
  · exact .refl k s
  · split
    · exact tallies_setFixture k s f ⟨rfl, rfl, rfl, rfl, rfl⟩
    · exact ((tallies_setFixture k s f (by exact ⟨rfl, rfl, rfl, rfl, rfl⟩)).trans (tallies_raiseChange k _)).trans
        (tallies_refreshIndicator k _ f)

theorem tallies_jamGoal (f : FixtureNo) : Tallies k s (jamGoal f s) :=
  (((tallies_setFixture k s f (by exact ⟨rfl, rfl, rfl, rfl, rfl⟩)).trans (tallies_createEvent k _ _ _ _ _ _)).trans
    (tallies_raiseChange k _)).trans (tallies_refreshIndicator k _ f)

theorem tallies_unjamGoal (f : FixtureNo) : Tallies k s (unjamGoal f s) := by
  unfold unjamGoal
  dsimp only
  split
  · exact .refl k s
  · exact (((tallies_setFixture k s f (by exact ⟨rfl, rfl, rfl, rfl, rfl⟩)).trans
      (tallies_createEvent k _ _ _ _ _ _)).trans (tallies_raiseChange k _)).trans (tallies_refreshIndicator k _ f)

theorem tallies_endTransient (f : FixtureNo) : Tallies k s (endTransient f s) :=
  (tallies_setFixture k s f (by exact ⟨rfl, rfl, rfl, rfl, rfl⟩)).trans (tallies_refreshIndicator k _ f)

theorem tallies_refillFixture (f : FixtureNo) : Tallies k s (refillFixture f s) := by
  unfold refillFixture
  dsimp only
  split
  · exact .refl k s
  · split
    · exact tallies_setClaims k s f _
    all_goals exact .refl k s

/-! ## Inputs and patterns (R66, R102, R127–R131, R145, R157) -/

theorem tallies_sampleRecords (pins : BitVec 12) (sample : Input → Bool → Input) :
    Tallies k s (sampleRecords s pins sample) := by
  have judged (inputs : Inputs) (g : FixtureNo → Bool) : Tallies k s { s with
      inputs := inputs
      engine := { s.engine with fixtures := Vector.ofFn fun i => s.engine.fixtures[i].inputChanged (g i) } } :=
    .of_same id rfl fun f => by
      simp only [State.fixture, Fin.getElem_fin, Vector.getElem_ofFn]
      unfold Fixture.inputChanged
      split <;> exact ⟨rfl, rfl, rfl, rfl, rfl⟩
  unfold sampleRecords
  dsimp only
  split
  · exact judged _ _
  · exact (judged _ _).trans (tallies_raiseChange k _)

theorem tallies_takeLatch (i : InputNo) : Tallies k s (takeLatch s i) := by
  unfold takeLatch
  dsimp only
  split
  · exact .refl k s
  · split
    · exact .refl k s
    · split
      · exact .refl k s
      · exact (tallies_setInput k s i _).trans (tallies_takePiece k _ _)
    · exact (tallies_setInput k s i _).trans (tallies_localCommand k _ _ _)

theorem tallies_takeLatches : Tallies k s (takeLatches s) :=
  .fold inputNumbers takeLatch (fun u i => tallies_takeLatch k u i) s

theorem tallies_endPatternPhase (u : UnitNo) : Tallies k s (endPatternPhase u s) := by
  unfold endPatternPhase
  split
  · exact .refl k s
  · split
    · exact tallies_setPulse k s _
    · unfold endPattern
      dsimp only
      split
      · exact tallies_setPulse k s _
      · exact (tallies_setPulse k s _).trans (tallies_settle k _ _)

/-! ## Sightings (R23, R24, R33, R72–R78) -/

theorem tallies_dropQueued (f : FixtureNo) (r : Robot) : Tallies k s (dropQueued s f r) :=
  (tallies_setClaims k s f _).trans (tallies_makeHoldOff k _ r f)

theorem tallies_takeRequest (f : FixtureNo) (c : FixtureConfig) (r : Robot) : Tallies k s (takeRequest s f c r) := by
  unfold takeRequest
  split
  · exact .refl k s
  · exact .refl k s
  · exact (tallies_makeHoldOff k s r f).trans (tallies_startTransient k _ f .refused)
  · exact tallies_settle k s _
  · exact tallies_setClaims k s f _

theorem tallies_takeRelease (f : FixtureNo) (c : FixtureConfig) (r : Robot) : Tallies k s (takeRelease s f c r) := by
  unfold takeRelease
  dsimp only
  split
  · split
    · exact tallies_settle k s _
    all_goals exact .refl k s
  · split
    · exact tallies_dropQueued k s f r
    · exact .refl k s

theorem tallies_sightingAtFixture (p : PortNo) (r : Robot) (i : Intent) : Tallies k s (sightingAtFixture s p r i) := by
  unfold sightingAtFixture
  split
  · exact .refl k s
  · split
    · exact .refl k s
    · split
      · exact .refl k s
      · cases i with
        | present => exact tallies_setClaims k s _ _
        | request => exact (tallies_setClaims k s _ _).trans (tallies_takeRequest k _ _ _ _)
        | release => exact (tallies_setClaims k s _ _).trans (tallies_takeRelease k _ _ _ _)

theorem tallies_judgeWord (p : PortNo) : Tallies k s (judgeWord s p) := by
  unfold judgeWord
  split
  · exact (tallies_setPort k s p _).trans (tallies_sightingAtFixture k _ p _ _)
  · exact .refl k s

theorem tallies_completeWord (p : PortNo) (r : Robot) (i : BitVec 2) : Tallies k s (completeWord p r i s) := by
  unfold completeWord
  split
  · exact (tallies_setPort k s p _).trans (tallies_judgeWord k _ p)
  · exact .refl k s

theorem tallies_changeLevel (p : PortNo) (active : Bool) : Tallies k s (changeLevel p active s) := by
  have heard (x : Port) : Tallies k s (s.setPort p x) := tallies_setPort k s p x
  unfold changeLevel
  dsimp only
  split
  · exact .refl k s
  · split
    · exact heard _
    · split
      · exact heard _
      · split
        · exact (heard _).trans (tallies_judgeWord k _ p)
        · exact heard _

end

end Sys2Proof.Machine
end

section
/-! Proofs for 03_zones_and_goals.md, part 7: O6, O8 and O17 settled, from the tallies over frames, over every command and
at a start-up. -/

namespace Sys2Proof.Machine

/-! ## Frames (R43, R97, R101, R104, R110, R174, R175) -/

theorem word16_le (high low : Byte) : word16 high low ≤ 65535 := by
  unfold word16
  have := high.isLt
  have := low.isLt
  omega

/-- R110: a status carries its tick in two bytes. -/
theorem readStatus_tick_le {payload : List Byte} {r : PeerReport} (h : readStatus payload = some r) : r.tick ≤ 65535 := by
  unfold readStatus at h
  split at h
  · split at h
    · cases h
    · obtain rfl := Option.some.inj h
      exact word16_le _ _
  · cases h

/-- Whether a CLEAR is accepted is a matter of the load and the phase. -/
theorem clearAccepted_congr {s t : State} (ready : t.ready = s.ready) (phase : t.clock.phase = s.clock.phase) :
    clearAccepted t = clearAccepted s := by
  unfold clearAccepted
  rw [ready, phase]

theorem OnlyReports.clearAccepted {s t : State} (h : OnlyReports s t) : clearAccepted t = clearAccepted s :=
  clearAccepted_congr (by rw [h]; rfl) (by rw [h])

theorem clearAccepted_advance (s : State) (d : Nat) : clearAccepted (s.advance d) = clearAccepted s :=
  clearAccepted_congr (s.advance_ready d) (s.advance_phase d)

/-- Time alone makes no other attempt. -/
theorem State.advance_attempt_item (s : State) (d : Nat) :
    (s.advance d).line.attempt.map (·.item) = s.line.attempt.map (·.item) := by
  unfold State.advance
  split <;> simp [Line.advance, Function.comp_def]

theorem tallies_dualHold (k : Bool) (s : State) (p : StationNo) (entries : List SummaryEntry) :
    Tallies k s (dualHold s p entries) := by
  unfold dualHold
  split
  · refine .fold fixtureNumbers _ (fun u f => ?_) s
    split
    · exact tallies_settle k u _
    · exact .refl k u
  · exact .refl k s

theorem tallies_takeStatus (k : Bool) (s : State) (p : StationNo) (payload : List Byte) :
    Tallies k s (takeStatus s p payload) := by
  unfold takeStatus
  split
  · exact .refl k s
  · split
    · exact .refl k s
    · rename_i r hread
      have shown (row : PeerRow) : Tallies k s (s.setPeer p row) := (onlyReports_setPeer s p row).tallies k
      dsimp only
      split
      · exact ((shown _).trans (tallies_dualHold k _ p _)).trans (tallies_lateJoin k _ (readStatus_tick_le hread))
      · exact shown _

section
variable {k : Bool} {s t : State}

theorem tallies_takeFrame (kind : FrameKind) (sender : StationNo) (payload : List Byte)
    (hclear : kind = .command → payloadCommand payload = some .clear → clearAccepted s = true → k = true) :
    Tallies k s (takeFrame s kind sender payload) := by
  have met : OnlyReports s (if sender = s.loader.station
      then meetTwin { s with line := { s.line with lastSender := sender } }
      else { s with line := { s.line with lastSender := sender } }) := by
    split
    · exact OnlyReports.trans (t := { s with line := { s.line with lastSender := sender } }) rfl (onlyReports_meetTwin _)
    · rfl
  unfold takeFrame
  dsimp only
  split
  · split
    · rename_i c hc
      exact (met.tallies k).trans (tallies_takeCommand c fun e accepted =>
        hclear rfl (e ▸ hc) (met.clearAccepted ▸ accepted))
    · exact met.tallies k
  · exact (met.tallies k).trans (tallies_takeStatus k _ _ _)
  · exact met.tallies k

theorem tallies_receiveFrame {wanted : Judgement → Bool} {dt : Nat} {frame : List Byte}
    (hclear : ∀ sender payload, judge frame = .valid .command sender payload →
      wanted (.valid .command sender payload) = true → payloadCommand payload = some .clear → clearAccepted s = true →
      k = true)
    (h : receiveFrame wanted dt frame s = .next t) : Tallies k s t := by
  rcases receiveFrame_cases wanted dt frame s with ⟨e, -⟩ | ⟨-, -, hwanted, e⟩
  · rw [e] at h
    obtain rfl := Host.Outcome.next.inj h
    exact tallies_advance k s dt
  · rw [e] at h
    have skipped (d : Nat) : Tallies k s ((s.advance d).skip 0 0) :=
      (tallies_advance k s d).trans (tallies_setReports k _ _ _)
    have same (d : Nat) : clearAccepted ((s.advance d).skip 0 0) = clearAccepted s := clearAccepted_advance s d
    obtain rfl := Host.Outcome.next.inj h
    split
    · rename_i kind sender payload hjudge
      refine (skipped _).trans (tallies_takeFrame kind sender payload ?_)
      rintro rfl hcommand accepted
      exact hclear sender payload hjudge (hjudge ▸ hwanted) hcommand (same _ ▸ accepted)
    · exact skipped _
    · exact skipped _

theorem tallies_succeed (hclear : ∀ a, s.line.attempt = some a → a.item = .command .clear → clearAccepted s = true →
    k = true) : Tallies k s (succeed s) := by
  unfold succeed
  split
  · exact .refl k s
  · rename_i a ha
    have sent (l : Line) (p : Picture) : Tallies k s { s with line := l, picture := p } := tallies_setReports k s l p
    dsimp only
    split
    · rename_i c hc
      exact (sent _ _).trans (tallies_takeCommand c fun e accepted => hclear a ha (e ▸ hc) accepted)
    · exact sent _ _
    · exact sent _ _

/-! ## Every command -/

theorem tallies_expiry {wait : State → Option Nat} {act : State → State} (h : onExpiry wait act s = .next t)
    (hact : ∀ d, Tallies k (s.advance d) (act (s.advance d))) : Tallies k s t := by
  rcases onExpiry_cases h with rfl | ⟨d, -, rfl⟩
  · exact .refl k _
  · exact (tallies_advance k s d).trans (hact d)

theorem tallies_timed {dt : Nat} {act : State → State} (h : afterTime dt act s = .next t)
    (hact : ∀ d, Tallies k (s.advance d) (act (s.advance d))) : Tallies k s t := by
  obtain rfl := Host.Outcome.next.inj h
  exact (tallies_advance k s dt).trans (hact dt)

/-- Every command but those of a reset and a load: the tallies go on, lowered at most where the command brings a CLEAR. -/
theorem tallies_exec {c : Instr} (hc : c.reconfigures = false) (hclear : c.bringsClear s = true → k = true)
    (h : exec c s = .next t) : Tallies k s t := by
  cases c with
  | reset _ => cases hc
  | loadEnd _ _ => cases hc
  | resetAsserted => cases hc
  | sighting dt p r i => exact tallies_timed (act := completeWord p r i) h fun _ => tallies_completeWord k _ p r i
  | holdOffExpiry r f =>
    exact tallies_expiry (wait := holdOffWait r f) (act := dropHoldOff r f) h fun _ => tallies_setHoldOff k _ _
  | sightExpiry p r =>
    exact tallies_expiry (wait := sightWait p r) (act := dropSight p r) h fun _ => tallies_setPort k _ p _
  | lost f =>
    exact tallies_expiry (wait := lostWait f) (act := fun s => settle s [.release f .lost]) h
      fun _ => tallies_settle k _ _
  | queuedLost f r =>
    exact tallies_expiry (wait := queuedLostWait f r) (act := fun s => dropQueued s f r) h
      fun _ => tallies_dropQueued k _ f r
  | overstay f =>
    obtain rfl := Host.Outcome.next.inj h
    split
    · exact (tallies_settle k s _).trans (tallies_resumeTick k _)
    · exact .refl k s
  | countedTick => exact tallies_expiry (wait := tickWait) (act := countTick) h fun _ => tallies_countTick k _
  | refill f =>
    obtain rfl := Host.Outcome.next.inj h
    split
    · exact (tallies_refillFixture k s f).trans (tallies_resumeTick k _)
    · exact .refl k s
  | periodEnd =>
    obtain rfl := Host.Outcome.next.inj h
    split
    · exact tallies_endPeriod k s
    · exact .refl k s
  | graceEnd f => exact tallies_expiry (wait := graceWait f) (act := endGrace f) h fun _ => tallies_endGrace k _ f
  | jam f => exact tallies_expiry (wait := jamWait f) (act := jamGoal f) h fun _ => tallies_jamGoal k _ f
  | unjam f => exact tallies_expiry (wait := unjamWait f) (act := unjamGoal f) h fun _ => tallies_unjamGoal k _ f
  | transientEnd f =>
    exact tallies_expiry (wait := transientWait f) (act := endTransient f) h fun _ => tallies_endTransient k _ f
  | inputSample pins =>
    exact tallies_expiry (wait := sampleWait) (act := fun s => takeLatches (sampleRecords s pins Input.sample)) h
      fun _ => (tallies_sampleRecords k _ pins _).trans (tallies_takeLatches k _)
  | start dt => exact tallies_timed (act := (takeCommand · .start)) h fun _ => tallies_takeCommand .start nofun
  | halt dt => exact tallies_timed (act := (takeCommand · .halt)) h fun _ => tallies_takeCommand .halt nofun
  | resume dt => exact tallies_timed (act := (takeCommand · .resume)) h fun _ => tallies_takeCommand .resume nofun
  | clear dt =>
    exact tallies_timed (act := (takeCommand · .clear)) h fun d => tallies_takeCommand .clear fun _ accepted =>
      hclear ((clearAccepted_advance s d).symm.trans accepted)
  | statusReceived dt frame => exact tallies_receiveFrame (wanted := Judgement.isValid .status) nofun h
  | eventFrameReceived dt frame => exact tallies_receiveFrame (wanted := Judgement.isValid .event) nofun h
  | frameDiscard dt frame => exact tallies_receiveFrame (wanted := (· == .discarded)) nofun h
  | matchFrameReceived dt frame =>
    exact tallies_receiveFrame (wanted := Judgement.isValid .command) (fun sender payload hjudge _ hcommand accepted =>
      hclear (by simp [Instr.bringsClear, hjudge, hcommand, accepted])) h
  | frameAbandon dt cause =>
    change execFrameAbandon dt cause s = _ at h
    unfold execFrameAbandon at h
    split at h <;> obtain rfl := Host.Outcome.next.inj h
    · exact (tallies_advance k s _).trans ((onlyReports_abandon cause _).tallies k)
    · exact tallies_advance k s dt
  | statusTimerExpiry =>
    exact tallies_expiry (wait := statusWait) (act := raiseStatus) h fun _ => tallies_setReports k _ _ _
  | changeEligible => exact tallies_expiry (wait := changeWait) (act := id) h fun _ => .refl k _
  | attemptBegin =>
    exact tallies_expiry (wait := attemptWait) (act := checkHead) h fun _ => (onlyReports_checkHead _).tallies k
  | attemptSuccess =>
    refine tallies_expiry (wait := attemptLeft) (act := succeed) h fun d => tallies_succeed fun a ha hitem accepted => ?_
    rw [clearAccepted_advance] at accepted
    have item := s.advance_attempt_item d
    rw [ha, Option.map_some, hitem] at item
    obtain ⟨b, hb, sent⟩ := Option.map_eq_some_iff.mp item.symm
    exact hclear (by simp [Instr.bringsClear, hb, sent, accepted])
  | attemptAbort dt =>
    change execAttemptAbort dt s = _ at h
    rcases execAttemptAbort_cases dt s with ⟨e, -⟩ | ⟨a, d, -, -, e⟩ <;> rw [e] at h <;>
      obtain rfl := Host.Outcome.next.inj h
    · exact tallies_advance k s dt
    · exact (tallies_advance k s d).trans ((onlyReports_abortAttempt _).tallies k)
  | muteTimerExpiry =>
    exact tallies_expiry (wait := muteWait) (act := leaveMuted) h fun _ => (onlyReports_leaveMuted _).tallies k
  | patternPhaseEnd u =>
    exact tallies_expiry (wait := patternWait u) (act := endPatternPhase u) h fun _ => tallies_endPatternPhase k _ u
  | delayEnd r =>
    exact tallies_expiry (wait := delayWait r) (act := fun s => settle s [.moveOn r]) h fun _ => tallies_settle k _ _
  | lampPhaseEnd u =>
    exact tallies_expiry (wait := lampWait u) (act := endLampPhase u) h fun _ => tallies_setPulse k _ _
  | beaconLevelChange dt p active =>
    exact tallies_timed (act := changeLevel p active) h fun _ => tallies_changeLevel k _ p active
  | beaconWindowOverrun p =>
    exact tallies_expiry (wait := overrunWait p) (act := overrun p) h fun _ => tallies_setPort k _ p _
  | nonSyncCharacter dt line =>
    change execNonSyncCharacter dt line s = _ at h
    rcases execNonSyncCharacter_cases dt line s with ⟨e, -⟩ | ⟨heard, -, -, e⟩ <;> rw [e] at h <;>
      obtain rfl := Host.Outcome.next.inj h
    · exact tallies_advance k s dt
    · exact (tallies_advance k s _).trans (tallies_setReports k _ _ _)
  | receiverReturnToHunt =>
    exact tallies_expiry (wait := huntWait) (act := returnToHunt) h fun _ => tallies_setReports k _ _ _

end

/-! ## Start-up (R187, R194) -/

/-- A station that starts has counted nothing. -/
structure Untallied (s : State) : Prop where
  tick : s.clock.tick = 0
  points : s.engine.points = PerSide.all 0
  control : ∀ f, (s.fixture f).control = Control.start
  scoring : ∀ f, (s.fixture f).scoring = Scoring.start

theorem readScript_untallied (records : List Record) (f : FixtureNo) :
    ((readScript records).fixtures[f]).control = Control.start ∧
      ((readScript records).fixtures[f]).scoring = Scoring.start := by
  rcases readScript_params records f with habsent | ⟨c, dead, k, b, hloaded, -⟩
  · rw [habsent]; exact ⟨rfl, rfl⟩
  · rw [hloaded]; exact ⟨rfl, rfl⟩

theorem untallied_restart (s : State) (l : Loader) (m : Line) : Untallied { State.restart s l with line := m } := by
  have absent (f : FixtureNo) : (State.restart s l).fixture f = Fixture.absent := by
    simp [State.restart, State.fixture, State.reset, Engine.start]
  exact ⟨rfl, rfl, fun f => congrArg Fixture.control (absent f), fun f => congrArg Fixture.scoring (absent f)⟩

theorem untallied_configured (s : State) (records : List Record) (dominant : Nat) :
    Untallied (showIndicators (State.configure s (readScript records) dominant)) := by
  have fixture (f : FixtureNo) : (showIndicators (State.configure s (readScript records) dominant)).fixture f =
      (readScript records).fixtures[f] := by
    rw [State.fixture_def, showIndicators_engine]; rfl
  refine ⟨by rw [showIndicators_clock]; rfl, by rw [showIndicators_engine]; rfl, fun f => ?_, fun f => ?_⟩
  · rw [fixture]
    obtain ⟨control, -⟩ := readScript_untallied records f
    exact control
  · rw [fixture]
    obtain ⟨-, scoring⟩ := readScript_untallied records f
    exact scoring

/-- Every step keeps what the tallies of a station keep and a start-up brings. -/
theorem step_of_tallies {P : State → Prop} (tallies : ∀ {s t : State}, Tallies true s t → P s → P t)
    (untallied : ∀ s, Untallied s → P s) {s t : State} (hs : P s) (h : step s = .next t) : P t := by
  unfold step at h
  split at h
  · obtain rfl := Host.Outcome.next.inj h; exact tallies (tallies_advance true s 1) hs
  · rename_i c rest _
    have popped : P { s with pending := rest } :=
      tallies (s := s) (.of_same id rfl fun _ => .refl _) hs
    cases hc : c.reconfigures with
    | false => exact tallies (tallies_exec hc (fun _ => rfl) h) popped
    | true =>
      cases c with
      | reset straps => obtain rfl := Host.Outcome.next.inj h; exact untallied _ (untallied_restart _ _ _)
      | resetAsserted => obtain rfl := Host.Outcome.next.inj h; exact untallied _ (untallied_restart _ _ _)
      | loadEnd miso pins =>
        change execLoadEnd miso pins _ = _ at h
        unfold execLoadEnd at h
        split at h
        · split at h <;> obtain rfl := Host.Outcome.next.inj h
          · exact tallies (((tallies_sampleRecords true _ _ _).trans (tallies_raiseChange true _)).trans
              (tallies_takeLatches true _)) (untallied _ (untallied_configured _ _ _))
          · exact untallied _ (untallied_restart _ _ _)
        · obtain rfl := Host.Outcome.next.inj h; exact popped
      | _ => cases hc

/-! ## The three statements -/

/-- Settles O6: a zone's own tick keeps it sound (`Control.SoundTo.tick`), CLEAR and a start-up put it at its start, and
nothing else touches it. -/
theorem zonesStaySound : Obligations.ZonesStaySound := by
  unfold Obligations.ZonesStaySound
  intro s t
  refine step_of_tallies (fun {s t} h hs => ?_) fun s h => ?_
  · rw [zonesSound_iff] at hs ⊢
    exact fun f => (h.fixtures f).zone (hs f)
  · rw [zonesSound_iff]
    intro f
    refine ⟨fun _ _ _ _ _ => ?_, ?_⟩ <;> rw [h.control]
    · exact Nat.zero_le _
    · exact ⟨fun _ _ => rfl, fun e => (e rfl).elim⟩

theorem countsSaturate_iff (s : State) : CountsSaturate s ↔ s.clock.tick ≤ 65535 ∧
    (∀ side, s.engine.points.get side ≤ 65535) ∧ ∀ f, (s.fixture f).scoring.pieces ≤ 65535 := by
  constructor
  · rintro ⟨tick, one, two, three, four, pieces⟩
    refine ⟨tick, fun side => ?_, pieces⟩
    fin_cases side
    exacts [Nat.zero_le _, one, two, three, four]
  · rintro ⟨tick, points, pieces⟩
    exact ⟨tick, points 1, points 2, points 3, points 4, pieces⟩

/-- Settles O8: every count that rises saturates (`Rises.saturate`), and every other change puts it to 0. -/
theorem countsStaySaturated : Obligations.CountsStaySaturated := by
  unfold Obligations.CountsStaySaturated
  intro s t
  refine step_of_tallies (fun {s t} h hs => ?_) fun s h => ?_
  · rw [countsSaturate_iff] at hs ⊢
    obtain ⟨tick, points, pieces⟩ := hs
    exact ⟨h.tick tick, fun side => (h.points side (points side)).1, fun f => ((h.fixtures f).pieces (pieces f)).1⟩
  · rw [countsSaturate_iff, h.tick, h.points]
    refine ⟨Nat.zero_le _, fun side => ?_, fun f => ?_⟩
    · fin_cases side <;> exact Nat.zero_le _
    · rw [h.scoring]; exact Nat.zero_le _

/-- A command that brings neither CLEAR nor reset lowers no tally. -/
theorem tallies_of_noClear {c : Instr} {s t : State} (hc : c.bringsClear s = false) (h : exec c s = .next t) :
    Tallies false s t := by
  cases hr : c.reconfigures with
  | false => exact tallies_exec hr (fun e => absurd e (by simp [hc])) h
  | true =>
    cases c with
    | reset _ => cases hc
    | resetAsserted => cases hc
    | loadEnd miso pins =>
      have idle : s.loader.load ≠ .loading := by simpa [Instr.bringsClear] using hc
      change execLoadEnd miso pins s = _ at h
      rw [execLoadEnd, if_neg idle] at h
      obtain rfl := Host.Outcome.next.inj h
      exact .refl false _
    | _ => cases hr

/-- Settles O17: without a CLEAR or a reset the counts only rise (`tallies_of_noClear`). -/
theorem pointsFallOnlyAtClear : Obligations.PointsFallOnlyAtClear := by
  unfold Obligations.PointsFallOnlyAtClear
  intro c s t hc hs h
  obtain ⟨-, points, fixtures⟩ := tallies_of_noClear hc h
  obtain ⟨-, one, two, three, four, pieces⟩ := hs
  have rises {m n : Nat} (r : Rises false m n) (hm : m ≤ 65535) : m ≤ n := (r hm).2 rfl
  exact ⟨rises (points 1) one, rises (points 2) two, rises (points 3) three, rises (points 4) four,
    fun f => rises (fixtures f).pieces (pieces f)⟩

end Sys2Proof.Machine
end

section
/-! Proofs for 04_robot_beacons_and_sight_lists.md, part 1: the beacon decoder and its words (R72–R76): O53 and O57
settled. -/

namespace Sys2Proof.Machine

/-! ## Beacon words (R73, R76) -/

/-- Settles O57. -/
theorem beaconWordRoundTrip : Obligations.BeaconWordRoundTrip := by
  unfold Obligations.BeaconWordRoundTrip
  exact fun r i hr => readWord_beaconWord hr i

theorem bitsValue_append (l : List Bool) (b : Bool) : bitsValue (l ++ [b]) = 2 * bitsValue l + b.toNat := by
  simp [bitsValue]

theorem bitsOf_succ (w n : Nat) : bitsOf (w + 1) n = bitsOf w (n / 2) ++ [n.testBit 0] := by
  simp [bitsOf, List.range_succ_eq_map, Function.comp_def, Nat.testBit_succ]

/-- The number that bits spell has them as its digits. -/
theorem bitsOf_bitsValue (l : List Bool) : bitsOf l.length (bitsValue l) = l := by
  induction l using List.reverseRecOn with
  | nil => rfl
  | append_singleton l b ih =>
    have half : (2 * bitsValue l + b.toNat) / 2 = bitsValue l := by have := b.toNat_lt; omega
    have last : (2 * bitsValue l + b.toNat).testBit 0 = b := by cases b <;> simp [Nat.testBit_zero]
    rw [List.length_append, List.length_singleton, bitsOf_succ, bitsValue_append, half, last, ih]

theorem bitsValue_lt (l : List Bool) : bitsValue l < 2 ^ l.length := by
  rw [← bitsOf_bitsValue l, bitsValue_bitsOf, bitsOf_length]
  exact Nat.mod_lt _ (Nat.two_pow_pos _)

/-- R76: the bits of a word that is judged good are those of its robot and an intent value that stands for its
intent. -/
theorem eq_beaconWord_of_readWord {bits : List Bool} {r : Robot} {intent : Intent}
    (h : readWord bits = some (r, intent)) :
    r ≠ 0 ∧ ∃ i : BitVec 2, bits = beaconWord r i ∧ Intent.ofValue i.toNat = intent := by
  simp only [readWord] at h
  split at h
  · cases h
  · rename_i good
    obtain ⟨hlen, hcheck, hrobot⟩ : bits.length = 12 ∧
        bitsValue (bits.drop 8) = checkNibble (bitsValue (bits.take 8)) ∧
        Fin.ofNat 64 (bitsValue (bits.take 8) / 4) ≠ 0 := by simpa [not_or] using good
    simp only [Option.some.injEq, Prod.mk.injEq] at h
    obtain ⟨rfl, rfl⟩ := h
    have hlow : bitsOf 8 (bitsValue (bits.take 8)) = bits.take 8 := by
      simpa [hlen] using bitsOf_bitsValue (bits.take 8)
    have hhigh : bitsOf 4 (bitsValue (bits.drop 8)) = bits.drop 8 := by
      simpa [hlen] using bitsOf_bitsValue (bits.drop 8)
    have hpayload : bitsValue (bits.take 8) < 256 := by simpa [hlen] using bitsValue_lt (bits.take 8)
    generalize bitsValue (bits.take 8) = payload at *
    refine ⟨hrobot, BitVec.ofNat 2 payload, ?_, ?_⟩
    · have hword : (Fin.ofNat 64 (payload / 4)).val * 4 + (BitVec.ofNat 2 payload).toNat = payload := by
        simp only [Fin.ofNat, BitVec.toNat_ofNat]; omega
      simp only [beaconWord, hword]
      rw [hlow, ← hcheck, hhigh, List.take_append_drop]
    · simp [Intent.ofValue]

/-! ## A port over time, and at the end of a mark or space (R74, R75) -/

/-- Time leaves a port's level, its decoder and its bits, and widens the element in progress. -/
theorem State.advance_port {s : State} (hrun : s.running = true) (dt : Nat) (p : PortNo) :
    ((s.advance dt).ports[p]).active = (s.ports[p]).active ∧ ((s.advance dt).ports[p]).decoder = (s.ports[p]).decoder ∧
      ((s.advance dt).ports[p]).bits = (s.ports[p]).bits ∧
      ((s.advance dt).ports[p]).width = ((s.ports[p]).elapsed + dt) / 50 := by
  rw [s.advance_ports dt hrun]
  exact ⟨rfl, rfl, rfl, rfl⟩

section
variable (x : Port)

@[simp] theorem Port.markEnds_bits : x.markEnds.bits = x.bits := by
  unfold Port.markEnds; cases x.decoder <;> rfl

@[simp] theorem Port.markEnds_sights : x.markEnds.sights = x.sights := by
  unfold Port.markEnds; cases x.decoder <;> rfl

@[simp] theorem Port.spaceEnds_sights : x.spaceEnds.sights = x.sights := by
  unfold Port.spaceEnds
  cases x.decoder with
  | headerSpace => dsimp only; split <;> rfl
  | bitSpace => dsimp only; split <;> rfl
  | _ => rfl

variable {x}

/-! What the end of a mark makes of each decoder state. -/

theorem Port.markEnds_headerMark (h : x.decoder = .headerMark) :
    x.markEnds = { x with decoder := if 17 ≤ x.width ∧ x.width ≤ 23 then .headerSpace else .hunt } := by
  unfold Port.markEnds; rw [h]

theorem Port.markEnds_bitMark (h : x.decoder = .bitMark) :
    x.markEnds = { x with decoder := if 3 ≤ x.width ∧ x.width ≤ 7 then .bitSpace else .hunt } := by
  unfold Port.markEnds; rw [h]

theorem Port.markEnds_trailMark (h : x.decoder = .trailMark) : x.markEnds = { x with decoder := .hunt } := by
  unfold Port.markEnds; rw [h]

theorem Port.markEnds_waitIdle (h : x.decoder = .waitIdle) : x.markEnds = { x with decoder := .hunt } := by
  unfold Port.markEnds; rw [h]

theorem Port.markEnds_space (h : x.decoder = .hunt ∨ x.decoder = .headerSpace ∨ x.decoder = .bitSpace) :
    x.markEnds = x := by
  unfold Port.markEnds; rcases h with h | h | h <;> rw [h]

/-! What the end of a space makes of each decoder state. -/

theorem Port.spaceEnds_hunt (h : x.decoder = .hunt) : x.spaceEnds = { x with decoder := .headerMark } := by
  unfold Port.spaceEnds; rw [h]

theorem Port.spaceEnds_headerSpace (h : x.decoder = .headerSpace) : x.spaceEnds =
    if 8 ≤ x.width ∧ x.width ≤ 12 then { x with decoder := .bitMark, bits := [] }
    else { x with decoder := .headerMark } := by
  unfold Port.spaceEnds; rw [h]

/-- The end of a bit space within one of its two windows takes up the bit that the window stands for. -/
theorem Port.spaceEnds_bit (h : x.decoder = .bitSpace)
    (hw : (3 ≤ x.width ∧ x.width ≤ 7) ∨ (12 ≤ x.width ∧ x.width ≤ 18)) : x.spaceEnds =
      { x with
        bits := x.bits ++ [decide (12 ≤ x.width)]
        decoder := if x.bits.length + 1 < 12 then .bitMark else .trailMark } := by
  unfold Port.spaceEnds; rw [h]; simp only [if_pos hw, List.length_append, List.length_singleton]

theorem Port.spaceEnds_noBit (h : x.decoder = .bitSpace)
    (hw : ¬((3 ≤ x.width ∧ x.width ≤ 7) ∨ (12 ≤ x.width ∧ x.width ≤ 18))) :
    x.spaceEnds = { x with decoder := .headerMark } := by
  unfold Port.spaceEnds; rw [h]; exact if_neg hw

theorem Port.spaceEnds_mark
    (h : x.decoder = .headerMark ∨ x.decoder = .bitMark ∨ x.decoder = .trailMark ∨ x.decoder = .waitIdle) :
    x.spaceEnds = x := by
  unfold Port.spaceEnds; rcases h with h | h | h | h <;> rw [h]

variable (x) in
theorem Port.wordEnds_iff : x.wordEnds = true ↔ x.decoder = .trailMark ∧ 3 ≤ x.width ∧ x.width ≤ 7 := by
  simp [Port.wordEnds, and_assoc]

end

/-! ## A change of level (R74, R75) -/

section
variable {s : State} (p : PortNo)

/-- A change to active ends the port's space. -/
theorem changeLevel_spaceEnds (hready : s.ready = true) (hlevel : s.ports[p].active = false) :
    changeLevel p true s = s.setPort p { s.ports[p].spaceEnds with active := true, elapsed := 0 } := by
  simp only [changeLevel, hlevel, hready, Bool.false_eq_true, if_false, Bool.not_true, if_true]

/-- A change to inactive ends the port's mark, and with a trailing mark of its width the word. -/
theorem changeLevel_inactive (hready : s.ready = true) (hlevel : s.ports[p].active = true) :
    changeLevel p false s =
      if s.ports[p].wordEnds then judgeWord (s.setPort p { s.ports[p].markEnds with active := false, elapsed := 0 }) p
      else s.setPort p { s.ports[p].markEnds with active := false, elapsed := 0 } := by
  simp only [changeLevel, hlevel, hready, Bool.true_eq_false, Bool.false_eq_true, if_false, Bool.not_true]

/-- The end of a mark other than a trailing one ends no word. -/
theorem changeLevel_markEnds (hready : s.ready = true) (hlevel : s.ports[p].active = true)
    (hdecoder : s.ports[p].decoder ≠ .trailMark) :
    changeLevel p false s = s.setPort p { s.ports[p].markEnds with active := false, elapsed := 0 } := by
  rw [changeLevel_inactive p hready hlevel, if_neg]
  rw [Port.wordEnds_iff]
  exact fun h => hdecoder h.1

/-- R76: a word that fails its check brings no sighting. -/
theorem judgeWord_none (h : readWord s.ports[p].bits = none) : judgeWord s p = s := by
  unfold judgeWord; rw [h]

/-- A word whose trailing mark ends within its window is judged as a SIGHTING's would be. -/
theorem changeLevel_eq_completeWord {r : Robot} {i : BitVec 2} (hready : s.ready = true)
    (hlevel : s.ports[p].active = true) (hword : s.ports[p].wordEnds = true)
    (hbits : s.ports[p].bits = beaconWord r i) : changeLevel p false s = completeWord p r i s := by
  obtain ⟨trail, -⟩ := s.ports[p].wordEnds_iff.mp hword
  rw [changeLevel_inactive p hready hlevel, if_pos hword, Port.markEnds_trailMark trail, completeWord, if_pos hready,
    ← hbits]

/-- A trailing mark of another width, or a word that fails its check, only returns the decoder to HUNT. -/
theorem changeLevel_noWord (hready : s.ready = true) (hlevel : s.ports[p].active = true)
    (htrail : s.ports[p].decoder = .trailMark)
    (h : s.ports[p].wordEnds = false ∨ readWord s.ports[p].bits = none) :
    changeLevel p false s = s.setPort p { s.ports[p] with active := false, decoder := .hunt, elapsed := 0 } := by
  rw [changeLevel_inactive p hready hlevel, Port.markEnds_trailMark htrail]
  rcases h with h | h
  · rw [h, if_neg Bool.false_ne_true]
  · rw [judgeWord_none p (by simpa using h), ite_self]

/-- R75: what an overrun makes of a decoder state that has a window. -/
theorem overrun_eq {w : Nat} (h : s.ports[p].decoder.overrunAt = some w) :
    overrun p s = s.setPort p { s.ports[p] with decoder :=
      if s.ports[p].decoder = .headerSpace ∨ s.ports[p].decoder = .bitSpace then .hunt else .waitIdle } := by
  unfold overrun
  generalize s.ports[p] = x at h
  cases hd : x.decoder <;> simp [hd, DecoderState.overrunAt] at h ⊢

end

/-! ## The statement -/

/-- Settles O53, by the decoder states of Table 4-4 at the end of a mark and of a space; the end of a trailing mark is
`changeLevel_eq_completeWord` or `changeLevel_noWord`, and an overrun is `overrun_eq`. -/
theorem decoderFollowsTheLevels : Obligations.DecoderFollowsTheLevels := by
  unfold Obligations.DecoderFollowsTheLevels
  refine ⟨fun s dt p hready hlevel hdec => ?_, fun s dt p hready hlevel => ?_, fun s dt p hready hlevel hdec => ?_,
    fun s p w hready hover _ => ?_⟩
  · obtain ⟨hactive, hdecoder, hbits, hwidth⟩ := State.advance_port (State.ready_running hready) dt p
    have hready' := (s.advance_ready dt).trans hready
    rw [← hactive] at hlevel
    rw [← hdecoder] at hdec
    refine ⟨_, congrArg Host.Outcome.next (changeLevel_markEnds p hready' hlevel hdec), ?_⟩
    simp only [State.setPort_ports, if_true, ← hdecoder, ← hbits, ← hwidth]
    generalize (s.advance dt).ports[p] = x
    refine ⟨trivial, trivial, x.markEnds_bits, x.markEnds_sights, ?_, trivial⟩
    cases hd : x.decoder with
    | headerMark => rw [Port.markEnds_headerMark hd]
    | bitMark => rw [Port.markEnds_bitMark hd]
    | trailMark => rw [Port.markEnds_trailMark hd]
    | waitIdle => rw [Port.markEnds_waitIdle hd]
    | hunt => rw [Port.markEnds_space (.inl hd), hd]
    | headerSpace => rw [Port.markEnds_space (.inr (.inl hd)), hd]
    | bitSpace => rw [Port.markEnds_space (.inr (.inr hd)), hd]
  · obtain ⟨hactive, hdecoder, hbits, hwidth⟩ := State.advance_port (State.ready_running hready) dt p
    have hready' := (s.advance_ready dt).trans hready
    rw [← hactive] at hlevel
    refine ⟨_, congrArg Host.Outcome.next (changeLevel_spaceEnds p hready' hlevel), ?_⟩
    simp only [State.setPort_ports, if_true, ← hdecoder, ← hbits, ← hwidth]
    generalize (s.advance dt).ports[p] = x
    refine ⟨trivial, trivial, x.spaceEnds_sights, ?_, trivial⟩
    cases hd : x.decoder with
    | hunt => rw [Port.spaceEnds_hunt hd]
    | headerSpace =>
      rw [Port.spaceEnds_headerSpace hd]
      dsimp only
      split
      · exact ⟨rfl, rfl⟩
      · rfl
    | bitSpace =>
      refine ⟨fun hw => ?_, fun hw => ?_, fun hw => ?_, fun ⟨hzero, hone⟩ => ?_⟩
      · rw [Port.spaceEnds_bit hd (.inl hw), decide_eq_false (by omega)]
      · rw [Port.spaceEnds_bit hd (.inr hw), decide_eq_true hw.1]
      · rw [Port.spaceEnds_bit hd hw]
      · rw [Port.spaceEnds_noBit hd (not_or.mpr ⟨hzero, hone⟩)]
    | headerMark => rw [Port.spaceEnds_mark (.inl hd), hd]
    | bitMark => rw [Port.spaceEnds_mark (.inr (.inl hd)), hd]
    | trailMark => rw [Port.spaceEnds_mark (.inr (.inr (.inl hd))), hd]
    | waitIdle => rw [Port.spaceEnds_mark (.inr (.inr (.inr hd))), hd]
  · obtain ⟨hactive, hdecoder, hbits, hwidth⟩ := State.advance_port (State.ready_running hready) dt p
    have hready' := (s.advance_ready dt).trans hready
    rw [← hactive] at hlevel
    rw [← hdecoder] at hdec
    have hword : (s.advance dt).ports[p].wordEnds = true ↔
        3 ≤ (s.ports[p].elapsed + dt) / 50 ∧ (s.ports[p].elapsed + dt) / 50 ≤ 7 := by
      rw [Port.wordEnds_iff, ← hwidth, and_iff_right hdec]
    refine ⟨fun hw r i hb => ?_, fun h => ?_, fun r intent h => (eq_beaconWord_of_readWord h).2⟩
    · exact congrArg Host.Outcome.next
        (changeLevel_eq_completeWord p hready' hlevel (hword.mpr hw) (hbits.trans hb))
    · rw [← hword, Bool.not_eq_true, ← hbits] at h
      exact congrArg Host.Outcome.next (changeLevel_noWord p hready' hlevel hdec h)
  · have hwait : overrunWait p s = some (w * 50 - s.ports[p].elapsed) := by
      rw [overrunWait, if_pos hready, hover]; rfl
    have hrun := State.ready_running hready
    obtain ⟨-, hdecoder, -, -⟩ := State.advance_port hrun (w * 50 - s.ports[p].elapsed) p
    rw [← hdecoder] at hover
    have hact := (onExpiry_some hwait).trans (congrArg Host.Outcome.next (overrun_eq p hover))
    refine ⟨_, hact, s.advance_now _ hrun, ?_, ?_⟩
    · simp only [State.setPort_ports, if_true, hdecoder]
    · simp only [State.setPort_ports, if_true]

end Sys2Proof.Machine
end

section
/-! Proofs for 04_robot_beacons_and_sight_lists.md, part 2: the operations behind the commands leave what the outside
gave (`OutsideAs`), but for time, the samples of the inputs and the changes at a beacon port. -/

namespace Sys2Proof.Machine

/-! ## What leaves what the outside gave -/

theorem OutsideAs.refl (s : State) : OutsideAs s s := ⟨rfl, rfl, rfl, rfl, rfl, rfl, rfl⟩

theorem OutsideAs.trans {s t u : State} (h : OutsideAs s t) (k : OutsideAs t u) : OutsideAs s u := by
  obtain ⟨h1, h2, h3, h4, h5, h6, h7⟩ := h
  obtain ⟨k1, k2, k3, k4, k5, k6, k7⟩ := k
  exact ⟨k1.trans h1, k2.trans h2, k3.trans h3, k4.trans h4, k5.trans h5, k6.trans h6, k7.trans h7⟩

/-- A fold of updates that each leave it. -/
theorem OutsideAs.fold {α : Type} (l : List α) (act : State → α → State) (h : ∀ u a, OutsideAs u (act u a))
    (s : State) : OutsideAs s (l.foldl act s) :=
  List.foldlRecOn l act (motive := OutsideAs s) (.refl s) fun u hu a _ => hu.trans (h u a)

theorem RestAs.outsideAs {s t : State} {f : FixtureNo} (h : RestAs s t f) (ports : t.ports = s.ports) :
    OutsideAs s t := by
  obtain ⟨-, -, sides, loader, settings, now, -, inputs, -, pending⟩ := h
  exact ⟨loader, settings, now, ports, inputs, sides, pending⟩

theorem HoldAt.outsideAs {s t : State} {f : FixtureNo} (h : HoldAt f s t) : OutsideAs s t := h.rest.outsideAs h.ports

theorem PlaysOnly.outsideAs {s t : State} (h : PlaysOnly s t) : OutsideAs s t := by
  rw [h]; exact ⟨rfl, rfl, rfl, rfl, rfl, rfl, rfl⟩

theorem OnlyReports.outsideAs {s t : State} (h : OnlyReports s t) : OutsideAs s t := h.playsOnly.outsideAs

section
variable (s : State) (f : FixtureNo)

theorem outsideAs_raiseChange : OutsideAs s s.raiseChange := (onlyReports_raiseChange s).outsideAs

theorem outsideAs_createEvent (e : EventKind) (g : Option FixtureNo) (r : Robot) (side : Side) (v : Nat) :
    OutsideAs s (s.createEvent e g r side v) := (onlyReports_createEvent s e g r side v).outsideAs

theorem outsideAs_queueCommand (c : Command) : OutsideAs s (s.queueCommand c) :=
  (onlyReports_queueCommand s c).outsideAs

theorem outsideAs_setPulse (p : Pulse) : OutsideAs s { s with pulse := p } := (playsOnly_setPulse s p).outsideAs

theorem outsideAs_setClock (c : Clock) : OutsideAs s { s with clock := c } := ⟨rfl, rfl, rfl, rfl, rfl, rfl, rfl⟩

/-- Of the fixture engine, what is configured for all fixtures stands. -/
theorem outsideAs_setEngine {e : Engine} (h : e.sideTable = s.engine.sideTable) : OutsideAs s { s with engine := e } :=
  ⟨rfl, rfl, rfl, rfl, rfl, h, rfl⟩

theorem outsideAs_setFixture (x : Fixture) : OutsideAs s (s.setFixture f x) := outsideAs_setEngine s rfl

theorem outsideAs_setClaims (c : Claims) : OutsideAs s (s.setClaims f c) := outsideAs_setFixture s f _

theorem outsideAs_setFixtureState (st : FixtureState) : OutsideAs s (s.setFixtureState f st) :=
  outsideAs_setFixture s f _

theorem outsideAs_makeHoldOff (r : Robot) : OutsideAs s (s.makeHoldOff r f) := (holdAt_makeHoldOff s r f).outsideAs

theorem outsideAs_refreshIndicator : OutsideAs s (s.refreshIndicator f) := (holdAt_refreshIndicator s f).outsideAs

theorem outsideAs_startTransient (t : Transient) : OutsideAs s (s.startTransient f t) :=
  (outsideAs_setFixture s f _).trans (outsideAs_refreshIndicator _ f)

/-! ## Tasks (R27, R34–R36, R40–R42, R141–R149) -/

theorem outsideAs_perform (t : Task) : OutsideAs s (perform s t).1 := by
  rcases perform_cases s t with ⟨-, plays⟩ | ⟨g, r, rfl⟩ | ⟨g, -, held⟩
  · exact plays.outsideAs
  · exact (holdAt_performReport s g r).outsideAs
  · exact held.outsideAs

theorem outsideAs_settle (ts : List Task) : OutsideAs s (settle s ts) :=
  settle_keeps (OutsideAs s) (fun u t h => h.trans (outsideAs_perform u t)) s ts (.refl s)

/-! ## Notices (R5–R7, R96, R150) -/

theorem outsideAs_claimNotice (c : FixtureConfig) (new : Phase) : OutsideAs s (claimNotice s f c new) := by
  unfold claimNotice
  split
  · exact (outsideAs_setFixtureState s f _).trans (outsideAs_raiseChange _)
  · exact (outsideAs_setFixtureState s f _).trans (outsideAs_raiseChange _)
  · exact outsideAs_settle s _
  · exact .refl s

theorem outsideAs_zoneNotice (c : FixtureConfig) (new : Phase) : OutsideAs s (zoneNotice s f c new) := by
  unfold zoneNotice
  dsimp only
  split
  · exact (outsideAs_setFixture s f _).trans (outsideAs_raiseChange _)
  · exact (outsideAs_setFixture s f _).trans (outsideAs_raiseChange _)
  · exact .refl s

theorem outsideAs_goalNotice (c : FixtureConfig) (grace : Nat) (old new : Phase) :
    OutsideAs s (goalNotice s f c grace old new) := by
  unfold goalNotice
  dsimp only
  split
  · exact (outsideAs_setFixtureState s f _).trans (outsideAs_raiseChange _)
  · split
    · exact (outsideAs_setFixtureState s f _).trans (outsideAs_raiseChange _)
    · exact (outsideAs_setFixture s f _).trans (outsideAs_raiseChange _)
  · exact .refl s

theorem outsideAs_fixtureNotice (old new : Phase) : OutsideAs s (fixtureNotice old new s f) := by
  refine .trans ?_ (outsideAs_refreshIndicator _ f)
  split
  · exact .refl s
  · split
    · exact .refl s
    · split
      · exact outsideAs_claimNotice s f _ new
      · exact outsideAs_claimNotice s f _ new
      · exact outsideAs_zoneNotice s f _ new
      · exact outsideAs_goalNotice s f _ _ old new

theorem outsideAs_haltRunner (r : RunnerId) : OutsideAs s (haltRunner s r) :=
  ((playsOnly_setPulse s _).trans (playsOnly_setRunner _ r _)).outsideAs.trans (outsideAs_settle _ _)

theorem outsideAs_haltRunners : OutsideAs s (haltRunners s) :=
  (outsideAs_haltRunner s .A).trans (outsideAs_haltRunner _ .B)

theorem outsideAs_announce (old : Phase) : OutsideAs s (announce s old) := by
  have noticed := OutsideAs.fold fixtureNumbers (fixtureNotice old s.clock.phase)
    (fun u f => outsideAs_fixtureNotice u f old s.clock.phase) s
  have shown (u : State) (p : Pulse) : OutsideAs u (State.raiseChange { u with pulse := p }) :=
    (outsideAs_setPulse u p).trans (outsideAs_raiseChange _)
  unfold announce
  dsimp only
  split
  · exact (noticed.trans (outsideAs_haltRunners _)).trans (shown _ _)
  · exact noticed.trans (shown _ _)

theorem outsideAs_changePhase (new : Phase) : OutsideAs s (changePhase s new) :=
  (outsideAs_setClock s _).trans (outsideAs_announce _ _)

/-! ## Match commands and late join (R92–R104) -/

theorem outsideAs_applyStart : OutsideAs s (applyStart s) :=
  ((outsideAs_setEngine s (by rfl)).trans (outsideAs_setClock _ _)).trans (outsideAs_changePhase s.startBegun _)

theorem outsideAs_applyHalt : OutsideAs s (applyHalt s) :=
  (outsideAs_setClock s _).trans (outsideAs_changePhase _ _)

theorem outsideAs_clearEnded : OutsideAs s s.clearEnded :=
  (PlaysOnly.outsideAs (s := s) (t := { s with
    runners := { s.runners with fault := false }
    pulse := s.pulse.leaveSafe
    picture := { s.picture with eventsLost := false } }) rfl).trans (outsideAs_raiseChange _)

theorem outsideAs_applyClear : OutsideAs s (applyClear s) := by
  rw [applyClear_eq]
  have cleared : OutsideAs s s.fixturesCleared := (outsideAs_setClock s _).trans (outsideAs_setEngine _ (by rfl))
  exact ((cleared.trans (.fold fixtureNumbers _ outsideAs_refreshIndicator _)).trans
    (outsideAs_haltRunners _)).trans (outsideAs_clearEnded _)

theorem outsideAs_takeCommand (c : Command) : OutsideAs s (takeCommand s c) := by
  unfold takeCommand
  split
  · exact .refl s
  · split
    · exact outsideAs_queueCommand s .halt
    · split
      · exact .refl s
      · cases c with
        | start => exact outsideAs_applyStart s
        | halt => exact outsideAs_applyHalt s
        | resume => exact outsideAs_changePhase s _
        | clear => exact outsideAs_applyClear s

theorem outsideAs_localHalt (mode : InputMode) : OutsideAs s (localHalt s mode) := by
  unfold localHalt
  split
  · cases mode with
    | edge => exact outsideAs_queueCommand s .halt
    | level => exact .refl s
  · exact (outsideAs_applyHalt s).trans (outsideAs_queueCommand _ .halt)

theorem outsideAs_localCommand (c : Command) (mode : InputMode) : OutsideAs s (localCommand s c mode) := by
  unfold localCommand
  split
  · exact outsideAs_localHalt s mode
  · split
    · exact outsideAs_queueCommand s _
    · split
      · exact .refl s
      · exact outsideAs_queueCommand s _
  all_goals
    split
    · exact .refl s
    · exact outsideAs_queueCommand s _

theorem outsideAs_lateJoin (row : PeerRow) : OutsideAs s (lateJoin s row) := by
  unfold lateJoin
  split
  · exact (outsideAs_setClock s _).trans (outsideAs_changePhase _ _)
  · exact .refl s

/-! ## Counted ticks (R30, R39, R48, R54, R90) -/

theorem outsideAs_fixtureTick : OutsideAs s (fixtureTick s f) := by
  unfold fixtureTick
  dsimp only
  split
  · exact .refl s
  · split
    · exact .refl s
    · split
      · unfold gateTick
        dsimp only
        split
        · exact outsideAs_setClaims s f _
        · exact .refl s
      · unfold dispenserTick
        dsimp only
        split
        · exact outsideAs_setClaims s f _
        · exact .refl s
      · split
        · rw [zoneTick_eq]
          exact ((s.zoned_restAs f _).outsideAs (s.zoned_ports f _)).trans (outsideAs_settle _ _)
        · exact .refl s
      · exact .refl s

theorem outsideAs_tickOn (fs : List FixtureNo) : OutsideAs s (tickOn fs s) :=
  tickOn_keeps (OutsideAs s) (fun u f h => h.trans (outsideAs_fixtureTick u f))
    (fun u _ h => h.trans (outsideAs_setClock u _)) fs s (.refl s)

theorem outsideAs_finishTick : OutsideAs s (finishTick s) :=
  finishTick_keeps (OutsideAs s) (fun u f h => h.trans (outsideAs_fixtureTick u f))
    (fun u _ h => h.trans (outsideAs_setClock u _)) s (.refl s)

theorem outsideAs_resumeTick : OutsideAs s (resumeTick s) := by
  unfold resumeTick
  split
  · exact outsideAs_tickOn s _
  · exact .refl s

theorem outsideAs_countTick : OutsideAs s (countTick s) :=
  ((outsideAs_finishTick s).trans (outsideAs_setClock _ _)).trans (outsideAs_tickOn _ _)

theorem outsideAs_endPeriod : OutsideAs s (endPeriod s) :=
  ((outsideAs_finishTick s).trans (outsideAs_setClock _ _)).trans (outsideAs_changePhase _ _)

/-! ## Refills and goals (R39, R57–R69) -/

theorem outsideAs_refillFixture : OutsideAs s (refillFixture f s) := by
  unfold refillFixture
  dsimp only
  split
  · exact .refl s
  · split
    · exact outsideAs_setClaims s f _
    all_goals exact .refl s

theorem outsideAs_countPiece (c : FixtureConfig) (rule : Option CreditRule) (values : PerPhase) (phase : Phase) :
    OutsideAs s (countPiece s f c rule values phase) :=
  (((((outsideAs_setFixture s f _).trans (outsideAs_setEngine _ (by rfl))).trans
    (outsideAs_createEvent _ _ _ _ _ _)).trans (outsideAs_raiseChange _)).trans
      (outsideAs_startTransient _ f .scored)).trans (outsideAs_settle _ _)

theorem outsideAs_takePiece : OutsideAs s (takePiece s f) := by
  unfold takePiece
  dsimp only
  split
  · exact .refl s
  · split
    · split
      · exact .refl s
      · split
        · exact outsideAs_countPiece s f _ _ _ _
        · split
          · exact outsideAs_countPiece s f _ _ _ _
          · exact .refl s
        all_goals exact .refl s
    all_goals exact .refl s

theorem outsideAs_endGrace : OutsideAs s (endGrace f s) := by
  unfold endGrace
  dsimp only
  split
  · exact .refl s
  · split
    · exact outsideAs_setFixture s f _
    · exact ((outsideAs_setFixture s f _).trans (outsideAs_raiseChange _)).trans (outsideAs_refreshIndicator _ f)

theorem outsideAs_jamGoal : OutsideAs s (jamGoal f s) :=
  (((outsideAs_setFixture s f _).trans (outsideAs_createEvent _ _ _ _ _ _)).trans (outsideAs_raiseChange _)).trans
    (outsideAs_refreshIndicator _ f)

theorem outsideAs_unjamGoal : OutsideAs s (unjamGoal f s) := by
  unfold unjamGoal
  dsimp only
  split
  · exact .refl s
  · exact (((outsideAs_setFixture s f _).trans (outsideAs_createEvent _ _ _ _ _ _)).trans
      (outsideAs_raiseChange _)).trans (outsideAs_refreshIndicator _ f)

theorem outsideAs_endTransient : OutsideAs s (endTransient f s) :=
  (outsideAs_setFixture s f _).trans (outsideAs_refreshIndicator _ f)

/-! ## Patterns (R145, R157) -/

theorem outsideAs_endPatternPhase (u : UnitNo) : OutsideAs s (endPatternPhase u s) := by
  unfold endPatternPhase
  split
  · exact .refl s
  · split
    · exact outsideAs_setPulse s _
    · unfold endPattern
      dsimp only
      split
      · exact outsideAs_setPulse s _
      · exact (outsideAs_setPulse s _).trans (outsideAs_settle _ _)

/-! ## A sighting at the fixture engine (R23, R24, R33, R78) -/

theorem outsideAs_dropQueued (r : Robot) : OutsideAs s (dropQueued s f r) :=
  (outsideAs_setClaims s f _).trans (outsideAs_makeHoldOff _ f r)

theorem outsideAs_takeRequest (c : FixtureConfig) (r : Robot) : OutsideAs s (takeRequest s f c r) := by
  unfold takeRequest
  split
  · exact .refl s
  · exact .refl s
  · exact (outsideAs_makeHoldOff s f r).trans (outsideAs_startTransient _ f .refused)
  · exact outsideAs_settle s _
  · exact outsideAs_setClaims s f _

theorem outsideAs_takeRelease (c : FixtureConfig) (r : Robot) : OutsideAs s (takeRelease s f c r) := by
  unfold takeRelease
  dsimp only
  split
  · split
    · exact outsideAs_settle s _
    all_goals exact .refl s
  · split
    · exact outsideAs_dropQueued s f r
    · exact .refl s

theorem outsideAs_sightingAtFixture (p : PortNo) (r : Robot) (i : Intent) :
    OutsideAs s (sightingAtFixture s p r i) := by
  unfold sightingAtFixture
  split
  · exact .refl s
  · split
    · exact .refl s
    · split
      · exact .refl s
      · cases i with
        | present => exact outsideAs_setClaims s _ _
        | request => exact (outsideAs_setClaims s _ _).trans (outsideAs_takeRequest _ _ _ _)
        | release => exact (outsideAs_setClaims s _ _).trans (outsideAs_takeRelease _ _ _ _)

/-! ## Frames (R43, R97, R101, R104, R110, R175) -/

theorem outsideAs_dualHold (p : StationNo) (entries : List SummaryEntry) : OutsideAs s (dualHold s p entries) := by
  unfold dualHold
  split
  · refine .fold fixtureNumbers _ (fun u f => ?_) s
    split
    · exact outsideAs_settle u _
    · exact .refl u
  · exact .refl s

theorem outsideAs_takeStatus (p : StationNo) (payload : List Byte) : OutsideAs s (takeStatus s p payload) := by
  have shown (row : PeerRow) : OutsideAs s (s.setPeer p row) := (onlyReports_setPeer s p row).outsideAs
  unfold takeStatus
  split
  · exact .refl s
  · split
    · exact .refl s
    · dsimp only
      split
      · exact ((shown _).trans (outsideAs_dualHold _ p _)).trans (outsideAs_lateJoin _ _)
      · exact shown _

theorem outsideAs_takeFrame (kind : FrameKind) (sender : StationNo) (payload : List Byte) :
    OutsideAs s (takeFrame s kind sender payload) := by
  have met : OutsideAs s (if sender = s.loader.station then
      meetTwin { s with line := { s.line with lastSender := sender } }
      else { s with line := { s.line with lastSender := sender } }) := by
    split
    · exact (OnlyReports.trans (t := { s with line := { s.line with lastSender := sender } }) rfl
        (onlyReports_meetTwin _)).outsideAs
    · exact OnlyReports.outsideAs rfl
  unfold takeFrame
  dsimp only
  split
  · split
    · exact met.trans (outsideAs_takeCommand _ _)
    · exact met
  · exact met.trans (outsideAs_takeStatus _ _ _)
  · exact met

theorem outsideAs_succeed : OutsideAs s (succeed s) := by
  have sent (l : Line) (p : Picture) : OutsideAs s { s with line := l, picture := p } := OnlyReports.outsideAs rfl
  unfold succeed
  split
  · exact .refl s
  · dsimp only
    split
    · exact (sent _ _).trans (outsideAs_takeCommand _ _)
    · exact sent _ _
    · exact sent _ _

end

end Sys2Proof.Machine
end

section
/-! Proofs for 04_robot_beacons_and_sight_lists.md, part 3: O4 settled: what adds to a sight list and takes from it,
and every command. -/

namespace Sys2Proof.Machine

/-! ## One sight list (R80–R83) -/

/-- R80: an entry is of a robot, with the side table's side, and no older than the sight window. -/
def State.SoundSight (s : State) (e : Sight) : Prop :=
  e.robot ≠ 0 ∧ e.side = s.sideOf e.robot ∧ s.now ≤ (e.lastSeen + s.settings.sightWindow) * 1000

/-- R80: what `SightsBounded` says of one sight list. -/
structure State.SoundSights (s : State) (l : List Sight) : Prop where
  room : l.length ≤ 8
  once : l.Pairwise fun x y => x.robot ≠ y.robot
  entries : ∀ e ∈ l, s.SoundSight e

theorem sightsBounded_iff (s : State) : SightsBounded s ↔
    (s.ready = true → 100 ≤ s.settings.sightWindow) ∧ ∀ p : PortNo, s.SoundSights s.ports[p].sights :=
  and_congr_right fun _ => forall_congr' fun _ => ⟨fun ⟨room, once, entries⟩ => ⟨room, once, entries⟩,
    fun ⟨room, once, entries⟩ => ⟨room, once, entries⟩⟩

theorem evictSight_sublist (l : List Sight) : (evictSight l).Sublist l := by
  cases l with
  | nil => exact .slnil
  | cons x rest => exact List.erase_sublist

/-- A list that makes room loses an entry. -/
theorem evictSight_length_lt {l : List Sight} (hne : l ≠ []) (h : l.Nodup) : (evictSight l).length < l.length := by
  obtain ⟨y, hy, -, left⟩ := evictSight_spec hne h
  refine lt_of_le_of_ne (evictSight_sublist l).length_le fun e => ?_
  have same := (evictSight_sublist l).eq_of_length e
  obtain ⟨-, gone⟩ := (left y).mp (same.symm ▸ hy)
  exact gone rfl

/-- R81: a robot that is listed has its entry replaced in place. -/
theorem addSight_listed {l : List Sight} {e : Sight} (h : ∃ x ∈ l, x.robot = e.robot) :
    addSight l e = l.map fun x => if x.robot = e.robot then e else x := by
  have hany : l.any (·.robot == e.robot) = true := by simpa using h
  simp [addSight, hany]

theorem addSight_unlisted {l : List Sight} {e : Sight} (h : ∀ x ∈ l, x.robot ≠ e.robot) :
    addSight l e = if l.length < 8 then l ++ [e] else evictSight l ++ [e] := by
  have hany : l.any (·.robot == e.robot) = false := by simpa [List.any_eq_false] using h
  simp only [addSight, hany, Bool.false_eq_true, if_false]; rfl

namespace State.SoundSights

variable {s : State} {l : List Sight}

theorem nil (s : State) : s.SoundSights [] := ⟨Nat.zero_le _, .nil, fun _ h => nomatch h⟩

theorem sublist {m : List Sight} (h : s.SoundSights l) (sub : m.Sublist l) : s.SoundSights m :=
  ⟨sub.length_le.trans h.room, h.once.sublist sub, fun e he => h.entries e (sub.subset he)⟩

/-- An entry of a robot that is not listed is added where there is room for it. -/
theorem append {e : Sight} (h : s.SoundSights l) (room : l.length < 8) (unlisted : ∀ x ∈ l, x.robot ≠ e.robot)
    (entry : s.SoundSight e) : s.SoundSights (l ++ [e]) where
  room := by rw [List.length_append]; exact room
  once := List.pairwise_append.mpr ⟨h.once, List.pairwise_singleton _ _, fun x hx y hy => by
    rw [List.mem_singleton.mp hy]; exact unlisted x hx⟩
  entries x hx := by
    rcases List.mem_append.mp hx with hx | hx
    · exact h.entries x hx
    · rw [List.mem_singleton.mp hx]; exact entry

/-- R81, R82: a sighting replaces its robot's entry, or makes room for a new one. -/
theorem addSight {e : Sight} (h : s.SoundSights l) (entry : s.SoundSight e) : s.SoundSights (addSight l e) := by
  by_cases listed : ∃ x ∈ l, x.robot = e.robot
  · rw [addSight_listed listed]
    have robot (x : Sight) : (if x.robot = e.robot then e else x).robot = x.robot := by
      split
      · exact Eq.symm ‹_›
      · rfl
    refine ⟨by simpa using h.room, h.once.map _ fun a b hab => by rwa [robot, robot], fun x hx => ?_⟩
    obtain ⟨y, hy, rfl⟩ := List.mem_map.mp hx
    split
    · exact entry
    · exact h.entries y hy
  · have unlisted : ∀ x ∈ l, x.robot ≠ e.robot := fun x hx hr => listed ⟨x, hx, hr⟩
    rw [addSight_unlisted unlisted]
    split
    · exact h.append ‹_› unlisted entry
    · have sub := evictSight_sublist l
      refine (h.sublist sub).append ?_ (fun x hx => unlisted x (sub.subset hx)) entry
      have nodup : l.Nodup := h.once.imp fun hne e => hne (by rw [e])
      exact (evictSight_length_lt (by rintro rfl; simp at *) nodup).trans_le h.room

end State.SoundSights

/-! ## The sight lists of a station -/

namespace SightsBounded

variable {s t : State}

/-- The sight lists are a matter of what the outside gave. -/
theorem outside (h : SightsBounded s) (same : OutsideAs s t) : SightsBounded t := by
  obtain ⟨loader, settings, now, ports, -, sides, -⟩ := same
  unfold SightsBounded State.ready State.sideOf at h ⊢
  rwa [loader, settings, now, ports, sides]

theorem setPort (h : SightsBounded s) (p : PortNo) {x : Port} (hx : s.SoundSights x.sights) :
    SightsBounded (s.setPort p x) := by
  rw [sightsBounded_iff] at h ⊢
  obtain ⟨window, sound⟩ := h
  refine ⟨window, fun q => ?_⟩
  rw [State.setPort_ports]
  split
  · exact ⟨hx.room, hx.once, hx.entries⟩
  · exact ⟨(sound q).room, (sound q).once, (sound q).entries⟩

/-- A port that goes on with its sight list, or with entries fewer. -/
theorem setPort_sublist (h : SightsBounded s) (p : PortNo) {x : Port} (hx : x.sights.Sublist s.ports[p].sights) :
    SightsBounded (s.setPort p x) := h.setPort p ((((sightsBounded_iff s).mp h).2 p).sublist hx)

/-- R80: time drops the entries that it makes older than the sight window. -/
theorem advance (h : SightsBounded s) (d : Nat) : SightsBounded (s.advance d) := by
  cases hrun : s.running with
  | false => rw [s.advance_stopped d hrun]; exact h
  | true =>
    rw [sightsBounded_iff] at h ⊢
    obtain ⟨window, sound⟩ := h
    refine ⟨by simpa using window, fun p => ?_⟩
    rw [s.advance_ports d hrun]
    have left : (s.ports[p].advance (s.now + d) s.settings.sightWindow d).sights.Sublist s.ports[p].sights :=
      List.filter_sublist
    obtain ⟨room, once, entries⟩ := (sound p).sublist left
    refine ⟨room, once, fun e he => ?_⟩
    obtain ⟨robot, side, -⟩ := entries e he
    refine ⟨robot, by rw [State.advance_sideOf]; exact side, ?_⟩
    rw [s.advance_now d hrun, State.advance_settings]
    exact of_decide_eq_true (List.mem_filter.mp he).2

/-- R79, R80: the sighting of a robot, just seen, at a configured station. -/
theorem takeSighting (h : SightsBounded s) (hready : s.ready = true) (p : PortNo) {r : Robot} (hr : r ≠ 0)
    (i : Intent) : SightsBounded (takeSighting s p r i) := by
  obtain ⟨window, sound⟩ := (sightsBounded_iff s).mp h
  have recent : s.now ≤ (s.nowMs + s.settings.sightWindow) * 1000 := by
    have := window hready
    simp only [State.nowMs, Config.ms]
    omega
  have seen := (sound p).addSight (e := ⟨r, s.sideOf r, s.nowMs⟩) ⟨hr, rfl, recent⟩
  exact (h.setPort p (by exact seen)).outside (outsideAs_sightingAtFixture _ p r i)

theorem judgeWord (h : SightsBounded s) (hready : s.ready = true) (p : PortNo) : SightsBounded (judgeWord s p) := by
  unfold Machine.judgeWord
  split
  · rename_i r i hword
    obtain ⟨hr, -⟩ := eq_beaconWord_of_readWord hword
    exact h.takeSighting hready p hr i
  · exact h

theorem completeWord (h : SightsBounded s) (p : PortNo) (r : Robot) (i : BitVec 2) :
    SightsBounded (completeWord p r i s) := by
  unfold Machine.completeWord
  split
  · exact (h.setPort_sublist p (by exact .refl _)).judgeWord ‹_› p
  · exact h

theorem changeLevel (h : SightsBounded s) (p : PortNo) (active : Bool) : SightsBounded (changeLevel p active s) := by
  have heard {x : Port} (hx : x.sights = s.ports[p].sights) : SightsBounded (s.setPort p x) :=
    h.setPort_sublist p (hx ▸ .refl _)
  unfold Machine.changeLevel
  dsimp only
  split
  · exact h
  · split
    · exact heard (by rfl)
    · rename_i hready
      rw [Bool.not_eq_true, Bool.not_eq_false'] at hready
      split
      · exact heard (by exact s.ports[p].spaceEnds_sights)
      · split
        · exact (heard (by exact s.ports[p].markEnds_sights)).judgeWord hready p
        · exact heard (by exact s.ports[p].markEnds_sights)

/-! ### Inputs (R127–R131) -/

theorem sampleRecords (h : SightsBounded s) (pins : BitVec 12) (sample : Input → Bool → Input) :
    SightsBounded (sampleRecords s pins sample) := by
  have sampled (x : Inputs) (v : Vector Fixture 8) :
      SightsBounded { s with inputs := x, engine := { s.engine with fixtures := v } } := h
  unfold Machine.sampleRecords
  dsimp only
  split
  · exact sampled _ _
  · exact (sampled _ _).outside (outsideAs_raiseChange _)

theorem takeLatch (h : SightsBounded s) (i : InputNo) : SightsBounded (takeLatch s i) := by
  have taken : SightsBounded (s.setInput i { s.inputs.records[i] with latch := false }) := h
  unfold Machine.takeLatch
  dsimp only
  split
  · exact h
  · split
    · exact h
    · split
      · exact h
      · exact taken.outside (outsideAs_takePiece _ _)
    · exact taken.outside (outsideAs_localCommand _ _ _)

theorem takeLatches (h : SightsBounded s) : SightsBounded (takeLatches s) :=
  List.foldlRecOn inputNumbers Machine.takeLatch (motive := SightsBounded) h fun _ hu i _ => hu.takeLatch i

/-! ### The two shapes of a command -/

theorem expiry {wait : State → Option Nat} {act : State → State} (hs : SightsBounded s)
    (h : onExpiry wait act s = .next t) (hact : ∀ u, SightsBounded u → SightsBounded (act u)) : SightsBounded t := by
  rcases onExpiry_cases h with rfl | ⟨d, -, rfl⟩
  · exact hs
  · exact hact _ (hs.advance d)

/-- The expiries that leave what the outside gave. -/
theorem expiryWithin {wait : State → Option Nat} {act : State → State} (hs : SightsBounded s)
    (h : onExpiry wait act s = .next t) (hact : ∀ u, OutsideAs u (act u)) : SightsBounded t :=
  hs.expiry h fun u hu => hu.outside (hact u)

theorem timed {dt : Nat} {act : State → State} (hs : SightsBounded s) (h : afterTime dt act s = .next t)
    (hact : ∀ u, SightsBounded u → SightsBounded (act u)) : SightsBounded t := by
  obtain rfl := Host.Outcome.next.inj h
  exact hact _ (hs.advance dt)

theorem command {dt : Nat} {c : Command} (hs : SightsBounded s) (h : afterTime dt (takeCommand · c) s = .next t) :
    SightsBounded t := hs.timed h fun u hu => hu.outside (outsideAs_takeCommand u c)

theorem receiveFrame {wanted : Judgement → Bool} {dt : Nat} {frame : List Byte} (hs : SightsBounded s)
    (h : receiveFrame wanted dt frame s = .next t) : SightsBounded t := by
  have skipped (d : Nat) : SightsBounded ((s.advance d).skip 0 0) := (hs.advance d).outside (OnlyReports.outsideAs rfl)
  rcases receiveFrame_cases wanted dt frame s with ⟨e, -⟩ | ⟨-, -, -, e⟩ <;> rw [e] at h <;>
    obtain rfl := Host.Outcome.next.inj h
  · exact hs.advance dt
  · split
    · exact (skipped _).outside (outsideAs_takeFrame _ _ _ _)
    · exact skipped _
    · exact skipped _

/-! ### Every command -/

/-- Every command but those of a reset and a load. -/
theorem exec {c : Instr} (hs : SightsBounded s) (hc : c.reconfigures = false) (h : exec c s = .next t) :
    SightsBounded t := by
  cases c with
  | reset _ => cases hc
  | loadEnd _ _ => cases hc
  | resetAsserted => cases hc
  | sighting dt p r i => exact hs.timed (act := Machine.completeWord p r i) h fun _ hu => hu.completeWord p r i
  | beaconLevelChange dt p active =>
    exact hs.timed (act := Machine.changeLevel p active) h fun _ hu => hu.changeLevel p active
  | beaconWindowOverrun p =>
    exact hs.expiry (wait := overrunWait p) (act := overrun p) h fun _ hu => hu.setPort_sublist p (.refl _)
  | sightExpiry p r =>
    exact hs.expiry (wait := sightWait p r) (act := dropSight p r) h
      fun _ hu => hu.setPort_sublist p List.filter_sublist
  | inputSample pins =>
    exact hs.expiry (wait := sampleWait)
      (act := fun s => Machine.takeLatches (Machine.sampleRecords s pins Input.sample)) h
      fun _ hu => (hu.sampleRecords pins Input.sample).takeLatches
  | holdOffExpiry r f =>
    exact hs.expiryWithin (wait := holdOffWait r f) (act := dropHoldOff r f) h fun u => outsideAs_setEngine u rfl
  | lost f =>
    exact hs.expiryWithin (wait := lostWait f) (act := fun s => settle s [.release f .lost]) h
      fun u => outsideAs_settle u _
  | queuedLost f r =>
    exact hs.expiryWithin (wait := queuedLostWait f r) (act := fun s => dropQueued s f r) h
      fun u => outsideAs_dropQueued u f r
  | overstay f =>
    obtain rfl := Host.Outcome.next.inj h
    split
    · exact hs.outside ((outsideAs_settle s _).trans (outsideAs_resumeTick _))
    · exact hs
  | countedTick => exact hs.expiryWithin (wait := tickWait) (act := countTick) h outsideAs_countTick
  | refill f =>
    obtain rfl := Host.Outcome.next.inj h
    split
    · exact hs.outside ((outsideAs_refillFixture s f).trans (outsideAs_resumeTick _))
    · exact hs
  | periodEnd =>
    obtain rfl := Host.Outcome.next.inj h
    split
    · exact hs.outside (outsideAs_endPeriod s)
    · exact hs
  | graceEnd f =>
    exact hs.expiryWithin (wait := graceWait f) (act := endGrace f) h fun u => outsideAs_endGrace u f
  | jam f => exact hs.expiryWithin (wait := jamWait f) (act := jamGoal f) h fun u => outsideAs_jamGoal u f
  | unjam f => exact hs.expiryWithin (wait := unjamWait f) (act := unjamGoal f) h fun u => outsideAs_unjamGoal u f
  | transientEnd f =>
    exact hs.expiryWithin (wait := transientWait f) (act := endTransient f) h fun u => outsideAs_endTransient u f
  | start dt => exact hs.command (c := .start) h
  | halt dt => exact hs.command (c := .halt) h
  | resume dt => exact hs.command (c := .resume) h
  | clear dt => exact hs.command (c := .clear) h
  | statusReceived dt frame => exact hs.receiveFrame (wanted := Judgement.isValid .status) h
  | eventFrameReceived dt frame => exact hs.receiveFrame (wanted := Judgement.isValid .event) h
  | frameDiscard dt frame => exact hs.receiveFrame (wanted := (· == .discarded)) h
  | matchFrameReceived dt frame => exact hs.receiveFrame (wanted := Judgement.isValid .command) h
  | frameAbandon dt cause =>
    change execFrameAbandon dt cause s = _ at h
    unfold execFrameAbandon at h
    split at h <;> obtain rfl := Host.Outcome.next.inj h
    · exact (hs.advance _).outside (onlyReports_abandon cause _).outsideAs
    · exact hs.advance dt
  | statusTimerExpiry =>
    exact hs.expiryWithin (wait := statusWait) (act := raiseStatus) h fun _ => OnlyReports.outsideAs rfl
  | changeEligible => exact hs.expiry (wait := changeWait) (act := id) h fun _ hu => hu
  | attemptBegin =>
    exact hs.expiryWithin (wait := attemptWait) (act := checkHead) h fun u => (onlyReports_checkHead u).outsideAs
  | attemptSuccess => exact hs.expiryWithin (wait := attemptLeft) (act := succeed) h outsideAs_succeed
  | attemptAbort dt =>
    change execAttemptAbort dt s = _ at h
    rcases execAttemptAbort_cases dt s with ⟨e, -⟩ | ⟨a, d, -, -, e⟩ <;> rw [e] at h <;>
      obtain rfl := Host.Outcome.next.inj h
    · exact hs.advance dt
    · exact (hs.advance d).outside (onlyReports_abortAttempt _).outsideAs
  | muteTimerExpiry =>
    exact hs.expiryWithin (wait := muteWait) (act := leaveMuted) h fun u => (onlyReports_leaveMuted u).outsideAs
  | patternPhaseEnd u =>
    exact hs.expiryWithin (wait := patternWait u) (act := endPatternPhase u) h fun v => outsideAs_endPatternPhase v u
  | delayEnd r =>
    exact hs.expiryWithin (wait := delayWait r) (act := fun s => settle s [.moveOn r]) h fun u => outsideAs_settle u _
  | lampPhaseEnd u =>
    exact hs.expiryWithin (wait := lampWait u) (act := endLampPhase u) h fun v => outsideAs_setPulse v _
  | nonSyncCharacter dt line =>
    change execNonSyncCharacter dt line s = _ at h
    rcases execNonSyncCharacter_cases dt line s with ⟨e, -⟩ | ⟨heard, -, -, e⟩ <;> rw [e] at h <;>
      obtain rfl := Host.Outcome.next.inj h
    · exact hs.advance dt
    · exact (hs.advance _).outside (OnlyReports.outsideAs rfl)
  | receiverReturnToHunt =>
    exact hs.expiryWithin (wait := huntWait) (act := returnToHunt) h fun _ => OnlyReports.outsideAs rfl

end SightsBounded

/-! ## Start-up (R187, R194, R195) -/

/-- A station that starts has seen nobody. -/
theorem sightsBounded_of_nil {s : State} (window : s.ready = true → 100 ≤ s.settings.sightWindow)
    (none : ∀ p : PortNo, s.ports[p].sights = []) : SightsBounded s :=
  (sightsBounded_iff s).mpr ⟨window, fun p => by rw [none p]; exact .nil s⟩

theorem sightsBounded_restart (s : State) {l : Loader} (hl : l.load ≠ .ready) (m : Line) :
    SightsBounded { State.restart s l with line := m } :=
  sightsBounded_of_nil (fun h => absurd (by simpa [State.ready, State.restart] using h) hl)
    fun p => by simp [State.restart, Port.start]

theorem outsideAs_showIndicators (s : State) : OutsideAs s (showIndicators s) := by
  refine .fold fixtureNumbers _ (fun u f => ?_) s
  unfold State.handOver
  split
  · exact .refl u
  · exact outsideAs_setPulse u _

/-- Table 11-4: the sight window of a good script is 100 ms at least. -/
theorem readScript_sightWindow (records : List Record) : 100 ≤ (readScript records).settings.sightWindow := by
  simp only [readScript, readSettings, clamp]; omega

theorem sightsBounded_configured (s : State) (records : List Record) (dominant : Nat) :
    SightsBounded (showIndicators (State.configure s (readScript records) dominant)) :=
  (sightsBounded_of_nil (fun _ => readScript_sightWindow records)
    fun p => by simp [State.configure, Port.begin, Port.start]).outside (outsideAs_showIndicators _)

/-- Every command of a reset and a load. -/
theorem SightsBounded.exec_reconfigures {c : Instr} {s t : State} (hs : SightsBounded s) (hc : c.reconfigures = true)
    (h : Machine.exec c s = .next t) : SightsBounded t := by
  cases c with
  | reset straps => obtain rfl := Host.Outcome.next.inj h; exact sightsBounded_restart s (by exact nofun) _
  | resetAsserted => obtain rfl := Host.Outcome.next.inj h; exact sightsBounded_restart s (by exact nofun) _
  | loadEnd miso pins =>
    change execLoadEnd miso pins s = _ at h
    unfold execLoadEnd at h
    split at h
    · split at h <;> obtain rfl := Host.Outcome.next.inj h
      · exact (((sightsBounded_configured s _ _).sampleRecords _ _).outside (outsideAs_raiseChange _)).takeLatches
      · exact sightsBounded_restart s (by exact nofun) _
    · obtain rfl := Host.Outcome.next.inj h; exact hs
  | _ => cases hc

/-- Settles O4: only a sighting adds to a sight list (`State.SoundSights.addSight`), only time ages its entries
(`SightsBounded.advance`), and a station starts with the lists empty. -/
theorem sightListsStayBounded : Obligations.SightListsStayBounded := by
  unfold Obligations.SightListsStayBounded
  intro s t hs h
  unfold step at h
  split at h
  · obtain rfl := Host.Outcome.next.inj h; exact hs.advance 1
  · rename_i c rest _
    have popped : SightsBounded { s with pending := rest } := hs
    cases hc : c.reconfigures with
    | false => exact popped.exec hc h
    | true => exact popped.exec_reconfigures hc h

end Sys2Proof.Machine
end

section
/-! Proofs for 05_match_clock.md, part 1: what the fixture engine, the runners and the pulse units do within one occurrence
(`Settles`), followed once through every operation they have. None of it touches the clock or the side points, and of the
line controller it only lengthens the transmit queue by EVENT frames (`Tells`). -/

namespace Sys2Proof.Machine

/-! ## The updates of one occurrence -/

/-- `t` comes from `s` by reports to the field and changes of fixtures, hold-off list, runners and pulse units. -/
inductive Settles (s : State) : State → Prop
  | refl : Settles s s
  | raiseChange {t : State} (h : Settles s t) : Settles s t.raiseChange
  | createEvent {t : State} (h : Settles s t) (k : EventKind) (f : Option FixtureNo) (r : Robot) (side : Side) (v : Nat) :
      Settles s (t.createEvent k f r side v)
  | setFixture {t : State} (h : Settles s t) (f : FixtureNo) (x : Fixture) : Settles s (t.setFixture f x)
  | setHoldOff {t : State} (h : Settles s t) (l : List HoldOff) : Settles s (t.setHoldOff l)
  | setRunners {t : State} (h : Settles s t) (x : Runners) : Settles s { t with runners := x }
  | setPulse {t : State} (h : Settles s t) (p : Pulse) : Settles s { t with pulse := p }

namespace Settles

section
variable {s t u : State} (h : Settles s t)
include h

theorem trans (k : Settles t u) : Settles s u := by
  induction k with
  | refl => exact h
  | raiseChange _ ih => exact ih.raiseChange
  | createEvent _ k f r side v ih => exact ih.createEvent k f r side v
  | setFixture _ f x ih => exact ih.setFixture f x
  | setHoldOff _ l ih => exact ih.setHoldOff l
  | setRunners _ x ih => exact ih.setRunners x
  | setPulse _ p ih => exact ih.setPulse p

/-! ## Shared operations -/

theorem setClaims (f : FixtureNo) (c : Claims) : Settles s (t.setClaims f c) := h.setFixture f _

theorem setFixtureState (f : FixtureNo) (st : FixtureState) : Settles s (t.setFixtureState f st) := h.setFixture f _

theorem makeHoldOff (r : Robot) (f : FixtureNo) : Settles s (t.makeHoldOff r f) := by
  unfold State.makeHoldOff
  split
  · exact h
  · exact h.setHoldOff _

theorem setRunner (r : RunnerId) (x : Runner) : Settles s (t.setRunner r x) := by
  cases r <;> exact h.setRunners _

theorem handOver (f : FixtureNo) (i : Indicator) : Settles s (t.handOver f i) := by
  unfold State.handOver
  split
  · exact h
  · exact h.setPulse _

theorem refreshIndicator (f : FixtureNo) : Settles s (t.refreshIndicator f) := by
  unfold State.refreshIndicator
  dsimp only
  split
  · exact h
  · exact (h.setFixture f _).handOver f _

theorem startTransient (f : FixtureNo) (x : Transient) : Settles s (t.startTransient f x) :=
  (h.setFixture f _).refreshIndicator f

theorem setRunnerFault : Settles s t.setRunnerFault := by
  unfold State.setRunnerFault
  dsimp only
  split
  · exact h.setRunners _
  · exact (h.setRunners _).raiseChange

/-- A fold of updates of one occurrence. -/
theorem fold {α : Type} (l : List α) (act : State → α → State) (hact : ∀ u a, Settles s u → Settles s (act u a)) :
    Settles s (l.foldl act t) :=
  List.foldlRecOn l act (motive := Settles s) h fun u hu a _ => hact u a hu

/-! ## Tasks (R27, R34–R36, R40–R42, R141–R149) -/

theorem performStart (r : RunnerId) (x : Start) : Settles s (performStart t r x).1 := by
  unfold Machine.performStart
  dsimp only
  split
  · exact h
  · split
    · exact h.setRunner r _
    all_goals
      split
      · exact h.setRunner r _
      · exact h.createEvent _ _ _ _ _

theorem issue (r : RunnerId) (n : UnitNo) (x : Step) : Settles s (issue t r n x).1 := by
  unfold Machine.issue
  dsimp only
  split <;> exact (h.setPulse _).setRunner r _

theorem abortAt (r : RunnerId) (i : StepNo) : Settles s (abortAt t r i).1 := (h.setPulse _).setRunner r _

theorem performArrive (r : RunnerId) : Settles s (performArrive t r).1 := by
  unfold Machine.performArrive
  dsimp only
  split
  · exact h
  · split
    · exact h.abortAt r _
    · split
      · exact h.setRunner r _
      · split
        · exact h.issue r _ _
        · exact h.setRunner r _

theorem performMoveOn (r : RunnerId) : Settles s (performMoveOn t r).1 := by
  unfold Machine.performMoveOn
  dsimp only
  split
  · exact h
  · split
    · split <;> exact h.setRunner r _
    · split
      · exact h.setRunner r _
      · exact h.abortAt r _

theorem performUnitFreed (n : UnitNo) : Settles s (performUnitFreed t n).1 := by
  unfold Machine.performUnitFreed
  split
  · exact h
  · split
    · exact h
    · split
      · exact h
      · exact h.issue _ n _

theorem performAbortTail (r : RunnerId) (i : StepNo) : Settles s (performAbortTail t r i).1 := by
  unfold Machine.performAbortTail
  split
  · exact h
  · exact (h.createEvent _ _ _ _ _).setRunnerFault

theorem performNextList (r : RunnerId) : Settles s (performNextList t r).1 := by
  unfold Machine.performNextList
  dsimp only
  split <;> exact h.setRunner r _

theorem performReport (f : FixtureNo) (r : Report) : Settles s (performReport t f r).1 := by
  have ends (cause : ReleaseCause) : Settles s (endDispense t f cause).1 := by
    unfold endDispense
    dsimp only
    split <;> exact h.setClaims f _
  unfold Machine.performReport
  dsimp only
  split
  · exact h
  · split
    · exact h.setClaims f _
    · exact h
    all_goals exact ends _

theorem performRelease (f : FixtureNo) (cause : ReleaseCause) : Settles s (performRelease t f cause).1 := by
  unfold Machine.performRelease
  dsimp only
  split
  · exact h.setFixture f _
  · exact h

theorem performReleaseTail (f : FixtureNo) (robot : Robot) (side : Side) (cause : ReleaseCause) :
    Settles s (performReleaseTail t f robot side cause).1 := by
  have sent := (h.createEvent (.release cause) (some f) robot side ((t.fixture f).eventValue side)).raiseChange
  unfold Machine.performReleaseTail
  dsimp only
  split
  · exact sent.makeHoldOff robot f
  · exact sent

theorem performPromote (f : FixtureNo) : Settles s (performPromote t f).1 := by
  unfold Machine.performPromote
  dsimp only
  split
  · exact h
  · split
    · exact (h.setFixtureState f _).refreshIndicator f
    · split
      · exact (h.setClaims f _).makeHoldOff _ f
      · exact h.setClaims f _

theorem performGrant (f : FixtureNo) (robot : Robot) (side : Side) (seen age : Nat) :
    Settles s (performGrant t f robot side seen age).1 := by
  unfold Machine.performGrant
  dsimp only
  split
  · exact h
  · exact ((h.setFixture f _).createEvent _ _ _ _ _).raiseChange.refreshIndicator f

theorem performPhaseRelease (f : FixtureNo) : Settles s (performPhaseRelease t f).1 := by
  unfold Machine.performPhaseRelease
  dsimp only
  split
  · exact h.setFixture f _
  · exact h

theorem performPhaseTail (f : FixtureNo) (robot : Robot) (side : Side) :
    Settles s (performPhaseTail t f robot side).1 :=
  ((h.createEvent _ _ _ _ _).setClaims f _).raiseChange.refreshIndicator f

theorem perform (x : Task) : Settles s (perform t x).1 := by
  cases x with
  | arrive r => exact h.performArrive r
  | moveOn r => exact h.performMoveOn r
  | unitFreed n => exact h.performUnitFreed n
  | abortTail r i => exact h.performAbortTail r i
  | nextList r => exact h.performNextList r
  | start r x => exact h.performStart r x
  | report f r => exact h.performReport f r
  | release f cause => exact h.performRelease f cause
  | releaseTail f robot side cause => exact h.performReleaseTail f robot side cause
  | promote f => exact h.performPromote f
  | grant f robot side seen age => exact h.performGrant f robot side seen age
  | phaseRelease f => exact h.performPhaseRelease f
  | phaseTail f robot side => exact h.performPhaseTail f robot side

theorem settle (ts : List Task) : Settles s (settle t ts) := settle_keeps (Settles s) (fun _ x hu => hu.perform x) t ts h

/-! ## Notices (R5–R7, R96, R150) -/

theorem claimNotice (f : FixtureNo) (c : FixtureConfig) (new : Phase) : Settles s (claimNotice t f c new) := by
  unfold Machine.claimNotice
  split
  · exact (h.setFixtureState f _).raiseChange
  · exact (h.setFixtureState f _).raiseChange
  · exact h.settle _
  · exact h

theorem zoneNotice (f : FixtureNo) (c : FixtureConfig) (new : Phase) : Settles s (zoneNotice t f c new) := by
  unfold Machine.zoneNotice
  dsimp only
  split
  · exact (h.setFixture f _).raiseChange
  · exact (h.setFixture f _).raiseChange
  · exact h

theorem goalNotice (f : FixtureNo) (c : FixtureConfig) (grace : Nat) (old new : Phase) :
    Settles s (goalNotice t f c grace old new) := by
  unfold Machine.goalNotice
  dsimp only
  split
  · exact (h.setFixtureState f _).raiseChange
  · split
    · exact (h.setFixtureState f _).raiseChange
    · exact (h.setFixture f _).raiseChange
  · exact h

theorem fixtureNotice (old new : Phase) (f : FixtureNo) : Settles s (fixtureNotice old new t f) := by
  refine Settles.refreshIndicator ?_ f
  split
  · exact h
  · split
    · exact h
    · split
      · exact h.claimNotice f _ new
      · exact h.claimNotice f _ new
      · exact h.zoneNotice f _ new
      · exact h.goalNotice f _ _ old new

theorem haltRunner (r : RunnerId) : Settles s (haltRunner t r) := ((h.setPulse _).setRunner r _).settle _

theorem haltRunners : Settles s (haltRunners t) := (h.haltRunner .A).haltRunner .B

theorem announce (old : Phase) : Settles s (announce t old) := by
  have noticed := h.fold fixtureNumbers (Machine.fixtureNotice old t.clock.phase)
    fun _ f hu => hu.fixtureNotice old t.clock.phase f
  unfold Machine.announce
  dsimp only
  split
  · exact (noticed.haltRunners.setPulse _).raiseChange
  · exact (noticed.setPulse _).raiseChange

/-! ## Ticks and refills (R30, R39, R48, R54) -/

theorem zoneHandsOn (f : FixtureNo) (z w : Control) : Settles s (zoneHandsOn t f z w) := by
  unfold Machine.zoneHandsOn
  split
  · exact (h.createEvent _ _ _ _ _).raiseChange
  · split
    · exact h.raiseChange
    · exact h

theorem zoneTick (f : FixtureNo) (c : FixtureConfig) (cmax rateCap : Nat) : Settles s (zoneTick t f c cmax rateCap) := by
  rw [zoneTick_eq]
  exact (((h.setFixture f _).zoneHandsOn f _ _).refreshIndicator f).settle _

theorem fixtureTick (f : FixtureNo) : Settles s (fixtureTick t f) := by
  unfold Machine.fixtureTick
  dsimp only
  split
  · exact h
  · split
    · exact h
    · split
      · unfold gateTick
        dsimp only
        split
        · exact h.setClaims f _
        · exact h
      · unfold dispenserTick
        dsimp only
        split
        · exact h.setClaims f _
        · exact h
      · split
        · exact h.zoneTick f _ _ _
        · exact h
      · exact h

theorem refill (f : FixtureNo) : Settles s (refillFixture f t) := by
  unfold refillFixture
  dsimp only
  split
  · exact h
  · split
    · exact h.setClaims f _
    all_goals exact h

/-! ## Goals, patterns and lamps (R19, R64–R69, R145, R157, R166) -/

theorem endGrace (f : FixtureNo) : Settles s (endGrace f t) := by
  unfold Machine.endGrace
  dsimp only
  split
  · exact h
  · split
    · exact h.setFixture f _
    · exact (h.setFixture f _).raiseChange.refreshIndicator f

theorem jam (f : FixtureNo) : Settles s (jamGoal f t) :=
  ((h.setFixture f _).createEvent _ _ _ _ _).raiseChange.refreshIndicator f

theorem unjam (f : FixtureNo) : Settles s (unjamGoal f t) := by
  unfold unjamGoal
  dsimp only
  split
  · exact h
  · exact ((h.setFixture f _).createEvent _ _ _ _ _).raiseChange.refreshIndicator f

theorem endTransient (f : FixtureNo) : Settles s (endTransient f t) := (h.setFixture f _).refreshIndicator f

theorem endPatternPhase (n : UnitNo) : Settles s (endPatternPhase n t) := by
  unfold Machine.endPatternPhase
  split
  · exact h
  · split
    · exact h.setPulse _
    · unfold endPattern
      dsimp only
      split
      · exact h.setPulse _
      · exact (h.setPulse _).settle _

/-! ## A sighting at the fixture engine (R23, R24, R33, R78) -/

theorem dropQueued (f : FixtureNo) (r : Robot) : Settles s (dropQueued t f r) := (h.setClaims f _).makeHoldOff r f

theorem takeRequest (f : FixtureNo) (c : FixtureConfig) (r : Robot) : Settles s (takeRequest t f c r) := by
  unfold Machine.takeRequest
  split
  · exact h
  · exact h
  · exact (h.makeHoldOff r f).startTransient f _
  · exact h.settle _
  · exact h.setClaims f _

theorem takeRelease (f : FixtureNo) (c : FixtureConfig) (r : Robot) : Settles s (takeRelease t f c r) := by
  unfold Machine.takeRelease
  dsimp only
  split
  · split
    · exact h.settle _
    all_goals exact h
  · split
    · exact h.dropQueued f r
    · exact h

theorem sighting (p : PortNo) (r : Robot) (i : Intent) : Settles s (sightingAtFixture t p r i) := by
  unfold sightingAtFixture
  split
  · exact h
  · split
    · exact h
    · split
      · exact h
      · have seen := h.setClaims ‹FixtureNo› ((t.fixture ‹FixtureNo›).claims.refresh r t.nowMs)
        cases i with
        | present => exact seen
        | request => exact seen.takeRequest _ _ r
        | release => exact seen.takeRelease _ _ r

/-! ## Frames (R43) -/

theorem dualHold (p : StationNo) (entries : List SummaryEntry) : Settles s (dualHold t p entries) := by
  unfold Machine.dualHold
  split
  · refine h.fold fixtureNumbers _ fun u f hu => ?_
    split
    · exact hu.settle _
    · exact hu
  · exact h

/-! ## What such updates leave -/

theorem clock : t.clock = s.clock := by
  induction h with
  | refl => rfl
  | raiseChange _ ih => rw [State.raiseChange_clock, ih]
  | createEvent _ k f r side v ih => rw [State.createEvent_clock, ih]
  | _ => assumption

theorem points : t.engine.points = s.engine.points := by
  induction h with
  | refl => rfl
  | raiseChange _ ih => rw [State.raiseChange_engine, ih]
  | createEvent _ k f r side v ih => rw [State.createEvent_engine, ih]
  | _ => assumption

theorem loader : t.loader = s.loader := by
  induction h with
  | refl => rfl
  | raiseChange _ ih => rw [State.raiseChange_loader, ih]
  | createEvent _ k f r side v ih => rw [State.createEvent_loader, ih]
  | _ => assumption

theorem ready : t.ready = s.ready := by rw [State.ready, h.loader, State.ready]

end

end Settles

/-! ## What is told to the field -/

/-- Of the line controller, EVENT frames have joined the transmit queue, none while MUTED (R119, R183). -/
def Tells (s t : State) : Prop :=
  ∃ events : List QueuedFrame, t.line = { s.line with queue := s.line.queue ++ events } ∧
    (∀ q ∈ events, q.command? = none) ∧ (s.line.muted.isSome = true → events = [])

theorem Tells.of_line {s t : State} (h : t.line = s.line) : Tells s t :=
  ⟨[], by rw [h, List.append_nil], by simp, fun _ => rfl⟩

theorem Tells.trans {s t u : State} (h : Tells s t) (k : Tells t u) : Tells s u := by
  obtain ⟨es, line, plain, muted⟩ := h
  obtain ⟨es', line', plain', muted'⟩ := k
  rw [line] at line' muted'
  refine ⟨es ++ es', by rw [line', List.append_assoc], fun q hq => ?_, fun hm => ?_⟩
  · exact (List.mem_append.mp hq).elim (plain q) (plain' q)
  · rw [muted hm, muted' hm, List.append_nil]

theorem tells_createEvent (s : State) (k : EventKind) (f : Option FixtureNo) (r : Robot) (side : Side) (v : Nat) :
    Tells s (s.createEvent k f r side v) := by
  have line := s.createEvent_line k f r side v
  split at line
  · rename_i hroom
    refine ⟨_, line, fun q hq => ?_, fun hm => ?_⟩
    · rw [List.mem_singleton.mp hq]; rfl
    · simp only [Bool.and_eq_true, Option.isNone_iff_eq_none] at hroom
      rw [hroom.2.1] at hm
      cases hm
  · exact .of_line line

/-- R119: of what one occurrence does, only its events come to the line controller. -/
theorem Settles.tells {s t : State} (h : Settles s t) : Tells s t := by
  induction h with
  | refl => exact .of_line rfl
  | raiseChange _ ih => exact ih.trans (.of_line (State.raiseChange_line _))
  | createEvent _ k f r side v ih => exact ih.trans (tells_createEvent _ k f r side v)
  | _ => assumption

/-- A frame of a command waits in the queue exactly where it did before. -/
theorem Tells.commandQueued {s t : State} (h : Tells s t) (c : Command) : t.commandQueued c = s.commandQueued c := by
  obtain ⟨events, line, plain, -⟩ := h
  have none : (events.any fun q => q.body == .command c) = false := by
    rw [List.any_eq_false]
    intro q hq hc
    have := plain q hq
    rw [beq_iff_eq] at hc
    simp [QueuedFrame.command?, hc] at this
  simp only [State.commandQueued, line, List.any_append, none, Bool.or_false]

theorem Tells.lastSender {s t : State} (h : Tells s t) : t.line.lastSender = s.line.lastSender := by
  obtain ⟨events, line, -⟩ := h
  rw [line]

end Sys2Proof.Machine
end

section
/-! Proofs for 05_match_clock.md, part 2: what each operation behind the commands leaves of the match clock. O16 settled, and
the first half of O12. -/

namespace Sys2Proof.Machine

/-! ## Changes of phase (R92–R96) -/

@[simp] theorem announce_clock (s : State) (old : Phase) : (announce s old).clock = s.clock :=
  (Settles.refl.announce old).clock

/-- R88, R96: the phase changes, and the notices leave the clock so. -/
@[simp] theorem changePhase_clock (s : State) (new : Phase) :
    (changePhase s new).clock = { s.clock with phase := new } := announce_clock _ _

theorem applyClear_clock (s : State) : (applyClear s).clock =
    { s.clock with phase := .idle, resume := .idle, tick := 0, tenth := 0, boundaryDue := false, ticking := [] } := by
  have stopped := (Settles.refl.fold fixtureNumbers State.refreshIndicator
    fun _ f hu => hu.refreshIndicator f : Settles s.fixturesCleared _).haltRunners
  rw [applyClear_eq, State.clearEnded_clock, stopped.clock]
  rfl

/-- R104: what late join makes of the resume phase. -/
theorem lateJoin_resume (s : State) (row : PeerRow) :
    (lateJoin s row).clock.resume = s.clock.resume ∨
      ((lateJoin s row).clock.resume = row.resume ∧ row.resume ≠ .halted) := by
  unfold lateJoin
  split
  · rename_i hadopts
    simp only [State.adopts, Bool.and_eq_true, Bool.or_eq_true, beq_iff_eq, bne_iff_ne] at hadopts
    obtain ⟨-, hrow⟩ := hadopts
    dsimp only
    rw [changePhase_clock]
    by_cases hrunning : row.phase.running = true
    · exact .inl (by simp [hrunning])
    · exact .inr ⟨by simp [hrunning], (hrow.resolve_left hrunning).2⟩
  · exact .inl rfl

/-! ## Operations that are more than what settles -/

/-- R57: a piece is counted, and what follows settles. -/
theorem settles_takePiece (s : State) (f : FixtureNo) :
    ∃ f' side points, Settles (s.scored f' side points) (takePiece s f) ∨ takePiece s f = s := by
  have counted (c : FixtureConfig) (rule : Option CreditRule) (values : PerPhase) (phase : Phase) :
      Settles (s.scored f (s.creditSide c rule) (values.get phase)) (countPiece s f c rule values phase) :=
    (((Settles.refl.createEvent _ _ _ _ _).raiseChange).startTransient f _).settle _
  unfold takePiece
  dsimp only
  split
  · exact ⟨f, 0, 0, .inr rfl⟩
  · split
    · split
      · exact ⟨f, 0, 0, .inr rfl⟩
      · split
        · exact ⟨f, _, _, .inl (counted _ _ _ _)⟩
        · split
          · exact ⟨f, _, _, .inl (counted _ _ _ _)⟩
          · exact ⟨f, 0, 0, .inr rfl⟩
        all_goals exact ⟨f, 0, 0, .inr rfl⟩
    all_goals exact ⟨f, 0, 0, .inr rfl⟩

@[simp] theorem takePiece_clock (s : State) (f : FixtureNo) : (takePiece s f).clock = s.clock := by
  obtain ⟨_, _, _, settled | same⟩ := settles_takePiece s f
  · exact settled.clock
  · rw [same]

@[simp] theorem sampleRecords_clock (s : State) (pins : BitVec 12) (sample : Input → Bool → Input) :
    (sampleRecords s pins sample).clock = s.clock := by
  unfold sampleRecords
  dsimp only
  split <;> simp

/-! ## Between the changes of phase (O16) -/

/-- The match stands where it stood: phase, resume phase and match tick. -/
structure MatchStands (s t : State) : Prop where
  phase : t.clock.phase = s.clock.phase
  resume : t.clock.resume = s.clock.resume
  tick : t.clock.tick = s.clock.tick

namespace MatchStands

theorem of_clock {s t : State} (h : t.clock = s.clock) : MatchStands s t := by constructor <;> rw [h]

theorem trans {s t u : State} (h : MatchStands s t) (k : MatchStands t u) : MatchStands s u :=
  ⟨k.phase.trans h.phase, k.resume.trans h.resume, k.tick.trans h.tick⟩

theorem advance (s : State) (d : Nat) : MatchStands s (s.advance d) := ⟨by simp, by simp, by simp⟩

theorem setPort (s : State) (p : PortNo) (x : Port) : MatchStands s (s.setPort p x) := .of_clock rfl

theorem reports {s t : State} (h : OnlyReports s t) : MatchStands s t := .of_clock h.playsOnly.clock

/-- Fixtures that take a tick leave the match where it stands, however far the tick comes. -/
theorem tickOn (fs : List FixtureNo) {s t : State} (h : MatchStands s t) : MatchStands s (tickOn fs t) :=
  tickOn_keeps (MatchStands s) (fun _ f hu => hu.trans (.of_clock (Settles.refl.fixtureTick f).clock))
    (fun _ _ hu => hu.trans ⟨rfl, rfl, rfl⟩) fs t h

theorem finishTick (s : State) : MatchStands s (finishTick s) :=
  finishTick_keeps (MatchStands s) (fun _ f hu => hu.trans (.of_clock (Settles.refl.fixtureTick f).clock))
    (fun _ _ hu => hu.trans ⟨rfl, rfl, rfl⟩) s (.of_clock rfl)

theorem resumeTick {s t : State} (h : MatchStands s t) : MatchStands s (resumeTick t) := by
  unfold Machine.resumeTick
  split
  · exact h.tickOn _
  · exact h

theorem judgeWord {s t : State} (h : MatchStands s t) (p : PortNo) : MatchStands s (judgeWord t p) := by
  unfold Machine.judgeWord
  split
  · exact h.trans (.of_clock (Settles.refl.sighting p _ _).clock)
  · exact h

theorem completeWord (p : PortNo) (r : Robot) (i : BitVec 2) (s : State) : MatchStands s (completeWord p r i s) := by
  unfold Machine.completeWord
  split
  · exact (setPort s p _).judgeWord p
  · exact .of_clock rfl

theorem changeLevel (p : PortNo) (active : Bool) (s : State) : MatchStands s (changeLevel p active s) := by
  unfold Machine.changeLevel
  dsimp only
  split
  · exact .of_clock rfl
  · split
    · exact .of_clock rfl
    · split
      · exact .of_clock rfl
      · split
        · exact (setPort s p _).judgeWord p
        · exact .of_clock rfl

theorem expiry {wait : State → Option Nat} {act : State → State} {s t : State} (h : onExpiry wait act s = .next t)
    (hact : ∀ u, MatchStands u (act u)) : MatchStands s t := by
  rcases onExpiry_cases h with rfl | ⟨d, -, rfl⟩
  · exact .of_clock rfl
  · exact (advance s d).trans (hact _)

theorem timed {dt : Nat} {act : State → State} {s t : State} (h : afterTime dt act s = .next t)
    (hact : ∀ u, MatchStands u (act u)) : MatchStands s t := by
  cases h; exact (advance s dt).trans (hact _)

/-- An expiry whose act settles within the station. -/
theorem settled {wait : State → Option Nat} {act : State → State} {s t : State} (h : onExpiry wait act s = .next t)
    (hact : ∀ u, Settles u (act u)) : MatchStands s t := expiry h fun u => .of_clock (hact u).clock

theorem takeEvent (s : State) (p : StationNo) (payload : List Byte) : MatchStands s (takeFrame s .event p payload) := by
  unfold takeFrame
  dsimp only
  split
  · exact .reports (OnlyReports.trans (t := { s with line := _ }) rfl (onlyReports_meetTwin _))
  · exact .of_clock rfl

/-- A frame of another device that is neither a match command nor a status brings nothing to the match clock. -/
theorem receiveFrame {wanted : Judgement → Bool} {dt : Nat} {frame : List Byte} {s t : State}
    (h : receiveFrame wanted dt frame s = .next t)
    (events : ∀ k p payload, wanted (.valid k p payload) = true → k = .event) : MatchStands s t := by
  rcases receiveFrame_cases wanted dt frame s with ⟨e, -⟩ | ⟨-, -, hwanted, e⟩ <;> rw [e] at h <;>
    obtain rfl := Host.Outcome.next.inj h
  · exact advance s dt
  · have skipped (d : Nat) : MatchStands s ((s.advance d).skip 0 0) := (advance s d).trans (.of_clock rfl)
    split
    · rename_i k p payload hj
      rw [hj] at hwanted
      obtain rfl := events _ _ _ hwanted
      exact (skipped _).trans (takeEvent _ p payload)
    all_goals exact skipped _

/-- Every command without a notice, but a counted tick. -/
theorem exec {c : Instr} {s t : State} (hc : c.changesPhase = false) (hcount : c ≠ .countedTick)
    (h : exec c s = .next t) : MatchStands s t := by
  cases c with
  | countedTick => exact absurd rfl hcount
  | sighting dt p r i => exact timed (act := Machine.completeWord p r i) h (completeWord p r i)
  | holdOffExpiry r f =>
    exact settled (wait := holdOffWait r f) (act := dropHoldOff r f) h fun _ => Settles.refl.setHoldOff _
  | sightExpiry p r => exact expiry (wait := sightWait p r) (act := dropSight p r) h fun _ => .of_clock rfl
  | lost f =>
    exact settled (wait := lostWait f) (act := fun s => settle s [.release f .lost]) h fun _ => Settles.refl.settle _
  | queuedLost f r =>
    exact settled (wait := queuedLostWait f r) (act := fun s => dropQueued s f r) h fun _ => Settles.refl.dropQueued f r
  | overstay f =>
    obtain rfl := Host.Outcome.next.inj h
    split
    · exact resumeTick (.of_clock (Settles.refl.settle _).clock)
    · exact .of_clock rfl
  | refill f =>
    obtain rfl := Host.Outcome.next.inj h
    split
    · exact resumeTick (.of_clock (Settles.refl.refill f).clock)
    · exact .of_clock rfl
  | graceEnd f => exact settled (wait := graceWait f) (act := endGrace f) h fun _ => Settles.refl.endGrace f
  | jam f => exact settled (wait := jamWait f) (act := jamGoal f) h fun _ => Settles.refl.jam f
  | unjam f => exact settled (wait := unjamWait f) (act := unjamGoal f) h fun _ => Settles.refl.unjam f
  | transientEnd f =>
    exact settled (wait := transientWait f) (act := endTransient f) h fun _ => Settles.refl.endTransient f
  | eventFrameReceived dt frame =>
    exact receiveFrame (wanted := Judgement.isValid .event) h fun k _ _ hk => by simpa [Judgement.isValid] using hk
  | frameDiscard dt frame => exact receiveFrame (wanted := (· == .discarded)) h fun _ _ _ hk => by simp at hk
  | frameAbandon dt cause =>
    change execFrameAbandon dt cause s = _ at h
    unfold execFrameAbandon at h
    split at h <;> obtain rfl := Host.Outcome.next.inj h
    · exact (advance s _).trans (.reports (onlyReports_abandon cause _))
    · exact advance s dt
  | statusTimerExpiry => exact expiry (wait := statusWait) (act := raiseStatus) h fun _ => .of_clock rfl
  | changeEligible => exact expiry (wait := changeWait) (act := id) h fun _ => .of_clock rfl
  | attemptBegin =>
    exact expiry (wait := attemptWait) (act := checkHead) h fun u => .reports (onlyReports_checkHead u)
  | attemptAbort dt =>
    change execAttemptAbort dt s = _ at h
    rcases execAttemptAbort_cases dt s with ⟨e, -⟩ | ⟨a, d, -, -, e⟩ <;> rw [e] at h <;>
      obtain rfl := Host.Outcome.next.inj h
    · exact advance s dt
    · exact (advance s d).trans (.reports (onlyReports_abortAttempt _))
  | muteTimerExpiry =>
    exact expiry (wait := muteWait) (act := leaveMuted) h fun u => .reports (onlyReports_leaveMuted u)
  | patternPhaseEnd u =>
    exact settled (wait := patternWait u) (act := endPatternPhase u) h fun _ => Settles.refl.endPatternPhase u
  | delayEnd r =>
    exact settled (wait := delayWait r) (act := fun s => settle s [.moveOn r]) h fun _ => Settles.refl.settle _
  | lampPhaseEnd u =>
    exact settled (wait := lampWait u) (act := endLampPhase u) h fun _ => Settles.refl.setPulse _
  | beaconLevelChange dt p active => exact timed (act := Machine.changeLevel p active) h (changeLevel p active)
  | beaconWindowOverrun p => exact expiry (wait := overrunWait p) (act := overrun p) h fun _ => .of_clock rfl
  | nonSyncCharacter dt line =>
    change execNonSyncCharacter dt line s = _ at h
    rcases execNonSyncCharacter_cases dt line s with ⟨e, -⟩ | ⟨heard, -, -, e⟩ <;> rw [e] at h <;>
      obtain rfl := Host.Outcome.next.inj h
    · exact advance s dt
    · exact (advance s _).trans (.of_clock rfl)
  | receiverReturnToHunt => exact expiry (wait := huntWait) (act := returnToHunt) h fun _ => .of_clock rfl
  | _ => cases hc

end MatchStands

/-- R90: a counted tick leaves the phases to PERIOD_END (log entry 11). -/
theorem countTick_phases (s : State) :
    (countTick s).clock.phase = s.clock.phase ∧ (countTick s).clock.resume = s.clock.resume := by
  have finished := MatchStands.finishTick s
  have ticked := (MatchStands.of_clock rfl).tickOn fixtureNumbers
    (s := { finishTick s with clock := (finishTick s).clock.count })
  exact ⟨ticked.phase.trans finished.phase, ticked.resume.trans finished.resume⟩

/-- Settles O16: the commands without a notice leave the match where it stands, but for the tick that a counted tick
adds. -/
theorem phaseChangesOnlyAtItsCommands : Obligations.PhaseChangesOnlyAtItsCommands := by
  unfold Obligations.PhaseChangesOnlyAtItsCommands
  intro c s t hc h
  by_cases hcount : c = .countedTick
  · subst hcount
    rcases onExpiry_cases (wait := tickWait) (act := countTick) h with rfl | ⟨d, -, rfl⟩
    · exact ⟨rfl, rfl, fun _ => rfl⟩
    · obtain ⟨phase, resume⟩ := countTick_phases (s.advance d)
      exact ⟨by simp [phase], by simp [resume], fun hne => absurd rfl hne⟩
  · obtain ⟨phase, resume, tick⟩ := MatchStands.exec hc hcount h
    exact ⟨phase, resume, fun _ => tick⟩

/-! ## The resume phase is never HALTED (O12) -/

/-- What leaves the resume phase as it is. -/
theorem ResumeSound.of_clock {s t : State} (h : ResumeSound s) (clock : t.clock.resume = s.clock.resume) :
    ResumeSound t := by
  unfold ResumeSound; rwa [clock]

theorem ResumeSound.settled {s t : State} (h : ResumeSound s) (k : Settles s t) : ResumeSound t :=
  h.of_clock (by rw [k.clock])

theorem ResumeSound.changePhase {s t : State} (h : ResumeSound s) (new : Phase) (resume : t.clock.resume = s.clock.resume) :
    ResumeSound (changePhase t new) := h.of_clock (by rw [changePhase_clock]; exact resume)

/-- Table 5-1: HALT keeps a phase that is not HALTED, CLEAR returns to IDLE, late join adopts no HALTED resume phase, and
nothing else changes it. -/
theorem kept_resumeSound : Kept ResumeSound where
  pending _ h := h
  advance d h := h.of_clock (by simp)
  reporting _ _ h := h
  setPort _ _ h := h
  clock _ _ resume _ _ h := h.of_clock resume
  sighting p r i h := h.settled (Settles.refl.sighting p r i)
  dropHoldOff _ _ h := h
  dropQueued f r h := h.settled (Settles.refl.dropQueued f r)
  release _ _ h := h.settled (Settles.refl.settle _)
  moveOn _ h := h.settled (Settles.refl.settle _)
  fixtureTick f h := h.settled (Settles.refl.fixtureTick f)
  refill f h := h.settled (Settles.refl.refill f)
  endGrace f _ h := h.settled (Settles.refl.endGrace f)
  jam f _ h := h.settled (Settles.refl.jam f)
  unjam f _ h := h.settled (Settles.refl.unjam f)
  endTransient f h := h.settled (Settles.refl.endTransient f)
  sample pins h := h.of_clock (by rw [sampleRecords_clock])
  latch _ h := h
  piece f h := h.of_clock (by rw [takePiece_clock])
  start _ h := h.changePhase _ (by rfl)
  halt hphase _ := by unfold ResumeSound applyHalt; rw [changePhase_clock]; exact hphase
  resume _ h := h.changePhase _ rfl
  clear _ _ := by unfold ResumeSound; rw [applyClear_clock]; exact nofun
  nextPhase h := h.changePhase _ rfl
  join {s} row h := by
    rcases lateJoin_resume s row with same | ⟨adopted, hrow⟩
    · exact h.of_clock same
    · unfold ResumeSound; rwa [adopted]
  endPattern u h := h.settled (Settles.refl.endPatternPhase u)
  endLamp _ h := h

theorem resumeSound_step {s t : State} (h : ResumeSound s) (hstep : step s = .next t) : ResumeSound t := by
  refine kept_resumeSound.step (fun _ _ => nofun) (fun s records dominant pins => ?_) h hstep
  unfold ResumeSound
  rw [sampleRecords_clock, showIndicators_clock]
  exact nofun

end Sys2Proof.Machine
end

section
/-! Proofs for 05_match_clock.md, part 3: O12 settled. Whatever the station does of itself comes to the line controller as
frames that join its queue, which a MUTED station takes none of (`QueuesOnly`); what the line controller does keeps a
MUTED station empty (`MuteSound`). -/

namespace Sys2Proof.Machine

/-! ## What only queues frames (R176) -/

/-- Of the line controller at most the transmit queue has changed, and while MUTED not even that. -/
structure QueuesOnly (s t : State) : Prop where
  line : t.line = { s.line with queue := t.line.queue }
  muted : s.line.muted.isSome = true → t.line.queue = s.line.queue

namespace QueuesOnly

theorem refl (s : State) : QueuesOnly s s := ⟨rfl, fun _ => rfl⟩

section
variable {s t u : State} (h : QueuesOnly s t)
include h

theorem trans (k : QueuesOnly t u) : QueuesOnly s u := by
  obtain ⟨line, muted⟩ := h
  obtain ⟨line', muted'⟩ := k
  rw [line] at line' muted'
  exact ⟨line', fun hm => (muted' hm).trans (muted hm)⟩

/-- What leaves the line controller. -/
theorem of_line (k : u.line = t.line) : QueuesOnly s u := h.trans ⟨by rw [k], fun _ => by rw [k]⟩

theorem settled (k : Settles t u) : QueuesOnly s u := by
  obtain ⟨events, line, -, muted⟩ := k.tells
  refine h.trans ⟨by rw [line], fun hm => ?_⟩
  rw [line, muted hm]
  exact List.append_nil _

theorem raiseChange : QueuesOnly s t.raiseChange := h.of_line t.raiseChange_line

theorem setClock (c : Clock) : QueuesOnly s { t with clock := c } := h.of_line rfl

theorem queueCommand (c : Command) : QueuesOnly s (t.queueCommand c) := by
  unfold State.queueCommand
  split
  · rename_i hguard
    simp only [Bool.and_eq_true, Option.isNone_iff_eq_none] at hguard
    have queued (q : List QueuedFrame) : QueuesOnly t { t with line := { t.line with queue := q } } :=
      ⟨rfl, fun hm => by rw [hguard.2] at hm; cases hm⟩
    dsimp only
    split
    · exact h.trans (queued _)
    · split
      · exact (h.trans (queued _)).of_line (State.setEventsLost_line _)
      · exact h
  · exact h

/-! ## Match commands from every source (R92–R104) -/

theorem changePhase (new : Phase) : QueuesOnly s (changePhase t new) :=
  (h.setClock { t.clock with phase := new }).settled (Settles.refl.announce t.clock.phase)

theorem applyStart : QueuesOnly s (applyStart t) := QueuesOnly.changePhase (h.of_line (u := t.startBegun) rfl) _

theorem applyHalt : QueuesOnly s (applyHalt t) := by
  unfold Machine.applyHalt
  refine QueuesOnly.changePhase ?_ .halted
  exact h.setClock _

theorem applyClear : QueuesOnly s (applyClear t) := by
  have stopped := (Settles.refl.fold fixtureNumbers State.refreshIndicator
    fun _ f hu => hu.refreshIndicator f : Settles t.fixturesCleared _).haltRunners
  rw [applyClear_eq]
  have line (u : State) : u.clearEnded.line = u.line := by unfold State.clearEnded; rw [State.raiseChange_line]
  exact ((h.of_line (u := t.fixturesCleared) rfl).settled stopped).of_line (line _)

theorem takeCommand (c : Command) : QueuesOnly s (takeCommand t c) := by
  unfold Machine.takeCommand
  split
  · exact h
  · split
    · exact h.queueCommand .halt
    · split
      · exact h
      · cases c with
        | start => exact h.applyStart
        | halt => exact h.applyHalt
        | resume => exact h.changePhase _
        | clear => exact h.applyClear

theorem localHalt (mode : InputMode) : QueuesOnly s (localHalt t mode) := by
  unfold Machine.localHalt
  split
  · cases mode with
    | edge => exact h.queueCommand .halt
    | level => exact h
  · exact h.applyHalt.queueCommand .halt

theorem localCommand (c : Command) (mode : InputMode) : QueuesOnly s (localCommand t c mode) := by
  unfold Machine.localCommand
  split
  · exact h.localHalt mode
  · split
    · exact h.queueCommand _
    · split
      · exact h
      · exact h.queueCommand _
  all_goals
    split
    · exact h
    · exact h.queueCommand _

theorem lateJoin (row : PeerRow) : QueuesOnly s (lateJoin t row) := by
  unfold Machine.lateJoin
  split
  · exact (h.setClock _).changePhase _
  · exact h

/-! ## Counted ticks (R90) -/

theorem tickOn (fs : List FixtureNo) : QueuesOnly s (tickOn fs t) :=
  tickOn_keeps (QueuesOnly s) (fun _ f hu => hu.settled (Settles.refl.fixtureTick f)) (fun _ _ hu => hu.setClock _) fs t h

theorem finishTick : QueuesOnly s (finishTick t) :=
  finishTick_keeps (QueuesOnly s) (fun _ f hu => hu.settled (Settles.refl.fixtureTick f)) (fun _ _ hu => hu.setClock _) t h

theorem resumeTick : QueuesOnly s (resumeTick t) := by
  unfold Machine.resumeTick
  split
  · exact h.tickOn _
  · exact h

theorem countTick : QueuesOnly s (countTick t) := (h.finishTick.setClock _).tickOn _

theorem endPeriod : QueuesOnly s (endPeriod t) := (h.finishTick.setClock _).changePhase _

/-! ## Inputs and beacons (R57, R72–R78, R127–R131) -/

theorem takePiece (f : FixtureNo) : QueuesOnly s (takePiece t f) := by
  obtain ⟨f', side, points, settled | same⟩ := settles_takePiece t f
  · exact (h.of_line (u := t.scored f' side points) rfl).settled settled
  · rwa [same]

theorem sampleRecords (pins : BitVec 12) (sample : Input → Bool → Input) : QueuesOnly s (sampleRecords t pins sample) := by
  unfold Machine.sampleRecords
  dsimp only
  split
  · exact h.of_line rfl
  · exact h.of_line (State.raiseChange_line _)

theorem takeLatch (i : InputNo) : QueuesOnly s (takeLatch t i) := by
  have cleared (x : Input) : QueuesOnly s (t.setInput i x) := h.of_line rfl
  unfold Machine.takeLatch
  dsimp only
  split
  · exact h
  · split
    · exact h
    · split
      · exact h
      · exact (cleared _).takePiece _
    · exact (cleared _).localCommand _ _

theorem takeLatches : QueuesOnly s (takeLatches t) :=
  List.foldlRecOn inputNumbers Machine.takeLatch (motive := QueuesOnly s) h fun _ hu i _ => hu.takeLatch i

theorem setPort (p : PortNo) (x : Port) : QueuesOnly s (t.setPort p x) := h.of_line rfl

theorem judgeWord (p : PortNo) : QueuesOnly s (judgeWord t p) := by
  unfold Machine.judgeWord
  split
  · exact (h.setPort p _).settled (Settles.refl.sighting p _ _)
  · exact h

theorem completeWord (p : PortNo) (r : Robot) (i : BitVec 2) : QueuesOnly s (completeWord p r i t) := by
  unfold Machine.completeWord
  split
  · exact (h.setPort p _).judgeWord p
  · exact h

theorem changeLevel (p : PortNo) (active : Bool) : QueuesOnly s (changeLevel p active t) := by
  unfold Machine.changeLevel
  dsimp only
  split
  · exact h
  · split
    · exact h.setPort p _
    · split
      · exact h.setPort p _
      · split
        · exact (h.setPort p _).judgeWord p
        · exact h.setPort p _

/-! ## A status taken in (R110) -/

theorem takeStatus (p : StationNo) (payload : List Byte) : QueuesOnly s (takeStatus t p payload) := by
  have heard (row : PeerRow) : QueuesOnly s (t.setPeer p row) := h.of_line (by unfold State.setPeer; split <;> rfl)
  unfold Machine.takeStatus
  split
  · exact h
  · split
    · exact h
    · dsimp only
      split
      · exact ((heard _).settled (Settles.refl.dualHold p _)).lateJoin _
      · exact heard _

end

end QueuesOnly

/-! ## The line controller keeps a MUTED station empty (R180–R184) -/

namespace MuteSound

/-- A line controller with nothing to send. -/
theorem of_silent {t : State} (queue : t.line.queue = []) (attempt : t.line.attempt = none) (aborts : t.line.aborts < 16) :
    MuteSound t := ⟨fun _ => ⟨queue, attempt⟩, aborts⟩

section
variable {s t : State} (h : MuteSound s)
include h

theorem queues (k : QueuesOnly s t) : MuteSound t := by
  obtain ⟨empty, aborts⟩ := h
  obtain ⟨line, same⟩ := k
  unfold MuteSound
  rw [line]
  exact ⟨fun hm => ⟨(same hm).trans (empty hm).1, (empty hm).2⟩, aborts⟩

/-- A change of the line controller that leaves what the muting is about. -/
theorem of_line (queue : t.line.queue = s.line.queue) (attempt : t.line.attempt.isSome = s.line.attempt.isSome)
    (muted : t.line.muted = s.line.muted) (aborts : t.line.aborts = s.line.aborts) : MuteSound t := by
  obtain ⟨empty, bound⟩ := h
  refine ⟨fun hm => ?_, aborts ▸ bound⟩
  obtain ⟨hq, ha⟩ := empty (muted ▸ hm)
  refine ⟨queue.trans hq, ?_⟩
  rw [ha] at attempt
  exact Option.isSome_eq_false_iff.mp attempt |> Option.isNone_iff_eq_none.mp

/-- A station that is not MUTED may go on with any queue and any attempt. -/
theorem of_unmuted (muted : t.line.muted = none) (aborts : t.line.aborts = s.line.aborts) : MuteSound t :=
  ⟨fun hm => absurd hm (by simp [muted]), aborts ▸ h.2⟩

theorem advance (d : Nat) : MuteSound (s.advance d) := h.of_line (by simp) (by simp) (by simp) (by simp)

/-- A MUTED station has no attempt under way. -/
theorem unmuted {a : Attempt} (ha : s.line.attempt = some a) : s.line.muted = none := by
  by_contra hm
  have := (h.1 (Option.isSome_iff_ne_none.mpr hm)).2
  rw [ha] at this
  cases this

/-! ### Received characters and frames (R169, R174, R175, R182) -/

theorem skip (d i : Nat) : MuteSound (s.skip d i) := h.of_line (by simp [State.skip_line, Line.fallen]) rfl rfl rfl

theorem hear (heard : Heard) : MuteSound (s.hear heard) := by
  have kept : (s.line.hear heard).attempt = s.line.attempt ∧ (s.line.hear heard).muted = s.line.muted ∧
      (s.line.hear heard).aborts = s.line.aborts := by
    unfold Line.hear
    split
    · exact ⟨rfl, rfl, rfl⟩
    · split
      · split <;> exact ⟨rfl, rfl, rfl⟩
      · unfold Line.append
        dsimp only
        split
        · exact ⟨rfl, rfl, rfl⟩
        · split <;> exact ⟨rfl, rfl, rfl⟩
      · exact ⟨rfl, rfl, rfl⟩
  obtain ⟨attempt, muted, aborts⟩ := kept
  exact h.of_line (Line.hear_queue _ _) (congrArg Option.isSome attempt) muted aborts

theorem abandon (cause : AbandonCause) : MuteSound (State.abandon cause s) := by
  unfold State.abandon
  split
  · exact h.skip _ _
  · exact h.skip _ _
  · split
    · exact h.skip _ _
    all_goals exact h

theorem meetTwin (quiet : s.line.attempt = none) : MuteSound (meetTwin s) := by
  unfold Machine.meetTwin
  split
  · unfold enterMuted
    refine of_silent ?_ ?_ ?_ <;> rw [State.setEventsLost_line]
    · exact quiet
    · exact Nat.zero_lt_succ _
  · rename_i cause hm
    exact ⟨fun _ => ⟨(h.1 (by simp [hm])).1, quiet⟩, h.2⟩

theorem takeFrame (quiet : s.line.attempt = none) (kind : FrameKind) (sender : StationNo) (payload : List Byte) :
    MuteSound (takeFrame s kind sender payload) := by
  have noted : MuteSound { s with line := { s.line with lastSender := sender } } := h.of_line rfl rfl rfl rfl
  unfold Machine.takeFrame
  dsimp only
  generalize hu : (if sender = s.loader.station then _ else _ : State) = u
  have twin : MuteSound u := by
    rw [← hu]
    split
    · exact noted.meetTwin quiet
    · exact noted
  split
  · split
    · exact twin.queues ((QueuesOnly.refl u).takeCommand _)
    · exact twin
  · exact twin.queues ((QueuesOnly.refl u).takeStatus _ _)
  · exact twin

theorem receiveFrame {wanted : Judgement → Bool} {dt : Nat} {frame : List Byte}
    (hr : receiveFrame wanted dt frame s = .next t) : MuteSound t := by
  rcases receiveFrame_cases wanted dt frame s with ⟨e, -⟩ | ⟨hears, -, -, e⟩ <;> rw [e] at hr <;>
    obtain rfl := Host.Outcome.next.inj hr
  · exact h.advance dt
  · have skipped (d : Nat) : MuteSound ((s.advance d).skip 0 0) := (h.advance d).skip 0 0
    simp only [State.hears, Bool.and_eq_true, Option.isNone_iff_eq_none] at hears
    obtain ⟨-, quiet⟩ := hears
    split
    · refine (skipped _).takeFrame ?_ _ _ _
      have := s.advance_attempting (max dt (s.line.leastTime (s.line.missing frame)))
      rw [quiet] at this
      exact Option.isNone_iff_eq_none.mp (Option.isSome_eq_false_iff.mp this)
    all_goals exact skipped _

/-! ### Attempts (R179–R181, R184) -/

theorem checkHead (unmuted : s.line.muted = none) : MuteSound (checkHead s) := by
  have begun (u : State) (hu : u.line.muted = none ∧ u.line.aborts = s.line.aborts) (x : Head) :
      MuteSound (beginHead u x) := by
    obtain ⟨muted, aborts⟩ := hu
    unfold beginHead
    split
    · exact h.of_unmuted muted aborts
    · exact h.of_unmuted muted aborts
    · split
      · exact h.of_unmuted muted aborts
      · exact h.of_unmuted muted aborts
  unfold Machine.checkHead
  split
  · exact h
  · split
    · exact begun s ⟨unmuted, rfl⟩ (.command _)
    · dsimp only
      split
      · exact begun { s with line := { s.line with queue := dropRefused s.passesHead s.line.queue } } ⟨unmuted, rfl⟩
          (.command _)
      all_goals exact h.of_unmuted unmuted rfl
  · exact begun s ⟨unmuted, rfl⟩ _
  · exact begun s ⟨unmuted, rfl⟩ _

theorem succeed : MuteSound (succeed s) := by
  unfold Machine.succeed
  split
  · exact h
  · rename_i a ha
    have done (q : List QueuedFrame) (n i : Nat) (r : StationNo) (x : Picture) : MuteSound { s with
        line := { s.line with
          queue := q, attempt := none, aborts := 0, lastSender := r, receiver := .skip, received := [], busy := n
          standing := .recessive, idle := i }
        picture := x } := ⟨fun hm => absurd hm (by simp [h.unmuted ha]), Nat.zero_lt_succ _⟩
    dsimp only
    split
    · exact (done _ _ _ _ _).queues ((QueuesOnly.refl _).takeCommand _)
    · exact done _ _ _ _ _
    · exact done _ _ _ _ _

theorem abortAttempt : MuteSound (abortAttempt s) := by
  unfold Machine.abortAttempt
  split
  · exact h
  · rename_i a ha
    obtain ⟨busy, standing, idle, left⟩ := s.line.leaveAttempt_cases a
    dsimp only
    rw [left]
    split
    · unfold enterMuted
      refine of_silent ?_ ?_ ?_ <;> rw [State.setEventsLost_line]
      exact Nat.zero_lt_succ _
    · rename_i few
      refine ⟨fun hm => ?_, Nat.lt_of_not_le few⟩
      rw [show _ = _ from h.unmuted ha] at hm
      cases hm

theorem leaveMuted : MuteSound (leaveMuted s) := by
  unfold Machine.leaveMuted
  split
  · exact h
  · have unmuted : MuteSound { s with line := { s.line with muted := none, muteTimer := 0 } } := h.of_unmuted rfl rfl
    refine MuteSound.queues ?_ ((QueuesOnly.refl _).settled (Settles.refl.createEvent _ _ _ _ _))
    unfold raiseUnmuted
    split
    · exact unmuted.of_line rfl rfl rfl rfl
    · exact unmuted.queues (QueuesOnly.refl _).raiseChange

/-! ### Every command -/

theorem expiry {wait : State → Option Nat} {act : State → State} (he : onExpiry wait act s = .next t)
    (hact : ∀ d, wait s = some d → MuteSound (s.advance d) → MuteSound (act (s.advance d))) : MuteSound t := by
  rcases onExpiry_cases he with rfl | ⟨d, hd, rfl⟩
  · exact h
  · exact hact d hd (h.advance d)

/-- An expiry whose act comes to the line controller by frames to be sent alone. -/
theorem queuing {wait : State → Option Nat} {act : State → State} (he : onExpiry wait act s = .next t)
    (hact : ∀ u, QueuesOnly u (act u)) : MuteSound t := h.expiry he fun _ _ hu => hu.queues (hact _)

theorem timed {dt : Nat} {act : State → State} (he : afterTime dt act s = .next t) (hact : ∀ u, QueuesOnly u (act u)) :
    MuteSound t := by
  cases he; exact (h.advance dt).queues (hact _)

theorem command {dt : Nat} {c : Command} (he : afterTime dt (Machine.takeCommand · c) s = .next t) : MuteSound t :=
  h.timed he fun u => (QueuesOnly.refl u).takeCommand c

/-- Every command but those of a reset and a load. -/
theorem exec {c : Instr} (hc : c.reconfigures = false) (he : exec c s = .next t) : MuteSound t := by
  have settled {act : State → State} (hact : ∀ u, Settles u (act u)) (u : State) : QueuesOnly u (act u) :=
    (QueuesOnly.refl u).settled (hact u)
  cases c with
  | reset _ => cases hc
  | loadEnd _ _ => cases hc
  | resetAsserted => cases hc
  | sighting dt p r i => exact h.timed (act := completeWord p r i) he fun u => (QueuesOnly.refl u).completeWord p r i
  | holdOffExpiry r f =>
    exact h.queuing (wait := holdOffWait r f) (act := dropHoldOff r f) he (settled fun _ => Settles.refl.setHoldOff _)
  | sightExpiry p r =>
    exact h.queuing (wait := sightWait p r) (act := dropSight p r) he fun u => (QueuesOnly.refl u).setPort p _
  | lost f =>
    exact h.queuing (wait := lostWait f) (act := fun s => settle s [.release f .lost]) he
      (settled fun _ => Settles.refl.settle _)
  | queuedLost f r =>
    exact h.queuing (wait := queuedLostWait f r) (act := fun s => dropQueued s f r) he
      (settled fun _ => Settles.refl.dropQueued f r)
  | overstay f =>
    obtain rfl := Host.Outcome.next.inj he
    split
    · exact h.queues ((QueuesOnly.refl s).settled (Settles.refl.settle _)).resumeTick
    · exact h
  | countedTick => exact h.queuing (wait := tickWait) (act := countTick) he fun u => (QueuesOnly.refl u).countTick
  | refill f =>
    obtain rfl := Host.Outcome.next.inj he
    split
    · exact h.queues ((QueuesOnly.refl s).settled (Settles.refl.refill f)).resumeTick
    · exact h
  | periodEnd =>
    obtain rfl := Host.Outcome.next.inj he
    split
    · exact h.queues (QueuesOnly.refl s).endPeriod
    · exact h
  | graceEnd f =>
    exact h.queuing (wait := graceWait f) (act := endGrace f) he (settled fun _ => Settles.refl.endGrace f)
  | jam f => exact h.queuing (wait := jamWait f) (act := jamGoal f) he (settled fun _ => Settles.refl.jam f)
  | unjam f => exact h.queuing (wait := unjamWait f) (act := unjamGoal f) he (settled fun _ => Settles.refl.unjam f)
  | transientEnd f =>
    exact h.queuing (wait := transientWait f) (act := endTransient f) he (settled fun _ => Settles.refl.endTransient f)
  | inputSample pins =>
    exact h.queuing (wait := sampleWait) (act := fun s => takeLatches (sampleRecords s pins Input.sample)) he
      fun u => ((QueuesOnly.refl u).sampleRecords pins _).takeLatches
  | start dt => exact h.command (c := .start) he
  | halt dt => exact h.command (c := .halt) he
  | resume dt => exact h.command (c := .resume) he
  | clear dt => exact h.command (c := .clear) he
  | statusReceived dt frame => exact h.receiveFrame (wanted := Judgement.isValid .status) he
  | eventFrameReceived dt frame => exact h.receiveFrame (wanted := Judgement.isValid .event) he
  | frameDiscard dt frame => exact h.receiveFrame (wanted := (· == .discarded)) he
  | matchFrameReceived dt frame => exact h.receiveFrame (wanted := Judgement.isValid .command) he
  | frameAbandon dt cause =>
    change execFrameAbandon dt cause s = _ at he
    unfold execFrameAbandon at he
    split at he <;> obtain rfl := Host.Outcome.next.inj he
    · exact (h.advance _).abandon cause
    · exact h.advance dt
  | statusTimerExpiry =>
    exact h.queuing (wait := statusWait) (act := raiseStatus) he fun u => (QueuesOnly.refl u).of_line rfl
  | changeEligible => exact h.queuing (wait := changeWait) (act := id) he .refl
  | attemptBegin =>
    refine h.expiry (wait := attemptWait) (act := Machine.checkHead) he fun d hd hu => hu.checkHead ?_
    unfold attemptWait at hd
    split at hd
    · rename_i hguard
      simp only [Bool.and_eq_true, Option.isNone_iff_eq_none] at hguard
      simpa using hguard.1.2
    · cases hd
  | attemptSuccess => exact h.expiry (wait := attemptLeft) (act := Machine.succeed) he fun _ _ hu => hu.succeed
  | attemptAbort dt =>
    change execAttemptAbort dt s = _ at he
    rcases execAttemptAbort_cases dt s with ⟨e, -⟩ | ⟨a, d, -, -, e⟩ <;> rw [e] at he <;>
      obtain rfl := Host.Outcome.next.inj he
    · exact h.advance dt
    · exact (h.advance d).abortAttempt
  | muteTimerExpiry => exact h.expiry (wait := muteWait) (act := Machine.leaveMuted) he fun _ _ hu => hu.leaveMuted
  | patternPhaseEnd u =>
    exact h.queuing (wait := patternWait u) (act := endPatternPhase u) he (settled fun _ => Settles.refl.endPatternPhase u)
  | delayEnd r =>
    exact h.queuing (wait := delayWait r) (act := fun s => settle s [.moveOn r]) he (settled fun _ => Settles.refl.settle _)
  | lampPhaseEnd u =>
    exact h.queuing (wait := lampWait u) (act := endLampPhase u) he (settled fun _ => Settles.refl.setPulse _)
  | beaconLevelChange dt p active =>
    exact h.timed (act := changeLevel p active) he fun u => (QueuesOnly.refl u).changeLevel p active
  | beaconWindowOverrun p =>
    exact h.queuing (wait := overrunWait p) (act := overrun p) he fun u => (QueuesOnly.refl u).setPort p _
  | nonSyncCharacter dt line =>
    change execNonSyncCharacter dt line s = _ at he
    rcases execNonSyncCharacter_cases dt line s with ⟨e, -⟩ | ⟨heard, -, -, e⟩ <;> rw [e] at he <;>
      obtain rfl := Host.Outcome.next.inj he
    · exact h.advance dt
    · exact (h.advance _).hear heard
  | receiverReturnToHunt =>
    exact h.expiry (wait := huntWait) (act := returnToHunt) he fun _ _ hu => hu.of_line rfl rfl rfl rfl

/-- The commands of a reset and a load leave the line controller with nothing to send but what the first samples
bring. -/
theorem exec_reconfigures {c : Instr} (hc : c.reconfigures = true) (he : Machine.exec c s = .next t) : MuteSound t := by
  have restarted (l : Loader) : MuteSound (State.restart s l) := of_silent rfl rfl (by exact Nat.zero_lt_succ _)
  cases c with
  | reset straps => obtain rfl := Host.Outcome.next.inj he; exact restarted _
  | resetAsserted => obtain rfl := Host.Outcome.next.inj he; exact restarted _
  | loadEnd miso pins =>
    change execLoadEnd miso pins s = _ at he
    unfold execLoadEnd at he
    split at he
    · split at he <;> obtain rfl := Host.Outcome.next.inj he
      · rename_i records _
        have configured : MuteSound (State.configure s (readScript records) pins.dominant) :=
          of_silent rfl rfl (by exact Nat.zero_lt_succ _)
        exact configured.queues
          ((((QueuesOnly.refl _).of_line (showIndicators_line _)).sampleRecords pins.inputs _).raiseChange).takeLatches
      · exact of_silent rfl rfl (by exact Nat.zero_lt_succ _)
    · obtain rfl := Host.Outcome.next.inj he; exact h
  | _ => cases hc

end

end MuteSound

theorem muteSound_step {s t : State} (h : MuteSound s) (hstep : step s = .next t) : MuteSound t := by
  unfold step at hstep
  split at hstep
  · obtain rfl := Host.Outcome.next.inj hstep; exact h.advance 1
  · rename_i c rest _
    have popped : MuteSound { s with pending := rest } := h
    cases hc : c.reconfigures with
    | false => exact popped.exec hc hstep
    | true => exact popped.exec_reconfigures hc hstep

/-- Settles O12, each half kept by every step of itself. -/
theorem resumeAndMuteStaySound : Obligations.ResumeAndMuteStaySound := by
  unfold Obligations.ResumeAndMuteStaySound
  exact fun s t hresume hmute hstep => ⟨resumeSound_step hresume hstep, muteSound_step hmute hstep⟩

end Sys2Proof.Machine
end

section
/-! Proofs for 05_match_clock.md, part 4: O44 and O45 settled. A match frame comes to its sender and its command alone: its
length is fixed, so two of them complete at one moment, and of the payload only the first byte is read. -/

namespace Sys2Proof.Machine

/-! ## What a match frame carries (R169, R172, R173) -/

/-- A valid match frame is ten characters long. -/
theorem length_of_judge_command {frame payload : List Byte} {p : StationNo}
    (h : judge frame = .valid .command p payload) : frame.length = 10 := by
  unfold judge at h
  split at h
  · rename_i sync len kind sender seq rest
    dsimp only at h
    split at h
    · cases h
    · rename_i complete
      have hrest : rest.length = len.toNat + 2 := by simpa using fun hne => complete (.inr (.inr hne))
      split at h
      · cases h
      · rename_i k _
        split at h
        · cases h
        · rename_i hfits
          split at h
          · split at h
            · cases h
            · split at h
              · cases h
              · obtain ⟨rfl, -, -⟩ := Judgement.valid.inj h
                simp only [lengthFits, List.length_take, Bool.not_eq_true, Bool.not_eq_false', beq_iff_eq] at hfits
                simp only [List.length_cons]
                omega
          · cases h
  · cases h

/-- R97: a command value is one of 1–4. -/
theorem exists_payloadCommand_iff (payload : List Byte) :
    (∃ c, payloadCommand payload = some c) ↔ 1 ≤ (payload.getD 0 0).toNat ∧ (payload.getD 0 0).toNat ≤ 4 := by
  unfold payloadCommand
  generalize (payload.getD 0 0).toNat = n
  by_cases outside : 5 ≤ n
  · obtain ⟨m, rfl⟩ := Nat.exists_eq_add_of_le' outside
    simp [Command.ofCode?]
  · interval_cases n <;> simp [Command.ofCode?]

/-! ## A match frame taken in (R97, R175, R182) -/

/-- The frame's time passed and its SENDER noted, with the twin's effect where the SENDER is the own number. -/
theorem heardFrom_eq (s : State) (dt : Nat) (frame : List Byte) (p : StationNo) :
    heardFrom s dt frame p =
      if p = s.loader.station then meetTwin (heardFrame s dt frame p) else heardFrame s dt frame p := by
  have muted : (heardFrame s dt frame p).line.muted = s.line.muted := by simp [heardFrame]
  unfold heardFrom meetTwin enterMuted
  by_cases hp : p = s.loader.station
  · rw [if_pos hp, if_neg (not_not_intro hp), muted]
    cases s.line.muted <;> rfl
  · rw [if_neg hp, if_pos hp]

/-- A match frame does what its command does to a station that has heard it. -/
theorem exec_matchFrameReceived {s : State} {dt : Nat} {frame payload : List Byte} {p : StationNo} (hhears : s.hears = true)
    (hcont : s.line.continues frame = true) (hjudge : judge frame = .valid .command p payload) :
    exec (.matchFrameReceived dt frame) s = .next
      (match payloadCommand payload with
        | some c => takeCommand (heardFrom s dt frame p) c
        | none => heardFrom s dt frame p) := by
  let u := (s.advance (max dt (s.line.leastTime (s.line.missing frame)))).skip 0 0
  have heard : { u with line := { u.line with lastSender := p } } = heardFrame s dt frame p := rfl
  have station : u.loader.station = s.loader.station := by simp [u]
  have received : receiveFrame (Judgement.isValid .command) dt frame s = .next (takeFrame u .command p payload) := by
    simp only [receiveFrame, hhears, hcont, Bool.and_self, hjudge]
    rfl
  refine received.trans (congrArg _ ?_)
  simp only [takeFrame, heard, station, heardFrom_eq] <;> rfl

/-- The frame leaves everything but the line controller and the events-lost flag as the time it takes leaves it. -/
theorem heardFrom_reports (s : State) (dt : Nat) (frame : List Byte) (p : StationNo) :
    OnlyReports (s.advance (max dt (s.line.leastTime (s.line.missing frame)))) (heardFrom s dt frame p) := by
  have heard : OnlyReports (s.advance (max dt (s.line.leastTime (s.line.missing frame)))) (heardFrame s dt frame p) := rfl
  rw [heardFrom_eq]
  split
  · exact heard.trans (onlyReports_meetTwin _)
  · exact heard

@[simp] theorem heardFrom_ready (s : State) (dt : Nat) (frame : List Byte) (p : StationNo) :
    (heardFrom s dt frame p).ready = s.ready := by
  rw [State.ready, State.ready, heardFrom_reports s dt frame p]
  simp

@[simp] theorem heardFrom_lastSender (s : State) (dt : Nat) (frame : List Byte) (p : StationNo) :
    (heardFrom s dt frame p).line.lastSender = p := by
  unfold heardFrom
  dsimp only
  split
  · rfl
  · split
    · rfl
    · rw [State.setEventsLost_line]; rfl

/-! ## The answer to a command (R91, R97, R103) -/

/-- A command that is neither answered by a HALT frame nor refused by the phase leads to its row's phase. -/
theorem takeCommand_phase {s : State} (hready : s.ready = true) (c : Command) : ¬(c = .resume ∧ s.haltInput = true) →
    c.accepted s.clock.phase = true → (takeCommand s c).clock.phase = (match c with
      | .start => s.clock.firstPhase
      | .halt => .halted
      | .resume => s.clock.resume
      | .clear => .idle) := by
  intro hhalt hc
  unfold takeCommand
  rw [hready, if_neg hhalt, hc]
  cases c with
  | start => simp [applyStart_eq]
  | halt => simp [applyHalt]
  | resume => simp [applyResume]
  | clear => simp [applyClear_clock]

theorem commandAnswered_takeCommand {u : State} (hready : u.ready = true) (c : Command) :
    CommandAnswered u (takeCommand u c) c := by
  refine ⟨rfl, fun x dt => ?_, ?_, fun hhalt hc => ?_, takeCommand_phase hready c⟩
  · cases c <;> rfl
  · rintro rfl hhalt
    simp [takeCommand, hready, hhalt]
  · simp only [takeCommand, hready, if_neg hhalt, hc]
    rfl

/-- Settles O44. -/
theorem matchFrameAppliesItsCommand : Obligations.MatchFrameAppliesItsCommand := by
  unfold Obligations.MatchFrameAppliesItsCommand
  intro s dt frame payload p hhears hcont hjudge
  have received := exec_matchFrameReceived (dt := dt) hhears hcont hjudge
  refine ⟨fun c hready hc => ?_, exists_payloadCommand_iff payload, fun hout => ?_⟩
  · rw [hc] at received
    refine ⟨_, received, ?_, outsideAs_takeCommand _ c, commandAnswered_takeCommand (by simpa using hready) c⟩
    rw [((QueuesOnly.refl _).takeCommand c).line]
    exact heardFrom_lastSender s dt frame p
  · rw [← exists_payloadCommand_iff, not_exists] at hout
    rwa [Option.eq_none_iff_forall_ne_some.mpr hout] at received

/-- Settles O45: a frame is read for its length, its sender and its command. -/
theorem matchFrameTickIsNotRead : Obligations.MatchFrameTickIsNotRead := by
  unfold Obligations.MatchFrameTickIsNotRead
  intro s dt x y payload payload' p hx hy hcommand hcont
  have missing : s.line.missing x = s.line.missing y := by
    unfold Line.missing
    rw [length_of_judge_command hx, length_of_judge_command hy]
  have heard : heardFrom s dt x p = heardFrom s dt y p := by rw [heardFrom, heardFrame, missing]; rfl
  by_cases hears : s.hears = true ∧ s.line.continues x = true
  · obtain ⟨hhears, hcontx⟩ := hears
    rw [exec_matchFrameReceived hhears hcontx hx, exec_matchFrameReceived hhears (hcont ▸ hcontx) hy, hcommand, heard]
  · have unheard (frame : List Byte) (same : s.line.continues x = s.line.continues frame) :
        exec (.matchFrameReceived dt frame) s = .next (s.advance dt) := by
      change receiveFrame (Judgement.isValid .command) dt frame s = _
      rcases receiveFrame_cases (Judgement.isValid .command) dt frame s with ⟨e, -⟩ | ⟨hhears, hc, -⟩
      · exact e
      · exact absurd ⟨hhears, same.trans hc⟩ hears
    rw [unheard x rfl, unheard y hcont]

end Sys2Proof.Machine
end

section
/-! Proofs for 05_match_clock.md, part 5: O42 settled. Of a status that completes only R104 touches the match clock, and it
finds phase, settings and queued commands as they stood before. -/

namespace Sys2Proof.Machine

/-! ## The clock a row is offered to (R104, R110) -/

/-- R104: the clock that a row adopted brings, but for its phase. -/
def Clock.adopting (k : Clock) (row : PeerRow) : Clock :=
  if row.phase.running then { k with tick := row.tick, tenth := 0, boundaryDue := false, ticking := [] }
  else { k with
    resume := row.resume
    tick := if row.resume = .idle then 0 else row.tick
    tenth := 0
    boundaryDue := false
    ticking := [] }

theorem lateJoin_clock (s : State) (row : PeerRow) :
    (lateJoin s row).clock = if s.adopts row then { s.clock.adopting row with phase := row.phase } else s.clock := by
  unfold lateJoin
  split
  · exact changePhase_clock _ _
  · rfl

theorem heardFrom_clock (s : State) (dt : Nat) (frame : List Byte) (p : StationNo) :
    (heardFrom s dt frame p).clock = (s.advance (max dt (s.line.leastTime (s.line.missing frame)))).clock :=
  (heardFrom_reports s dt frame p).playsOnly.clock

/-- The frame's time leaves the match where it stands. -/
theorem matchStands_heardFrom (s : State) (dt : Nat) (frame : List Byte) (p : StationNo) :
    MatchStands s (heardFrom s dt frame p) := (MatchStands.advance s _).trans (.of_clock (heardFrom_clock s dt frame p))

/-- A frame of another station leaves the own commands that wait. -/
theorem heardFrom_commandQueued {s : State} {p : StationNo} (hp : p ≠ s.loader.station) (dt : Nat) (frame : List Byte)
    (c : Command) : (heardFrom s dt frame p).commandQueued c = s.commandQueued c := by
  unfold heardFrom
  rw [if_pos hp]
  simp [State.commandQueued, heardFrame]

theorem State.setPeer_line (s : State) (p : StationNo) (row : PeerRow) : (s.setPeer p row).line = s.line := by
  unfold State.setPeer; split <;> rfl

/-- R172: a resume phase is never HALTED. -/
theorem readStatus_resume {payload : List Byte} {r : PeerReport} (h : readStatus payload = some r) : r.resume ≠ .halted := by
  unfold readStatus at h
  split at h
  · split at h
    · cases h
    · rename_i hr
      obtain rfl := Option.some.inj h
      exact hr
  · cases h

/-- Settles O42. -/
theorem lateJoinAdoptsARunningPhase : Obligations.LateJoinAdoptsARunningPhase := by
  unfold Obligations.LateJoinAdoptsARunningPhase
  intro s dt frame payload p r hhears hcont hready hjudge hp hread
  have hresume := readStatus_resume hread
  refine ⟨_, exec_statusReceived hhears hcont hjudge hp hread hready, ?_⟩
  generalize hrow : (⟨true, 0, r.phase, r.resume, r.tick, r.entries⟩ : PeerRow) = row
  generalize hu : heardFrom s dt frame p = u
  generalize hv : dualHold (u.setPeer p row) p r.entries = v
  have joined := lateJoin_clock v row
  have held : Settles (u.setPeer p row) v := hv ▸ Settles.refl.dualHold p r.entries
  have clock : v.clock = u.clock := held.clock.trans (onlyReports_setPeer u p row).playsOnly.clock
  obtain ⟨phase, resume, tick⟩ : MatchStands s u := hu ▸ matchStands_heardFrom s dt frame p
  have queued : v.commandQueued .start = s.commandQueued .start := by
    rw [held.tells.commandQueued, ← heardFrom_commandQueued hp dt frame, hu]
    simp only [State.commandQueued, State.setPeer_line]
  have ready : v.ready = true := by
    rw [held.ready, State.ready, onlyReports_setPeer u p row, ← hready, ← heardFrom_ready s dt frame p, hu]
    rfl
  have adopts : v.adopts row = (s.clock.phase == .idle && !s.commandQueued .start &&
      (r.phase.running || (r.phase == .halted && r.resume != .halted))) := by
    rw [State.adopts, ready, clock, phase, queued, ← hrow, Bool.true_and]
  rw [adopts, clock, ← hrow] at joined
  rw [← hrow]
  refine ⟨fun hidle hstart hrun => ?_, fun hidle hstart hhalted => ?_, fun hother => ?_⟩
  · rw [joined]
    simp [hidle, hstart, hrun, Clock.adopting, resume]
  · rw [joined]
    simp [hidle, hstart, hhalted, hresume, Clock.adopting, Phase.running]
  · have none : (s.clock.phase == .idle && !s.commandQueued .start &&
        (r.phase.running || (r.phase == .halted && r.resume != .halted))) = false := by
      rcases hother with h | h | h | h <;> simp [h, Phase.running]
    rw [none, if_neg Bool.false_ne_true] at joined
    rw [joined]
    exact ⟨phase, tick, rfl⟩

end Sys2Proof.Machine
end

section
/-! Proofs for 05_match_clock.md, part 6: a phase-change notice fixture by fixture, where no on-release list begins: what each
fixture comes to is its own matter (`Fixture.noticed`), and the line hears of nothing but the holds that end. -/

namespace Sys2Proof.Machine

/-! ## What one fixture comes to (R5–R7, R63, Table 1-4) -/

/-- A GATE's or DISPENSER's hold ends with the phase. -/
def Fixture.EndsHold (x : Fixture) (new : Phase) : Prop :=
  ∃ c, x.config = some c ∧ c.kind.claimable = true ∧ x.state = .held ∧ inMask c.liveMask new = false

/-- A hold that ends with the phase has its holder, and starts no on-release list. -/
def Fixture.EndsAlone (x : Fixture) (new : Phase) : Prop :=
  ∀ c, x.config = some c → c.kind.claimable = true → x.state = .held → inMask c.liveMask new = false →
    c.secondList = none ∧ x.claims.holder.isSome = true

theorem Fixture.endsAlone_of_not_endsHold {x : Fixture} {new : Phase} (h : ¬x.EndsHold new) : x.EndsAlone new :=
  fun c hc hk hheld hmask => absurd ⟨c, hc, hk, hheld, hmask⟩ h

/-- A fixture once it has taken the notice of a phase other than HALTED, but for its indicator. -/
def Fixture.noticed (old new : Phase) (x : Fixture) (c : FixtureConfig) : Fixture :=
  match c.params, x.state, inMask c.liveMask new with
  | .gate _ _, .dormant, true | .dispenser _ _ _ _, .dormant, true => { x with state := .free }
  | .gate _ _, .free, false | .dispenser _ _ _ _, .free, false => { x with state := .dormant }
  | .gate _ _, .held, false | .dispenser _ _ _ _, .held, false =>
    { x with state := .dormant, claims := { x.claims with holder := none, queue := [] } }
  | .zone _ _, .dormant, true => { x with state := .live, control := { x.control with contested := false } }
  | .zone _ _, .live, false => { x with state := .dormant, control := { x.control with contested := false } }
  | .goal _ _ _ _, .dormant, true => { x with state := .counting }
  | .goal _ _ grace _, .counting, false =>
    if grace = 0 then { x with state := .dormant }
    else { x with
      state := .grace, scoring := { x.scoring with graceLeft := grace * Config.tenth, credited := some old } }
  | _, _, _ => x

/-- Of fixtures and hold-off list only fixture f has changed, to x but for its indicator. -/
structure NoticedTo (f : FixtureNo) (x : Fixture) (s t : State) : Prop where
  own : ∃ i, t.fixture f = { x with indicator := i }
  other : ∀ g, g ≠ f → t.fixture g = s.fixture g
  holdOff : t.engine.holdOff = s.engine.holdOff

namespace NoticedTo
variable {f : FixtureNo} {x y : Fixture} {s t : State}

theorem refl (s : State) (f : FixtureNo) : NoticedTo f (s.fixture f) s s := ⟨⟨_, rfl⟩, fun _ _ => rfl, rfl⟩

theorem setFixture (h : NoticedTo f x s t) (y : Fixture) : NoticedTo f y s (t.setFixture f y) := by
  obtain ⟨-, other, holdOff⟩ := h
  refine ⟨⟨y.indicator, by simp⟩, fun g hg => ?_, holdOff⟩
  rw [t.setFixture_fixture_other hg.symm, other g hg]

theorem of_engine {u : State} (h : NoticedTo f x s t) (engine : u.engine = t.engine) : NoticedTo f x s u := by
  obtain ⟨own, other, holdOff⟩ := h
  have fixture (g : FixtureNo) : u.fixture g = t.fixture g := by rw [State.fixture, engine]; rfl
  exact ⟨by rwa [fixture], fun g hg => (fixture g).trans (other g hg), by rwa [engine]⟩

theorem raiseChange (h : NoticedTo f x s t) : NoticedTo f x s t.raiseChange := h.of_engine t.raiseChange_engine

theorem refreshIndicator (h : NoticedTo f x s t) : NoticedTo f x s (t.refreshIndicator f) := by
  obtain ⟨⟨i, own⟩, other, holdOff⟩ := h
  refine ⟨⟨_, by rw [State.refreshIndicator_fixture, if_pos rfl, own]⟩, fun g hg => ?_, by simpa using holdOff⟩
  rw [State.refreshIndicator_fixture, if_neg hg.symm, other g hg]

end NoticedTo

/-! ## What the line hears -/

/-- Nothing of what an event shows or how it is sent has changed. -/
structure SilentAs (s t : State) : Prop where
  loader : t.loader = s.loader
  now : t.now = s.now
  line : t.line = s.line
  eventSeq : t.picture.eventSeq = s.picture.eventSeq
  tick : t.clock.tick = s.clock.tick

namespace SilentAs
variable {s t u : State}

theorem refl (s : State) : SilentAs s s := ⟨rfl, rfl, rfl, rfl, rfl⟩

theorem trans (h : SilentAs s t) (k : SilentAs t u) : SilentAs s u :=
  ⟨k.loader.trans h.loader, k.now.trans h.now, k.line.trans h.line, k.eventSeq.trans h.eventSeq, k.tick.trans h.tick⟩

theorem setFixture (h : SilentAs s t) (f : FixtureNo) (x : Fixture) : SilentAs s (t.setFixture f x) :=
  h.trans ⟨rfl, rfl, rfl, rfl, rfl⟩

theorem setPulse (h : SilentAs s t) (p : Pulse) : SilentAs s { t with pulse := p } := h.trans ⟨rfl, rfl, rfl, rfl, rfl⟩

theorem setPhase (s : State) (new : Phase) : SilentAs s { s with clock := { s.clock with phase := new } } :=
  ⟨rfl, rfl, rfl, rfl, rfl⟩

theorem raiseChange (h : SilentAs s t) : SilentAs s t.raiseChange := h.trans (by constructor <;> simp)

theorem refreshIndicator (h : SilentAs s t) (f : FixtureNo) : SilentAs s (t.refreshIndicator f) :=
  h.trans (by constructor <;> simp)

/-- An event created in either is sent alike. -/
theorem createEvent_line (h : SilentAs s t) (k : EventKind) (f : Option FixtureNo) (r : Robot) (side : Side) (v : Nat) :
    (t.createEvent k f r side v).line = (s.createEvent k f r side v).line := by
  obtain ⟨loader, now, line, eventSeq, tick⟩ := h
  simp only [State.createEvent_line, State.ready, loader, now, line, eventSeq, tick] <;> rfl

end SilentAs

/-! ## The notice at one fixture -/

/-- The claimable kinds are GATE and DISPENSER. -/
theorem FixtureConfig.params_of_claimable {c : FixtureConfig} (hk : c.kind.claimable = true) :
    (∃ hold lost, c.params = .gate hold lost) ∨
      ∃ lost acap initial period, c.params = .dispenser lost acap initial period := by
  unfold FixtureConfig.kind at hk
  cases hp : c.params <;> simp_all [KindParams.kind, Kind.claimable]

section
variable {s : State} {f : FixtureNo} {c : FixtureConfig} {new : Phase}

/-- R36: a PHASE release that starts no list. -/
theorem settle_phaseRelease {h : Holder} (hc : (s.fixture f).config = some c) (hlist : c.secondList = none)
    (hh : (s.fixture f).claims.holder = some h) :
    NoticedTo f { s.fixture f with
      state := .dormant, claims := { (s.fixture f).claims with holder := none, queue := [] } } s
      (settle s [.phaseRelease f]) ∧
    (settle s [.phaseRelease f]).line = (s.createEvent (.release .phase) (some f) h.robot h.side
      (if c.kind = .dispenser then (s.fixture f).claims.allowance.get h.side else 0)).line := by
  let x : Fixture := { s.fixture f with state := .dormant, claims := { (s.fixture f).claims with holder := none } }
  let told := (s.setFixture f x).createEvent (.release .phase) (some f) h.robot h.side (x.eventValue h.side)
  have own : told.fixture f = x := by simp [told]
  have first : performPhaseRelease s f =
      (s.setFixture f { s.fixture f with
        state := .dormant, claims := { (s.fixture f).claims with holder := none } },
      [.phaseTail f h.robot h.side]) := by
    simp only [performPhaseRelease, hc, hh, hlist, FixtureConfig.startTask, List.nil_append]
  have last : performPhaseTail (s.setFixture f x) f h.robot h.side =
      (((told.setClaims f { x.claims with queue := [] }).raiseChange).refreshIndicator f, []) := by
    unfold performPhaseTail
    dsimp only
    rw [State.setFixture_fixture_same, own]
  have released : settle s [.phaseRelease f] =
      ((told.setClaims f { x.claims with queue := [] }).raiseChange).refreshIndicator f := by
    simp only [settle_cons, perform]
    rw [first]
    simp only [List.cons_append, List.nil_append, settle_cons, perform]
    rw [last]
    exact settle_nil _
  have value : x.eventValue h.side =
      if c.kind = .dispenser then (s.fixture f).claims.allowance.get h.side else 0 := by
    simp [x, Fixture.eventValue, Fixture.kind?, hc]
  have toldAs : NoticedTo f x s told := ((NoticedTo.refl s f).setFixture x).of_engine (by simp [told])
  rw [released]
  refine ⟨NoticedTo.refreshIndicator (NoticedTo.raiseChange ?_) , ?_⟩
  · have := toldAs.setFixture { x with claims := { x.claims with queue := [] } }
    unfold State.setClaims
    rwa [own]
  · rw [State.refreshIndicator_line, State.raiseChange_line, State.setClaims_line, ← value]
    exact ((SilentAs.refl s).setFixture f x).createEvent_line _ _ _ _ _

/-- R5, Table 1-4. -/
theorem claimNotice_noticed (old : Phase) (hc : (s.fixture f).config = some c) (hk : c.kind.claimable = true)
    (h : (s.fixture f).EndsAlone new) :
    NoticedTo f ((s.fixture f).noticed old new c) s (claimNotice s f c new) ∧
      (¬(s.fixture f).EndsHold new → SilentAs s (claimNotice s f c new)) := by
  have noticed (x : Fixture) : NoticedTo f x s (s.setFixture f x).raiseChange :=
    ((NoticedTo.refl s f).setFixture x).raiseChange
  have silent (x : Fixture) : SilentAs s (s.setFixture f x).raiseChange := ((SilentAs.refl s).setFixture f x).raiseChange
  have params := c.params_of_claimable hk
  unfold claimNotice
  split
  · rename_i hstate hmask
    refine ⟨?_, fun _ => silent _⟩
    rcases params with ⟨_, _, hp⟩ | ⟨_, _, _, _, hp⟩ <;> (simp only [Fixture.noticed, hp, hstate, hmask]; exact noticed _)
  · rename_i hstate hmask
    refine ⟨?_, fun _ => silent _⟩
    rcases params with ⟨_, _, hp⟩ | ⟨_, _, _, _, hp⟩ <;> (simp only [Fixture.noticed, hp, hstate, hmask]; exact noticed _)
  · rename_i hstate hmask
    obtain ⟨hlist, hholder⟩ := h c hc hk hstate hmask
    obtain ⟨holder, hh⟩ := Option.isSome_iff_exists.mp hholder
    refine ⟨?_, fun hno => absurd ⟨c, hc, hk, hstate, hmask⟩ hno⟩
    have released := (settle_phaseRelease hc hlist hh).1
    rcases params with ⟨_, _, hp⟩ | ⟨_, _, _, _, hp⟩ <;> simpa only [Fixture.noticed, hp, hstate, hmask] using released
  · rename_i dormant free held
    refine ⟨?_, fun _ => .refl s⟩
    have stays : (s.fixture f).noticed old new c = s.fixture f := by
      rcases params with ⟨_, _, hp⟩ | ⟨_, _, _, _, hp⟩ <;> (unfold Fixture.noticed; split <;> simp_all)
    rw [stays]
    exact .refl s f

/-- R6. -/
theorem zoneNotice_noticed (old : Phase) {cmax rate : Nat} (hp : c.params = .zone cmax rate) :
    NoticedTo f ((s.fixture f).noticed old new c) s (zoneNotice s f c new) ∧ SilentAs s (zoneNotice s f c new) := by
  have noticed (x : Fixture) : NoticedTo f x s (s.setFixture f x).raiseChange ∧ SilentAs s (s.setFixture f x).raiseChange :=
    ⟨((NoticedTo.refl s f).setFixture x).raiseChange, ((SilentAs.refl s).setFixture f x).raiseChange⟩
  unfold zoneNotice
  dsimp only
  split
  · rename_i hstate hmask
    simp only [Fixture.noticed, hp, hstate, hmask]
    exact noticed _
  · rename_i hstate hmask
    simp only [Fixture.noticed, hp, hstate, hmask]
    exact noticed _
  · rename_i dormant live
    have stays : (s.fixture f).noticed old new c = s.fixture f := by
      unfold Fixture.noticed
      split <;> simp_all
    rw [stays]
    exact ⟨.refl s f, .refl s⟩

/-- R7, R63. -/
theorem goalNotice_noticed (old : Phase) {credit : Option CreditRule} {values : PerPhase} {grace jam : Nat}
    (hp : c.params = .goal credit values grace jam) :
    NoticedTo f ((s.fixture f).noticed old new c) s (goalNotice s f c grace old new) ∧
      SilentAs s (goalNotice s f c grace old new) := by
  have noticed (x : Fixture) : NoticedTo f x s (s.setFixture f x).raiseChange ∧ SilentAs s (s.setFixture f x).raiseChange :=
    ⟨((NoticedTo.refl s f).setFixture x).raiseChange, ((SilentAs.refl s).setFixture f x).raiseChange⟩
  unfold goalNotice
  dsimp only
  split
  · rename_i hstate hmask
    simp only [Fixture.noticed, hp, hstate, hmask]
    exact noticed _
  · rename_i hstate hmask
    simp only [Fixture.noticed, hp, hstate, hmask]
    split
    · exact noticed _
    · exact noticed _
  · rename_i dormant counting
    have stays : (s.fixture f).noticed old new c = s.fixture f := by
      unfold Fixture.noticed
      split <;> simp_all
    rw [stays]
    exact ⟨.refl s f, .refl s⟩

end

/-- A fixture that has taken the notice; one without configuration, or DEAD, stays as it is. -/
def Fixture.afterNotice (old new : Phase) (x : Fixture) : Fixture :=
  match x.config with
  | some c => if x.state = .dead then x else x.noticed old new c
  | none => x

theorem fixtureNotice_noticed {old new : Phase} {s : State} {f : FixtureNo} (hnew : new ≠ .halted)
    (h : (s.fixture f).EndsAlone new) :
    NoticedTo f ((s.fixture f).afterNotice old new) s (fixtureNotice old new s f) ∧
      (¬(s.fixture f).EndsHold new → SilentAs s (fixtureNotice old new s f)) := by
  have refreshed {x : Fixture} {t : State} (k : NoticedTo f x s t ∧ (¬(s.fixture f).EndsHold new → SilentAs s t)) :
      NoticedTo f x s (t.refreshIndicator f) ∧ (¬(s.fixture f).EndsHold new → SilentAs s (t.refreshIndicator f)) :=
    ⟨k.1.refreshIndicator, fun hno => (k.2 hno).refreshIndicator f⟩
  unfold fixtureNotice Fixture.afterNotice
  dsimp only
  refine refreshed ?_
  cases hc : (s.fixture f).config with
  | none => exact ⟨.refl s f, fun _ => .refl s⟩
  | some c =>
    simp only [hnew, false_or]
    split
    · exact ⟨.refl s f, fun _ => .refl s⟩
    · have kind {k : Kind} (hp : c.params.kind = k) (hk : k.claimable = true) : c.kind.claimable = true := by
        rw [FixtureConfig.kind, hp, hk]
      split
      · rename_i hp
        exact claimNotice_noticed old hc (kind (k := .gate) (by rw [hp]; rfl) rfl) h
      · rename_i hp
        exact claimNotice_noticed old hc (kind (k := .dispenser) (by rw [hp]; rfl) rfl) h
      · rename_i hp
        exact (zoneNotice_noticed old hp).imp_right fun silent _ => silent
      · rename_i hp
        exact (goalNotice_noticed old hp).imp_right fun silent _ => silent

/-- R36: the fixture whose hold ends tells of its PHASE release. -/
theorem fixtureNotice_line {old new : Phase} {s : State} {f : FixtureNo} {c : FixtureConfig} {h : Holder}
    (hnew : new ≠ .halted) (hc : (s.fixture f).config = some c) (hk : c.kind.claimable = true)
    (hheld : (s.fixture f).state = .held) (hmask : inMask c.liveMask new = false) (hlist : c.secondList = none)
    (hh : (s.fixture f).claims.holder = some h) :
    (fixtureNotice old new s f).line = (s.createEvent (.release .phase) (some f) h.robot h.side
      (if c.kind = .dispenser then (s.fixture f).claims.allowance.get h.side else 0)).line := by
  have noticed : fixtureNotice old new s f = (claimNotice s f c new).refreshIndicator f := by
    unfold FixtureConfig.kind at hk
    cases hp : c.params <;> simp_all [fixtureNotice, KindParams.kind, Kind.claimable]
  have released : claimNotice s f c new = settle s [.phaseRelease f] := by simp [claimNotice, hheld, hmask]
  rw [noticed, State.refreshIndicator_line, released, (settle_phaseRelease hc hlist hh).2]

/-! ## The notice at every fixture -/

section
variable {old new : Phase} {s : State} {fs : List FixtureNo}

/-- Each fixture takes the notice as if it were alone. -/
theorem fixtureNotices_noticed (hnew : new ≠ .halted) (nodup : fs.Nodup) : ∀ {s : State},
    (∀ f ∈ fs, (s.fixture f).EndsAlone new) →
    (∀ f ∈ fs, ∃ i, (fs.foldl (fixtureNotice old new) s).fixture f =
      { (s.fixture f).afterNotice old new with indicator := i }) ∧
    (∀ f ∉ fs, (fs.foldl (fixtureNotice old new) s).fixture f = s.fixture f) ∧
    (fs.foldl (fixtureNotice old new) s).engine.holdOff = s.engine.holdOff ∧
    ((∀ f ∈ fs, ¬(s.fixture f).EndsHold new) → SilentAs s (fs.foldl (fixtureNotice old new) s)) := by
  induction fs with
  | nil => exact fun _ => ⟨by simp, by simp, rfl, fun _ => .refl _⟩
  | cons f fs ih =>
    intro s h
    obtain ⟨hf, nodup⟩ := List.nodup_cons.mp nodup
    obtain ⟨⟨own, other, holdOff⟩, silent⟩ :=
      fixtureNotice_noticed (old := old) (f := f) hnew (h f (List.mem_cons_self ..))
    have same (g : FixtureNo) (hg : g ∈ fs) : (fixtureNotice old new s f).fixture g = s.fixture g :=
      other g fun e => hf (e ▸ hg)
    obtain ⟨rest, kept, holdOff', silent'⟩ :=
      ih nodup (s := fixtureNotice old new s f) fun g hg => by rw [same g hg]; exact h g (List.mem_cons_of_mem f hg)
    rw [List.foldl_cons]
    refine ⟨fun g hg => ?_, fun g hg => ?_, holdOff'.trans holdOff, fun hno => ?_⟩
    · rcases List.mem_cons.mp hg with rfl | hg
      · rw [kept g hf]; exact own
      · rw [← same g hg]; exact rest g hg
    · obtain ⟨hgf, hg⟩ := not_or.mp (mt List.mem_cons.mpr hg)
      rw [kept g hg, other g hgf]
    · refine (silent (hno f (List.mem_cons_self ..))).trans (silent' fun g hg => ?_)
      rw [same g hg]
      exact hno g (List.mem_cons_of_mem f hg)

/-- Where one hold ends, its release is what the line hears. -/
theorem fixtureNotices_line {f : FixtureNo} {c : FixtureConfig} {h : Holder} (hnew : new ≠ .halted) (nodup : fs.Nodup)
    (hf : f ∈ fs) (hc : (s.fixture f).config = some c) (hk : c.kind.claimable = true)
    (hheld : (s.fixture f).state = .held) (hmask : inMask c.liveMask new = false) (hlist : c.secondList = none)
    (hh : (s.fixture f).claims.holder = some h) (single : ∀ g, g ≠ f → ¬(s.fixture g).EndsHold new) :
    (fs.foldl (fixtureNotice old new) s).line = (s.createEvent (.release .phase) (some f) h.robot h.side
      (if c.kind = .dispenser then (s.fixture f).claims.allowance.get h.side else 0)).line := by
  obtain ⟨before, after, rfl⟩ := List.append_of_mem hf
  obtain ⟨nodupBefore, nodupRest, disjoint⟩ := List.nodup_append.mp nodup
  obtain ⟨notAfter, nodupAfter⟩ := List.nodup_cons.mp nodupRest
  have notBefore : f ∉ before := fun hb => disjoint f hb f (List.mem_cons_self ..) rfl
  have quiet (g : FixtureNo) (hg : g ∈ before) : ¬(s.fixture g).EndsHold new := single g fun e => notBefore (e ▸ hg)
  obtain ⟨-, kept, -, silent⟩ := fixtureNotices_noticed (old := old) hnew nodupBefore (s := s) fun g hg =>
    Fixture.endsAlone_of_not_endsHold (quiet g hg)
  rw [List.foldl_append, List.foldl_cons]
  generalize before.foldl (fixtureNotice old new) s = u at kept silent ⊢
  have same : u.fixture f = s.fixture f := kept f notBefore
  have told := fixtureNotice_line (old := old) hnew (same ▸ hc) hk (same ▸ hheld) hmask hlist (same ▸ hh)
  obtain ⟨⟨-, other, -⟩, -⟩ := fixtureNotice_noticed (old := old) (s := u) (f := f) hnew fun d hd hkd _ _ => by
    obtain rfl : c = d := Option.some.inj (hc.symm.trans (same ▸ hd))
    exact ⟨hlist, by rw [same, hh]; rfl⟩
  have later (g : FixtureNo) (hg : g ∈ after) : ¬((fixtureNotice old new u f).fixture g).EndsHold new := by
    have hgf : g ≠ f := fun e => notAfter (e ▸ hg)
    have hgb : g ∉ before := fun hb => disjoint g hb g (List.mem_cons_of_mem f hg) rfl
    rw [other g hgf, kept g hgb]
    exact single g hgf
  obtain ⟨-, -, -, silentAfter⟩ := fixtureNotices_noticed (old := old) hnew nodupAfter
    (s := fixtureNotice old new u f) fun g hg => Fixture.endsAlone_of_not_endsHold (later g hg)
  rw [(silentAfter later).line, told, (silent quiet).createEvent_line, same]

end

/-! ## The whole notice (R96) -/

@[simp] theorem Pulse.leaveSafe_safe (p : Pulse) : p.leaveSafe.safe = false := by
  unfold Pulse.leaveSafe
  split
  · rfl
  · rename_i h; exact Bool.of_not_eq_true h

@[simp] theorem Pulse.enterSafe_safe (p : Pulse) : p.enterSafe.safe = true := by
  unfold Pulse.enterSafe
  split
  · assumption
  · rfl

theorem fixtureNumbers_nodup : fixtureNumbers.Nodup := by decide

/-- What follows the fixtures' part of a notice leaves the fixtures and the line. -/
theorem announce_eq {s : State} (old : Phase) {new : Phase} (hs : s.clock.phase = new) (hnew : new ≠ .halted) :
    announce s old = State.raiseChange
      { fixtureNumbers.foldl (fixtureNotice old new) s with
        pulse := (fixtureNumbers.foldl (fixtureNotice old new) s).pulse.leaveSafe } := by
  subst hs
  unfold announce
  simp only [if_neg hnew]

/-- The notice of a phase other than HALTED, where no on-release list begins. -/
theorem announce_noticed {s : State} (old : Phase) {new : Phase} (hs : s.clock.phase = new) (hnew : new ≠ .halted)
    (h : ∀ f, (s.fixture f).EndsAlone new) :
    (∀ f, ∃ i, (announce s old).fixture f = { (s.fixture f).afterNotice old new with indicator := i }) ∧
    (announce s old).engine.holdOff = s.engine.holdOff ∧ (announce s old).pulse.safe = false ∧
    ((∀ f, ¬(s.fixture f).EndsHold new) → SilentAs s (announce s old)) := by
  obtain ⟨rest, -, holdOff, silent⟩ :=
    fixtureNotices_noticed (old := old) hnew fixtureNumbers_nodup (s := s) fun f _ => h f
  rw [announce_eq old hs hnew]
  generalize fixtureNumbers.foldl (fixtureNotice old new) s = u at rest holdOff silent ⊢
  refine ⟨fun f => ?_, ?_, ?_, fun hno => ?_⟩
  · rw [State.raiseChange_fixture]; exact rest f (mem_fixtureNumbers f)
  · rw [State.raiseChange_engine]; exact holdOff
  · rw [State.raiseChange_pulse]; exact Pulse.leaveSafe_safe _
  · exact ((silent fun f _ => hno f).setPulse _).raiseChange

/-- The same of a change of phase, which reads the phase that stood. -/
theorem changePhase_noticed {s : State} {new : Phase} (hnew : new ≠ .halted) (h : ∀ f, (s.fixture f).EndsAlone new) :
    (∀ f, ∃ i, (changePhase s new).fixture f =
      { (s.fixture f).afterNotice s.clock.phase new with indicator := i }) ∧
    (changePhase s new).engine.holdOff = s.engine.holdOff ∧ (changePhase s new).pulse.safe = false ∧
    ((∀ f, ¬(s.fixture f).EndsHold new) → SilentAs s (changePhase s new)) := by
  obtain ⟨rest, holdOff, safe, silent⟩ :=
    announce_noticed (s := { s with clock := { s.clock with phase := new } }) s.clock.phase rfl hnew h
  exact ⟨rest, holdOff, safe, fun hno => (SilentAs.setPhase s new).trans (silent hno)⟩

/-- R36: where one hold ends, its release is what the line hears of the change of phase. -/
theorem changePhase_line {s : State} {new : Phase} {f : FixtureNo} {c : FixtureConfig} {h : Holder} (hnew : new ≠ .halted)
    (hc : (s.fixture f).config = some c) (hk : c.kind.claimable = true) (hheld : (s.fixture f).state = .held)
    (hmask : inMask c.liveMask new = false) (hlist : c.secondList = none) (hh : (s.fixture f).claims.holder = some h)
    (single : ∀ g, g ≠ f → ¬(s.fixture g).EndsHold new) :
    (changePhase s new).line = (s.createEvent (.release .phase) (some f) h.robot h.side
      (if c.kind = .dispenser then (s.fixture f).claims.allowance.get h.side else 0)).line := by
  have told := fixtureNotices_line (old := s.clock.phase) (s := { s with clock := { s.clock with phase := new } }) hnew
    fixtureNumbers_nodup (mem_fixtureNumbers f) hc hk hheld hmask hlist hh single
  rw [changePhase, announce_eq _ rfl hnew, State.raiseChange_line]
  generalize fixtureNumbers.foldl _ _ = u at told ⊢
  exact told.trans ((SilentAs.setPhase s new).createEvent_line _ _ _ _ _)

/-- R96, step 4: every notice leaves a CHANGE request raised. -/
theorem State.raiseChange_request {s : State} (hready : s.ready = true) (hstation : s.loader.station ≠ 0) :
    ∃ time, s.raiseChange.picture.request = some ⟨.change, time⟩ := by
  have : (s.loader.station != 0) = true := by simpa using hstation
  simp only [State.raiseChange, hready, this, Bool.and_self, if_true]
  unfold Picture.raiseChange
  split
  all_goals simp_all

theorem changePhase_request {s : State} (new : Phase) (hready : s.ready = true) (hstation : s.loader.station ≠ 0) :
    ∃ time, (changePhase s new).picture.request = some ⟨.change, time⟩ := by
  have loader := (outsideAs_changePhase s new).1
  obtain ⟨u, raised⟩ : ∃ u, changePhase s new = State.raiseChange u := ⟨_, rfl⟩
  rw [raised] at loader ⊢
  rw [State.raiseChange_loader] at loader
  refine State.raiseChange_request ?_ (loader ▸ hstation)
  rwa [State.ready, loader]

end Sys2Proof.Machine
end

section
/-! Proofs for 05_match_clock.md, part 7: O37 and O39 settled. START finds no hold and RESUME returns to a phase whose holds it
keeps, so neither notice ends one: every fixture comes to its own matter and the line hears nothing. -/

namespace Sys2Proof.Machine

/-! ## A change of phase that ends no hold -/

section
variable {s : State} {new : Phase}

theorem changePhase_points (s : State) (new : Phase) : (changePhase s new).engine.points = s.engine.points :=
  (Settles.refl.announce s.clock.phase : Settles { s with clock := { s.clock with phase := new } } _).points

/-- A fixture outside DEAD takes the notice by its kind. -/
theorem Fixture.afterNotice_of_alive {x : Fixture} {c : FixtureConfig} (old : Phase) (hc : x.config = some c)
    (halive : x.state ≠ .dead) : x.afterNotice old new = x.noticed old new c := by
  unfold Fixture.afterNotice
  rw [hc]
  exact if_neg halive

/-- A hold whose live mask holds the new phase stands. -/
theorem Fixture.afterNotice_held {x : Fixture} {c : FixtureConfig} (old : Phase) (hc : x.config = some c)
    (hheld : x.state = .held) (hmask : inMask c.liveMask new = true) : x.afterNotice old new = x := by
  rw [x.afterNotice_of_alive old hc (by simp [hheld])]
  unfold Fixture.noticed
  rw [hheld, hmask]
  cases c.params <;> rfl

end

/-! ## RESUME (R94) -/

theorem State.advance_haltInput (s : State) (d : Nat) : (s.advance d).haltInput = s.haltInput := by
  unfold State.haltInput; rw [State.advance_records]

/-- While HALTED the ages of holder and queue stand. -/
theorem State.advance_claims_halted {s : State} (h : s.clock.phase = .halted) (d : Nat) (f : FixtureNo) :
    ((s.advance d).fixture f).claims = (s.fixture f).claims := by
  cases hrun : s.running with
  | true =>
    rw [State.advance_fixture s d f hrun, if_pos h]
    simp [Fixture.advance, Claims.advance]
  | false => rw [s.advance_stopped d hrun]

theorem State.advance_tenth_halted {s : State} (h : s.clock.phase = .halted) (d : Nat) :
    (s.advance d).clock.tenth = s.clock.tenth := by
  unfold State.advance
  split
  · simp [Clock.advance, h, Phase.running]
  · rfl

/-- Every hold of a HALTED station lies in the live mask that the resume phase brings back. -/
theorem ClaimsSound.not_endsHold_resume {s : State} (h : ClaimsSound s) (hhalted : s.clock.phase = .halted)
    (f : FixtureNo) : ¬(s.fixture f).EndsHold s.clock.resume := by
  rintro ⟨c, hc, hk, hheld, hmask⟩
  have live := ((claimSound_iff ..).mp (h f c hc hk)).2.held hheld
  rw [Clock.matchPhase, if_pos hhalted, hmask] at live
  cases live

/-- Settles O39. -/
theorem resumeReturns : Obligations.ResumeReturns := by
  unfold Obligations.ResumeReturns
  intro s dt hready hhalted
  have ready : (s.advance dt).ready = true := by simpa using hready
  have phase : (s.advance dt).clock.phase = .halted := by simpa using hhalted
  refine ⟨fun hhalt hresume hsound => ?_, fun hhalt => ?_⟩
  · have halt : (s.advance dt).haltInput = false := by rwa [State.advance_haltInput]
    have applied : exec (.resume dt) s = .next (changePhase (s.advance dt) (s.advance dt).clock.resume) := by
      change Host.Outcome.next (takeCommand (s.advance dt) .resume) = _
      rw [takeCommand, ready, halt, phase]
      rfl
    have resume : (s.advance dt).clock.resume = s.clock.resume := by simp
    have noHold := (hsound.advance dt).not_endsHold_resume phase
    obtain ⟨fixture, holdOff, safe, silent⟩ := changePhase_noticed (s := s.advance dt) (resume ▸ hresume)
      fun f => Fixture.endsAlone_of_not_endsHold (noHold f)
    refine ⟨_, applied, ?_, ?_, ?_, ?_, safe, ?_, (silent noHold).line, holdOff, outsideAs_changePhase _ _,
      fun f c hc hk hheld => ?_⟩
    · simp
    · simp
    · simp
    · rw [changePhase_clock]; exact State.advance_tenth_halted hhalted dt
    · rw [changePhase_points, State.advance_points]
    · have config : ((s.advance dt).fixture f).config = some c := by simpa using hc
      have held : ((s.advance dt).fixture f).state = .held := by simpa using hheld
      have live : inMask c.liveMask (s.advance dt).clock.resume = true :=
        Bool.of_not_eq_false fun hmask => noHold f ⟨c, config, hk, held, hmask⟩
      obtain ⟨i, own⟩ := fixture f
      rw [Fixture.afterNotice_held _ config held live] at own
      rw [own]
      exact ⟨held, State.advance_claims_halted hhalted dt f⟩
  · change Host.Outcome.next (takeCommand (s.advance dt) .resume) = _
    simp [takeCommand, ready, State.advance_haltInput, hhalt]

/-! ## START (R92) -/

/-- R92: no phase of a length above 0 stands before the first running phase. -/
theorem Clock.firstPhase_first (k : Clock) : k.firstPhase.running = true ∧
    (k.periods.get k.firstPhase > 0 ∨ k.firstPhase = .drive) ∧
    ∀ p : Phase, p.running = true → p.code < k.firstPhase.code → k.periods.get p = 0 := by
  have eq : k.firstPhase = if 0 < k.periods.auto then .auto else if 0 < k.periods.transit then .transit
      else if 0 < k.periods.drive then .drive else if 0 < k.periods.endgame then .endgame else .drive := by
    unfold Clock.firstPhase runningPhases
    simp only [List.find?_cons, PerPhase.get]
    split_ifs <;> simp_all
  rw [eq]
  split_ifs with auto transit drive endgame
  · exact ⟨rfl, .inl auto, fun p _ hp => by cases p <;> simp_all [Phase.code, Phase.running]⟩
  · exact ⟨rfl, .inl transit, fun p _ hp => by cases p <;> simp_all [Phase.code, Phase.running, PerPhase.get]⟩
  · exact ⟨rfl, .inl drive, fun p _ hp => by cases p <;> simp_all [Phase.code, Phase.running, PerPhase.get]⟩
  · exact ⟨rfl, .inl endgame, fun p _ hp => by cases p <;> simp_all [Phase.code, Phase.running, PerPhase.get]⟩
  · exact ⟨rfl, .inr rfl, fun p _ hp => by cases p <;> simp_all [Phase.code, Phase.running, PerPhase.get]⟩

@[simp] theorem State.startBegun_fixture (s : State) (f : FixtureNo) :
    s.startBegun.fixture f = (s.fixture f).resetAllowance := by simp [State.startBegun, State.fixture]

/-- R38: what START returns to its beginning is a DISPENSER's allowance and refill count alone. -/
theorem Fixture.resetAllowance_rest (x : Fixture) : x.resetAllowance.state = x.state ∧
    x.resetAllowance.scoring = x.scoring := by
  unfold Fixture.resetAllowance
  split
  · split
    · split <;> exact ⟨rfl, rfl⟩
    all_goals exact ⟨rfl, rfl⟩
  · exact ⟨rfl, rfl⟩

theorem Fixture.resetAllowance_dispenser {x : Fixture} {c : FixtureConfig} {lost acap initial period : Nat}
    (hc : x.config = some c) (hp : c.params = .dispenser lost acap initial period) (halive : x.state ≠ .dead) :
    x.resetAllowance.claims = { x.claims with allowance := PerSide.all initial, refillCount := 0 } := by
  unfold Fixture.resetAllowance
  rw [hc]
  simp [hp, halive]

/-- A DORMANT fixture becomes active where the new phase is in its live mask, and keeps its claims and its pieces. -/
theorem Fixture.noticed_dormant {old new : Phase} {x : Fixture} {c : FixtureConfig} (hx : x.state = .dormant) :
    (x.noticed old new c).state = (if inMask c.liveMask new then
      (match c.kind with | .gate | .dispenser => .free | .zone => .live | .goal => .counting) else .dormant) ∧
    (x.noticed old new c).claims = x.claims ∧ (x.noticed old new c).scoring = x.scoring := by
  unfold Fixture.noticed FixtureConfig.kind
  rw [hx]
  cases hmask : inMask c.liveMask new <;> cases c.params <;> simp [hx, KindParams.kind]

/-- Settles O37. -/
theorem startBeginsTheMatch : Obligations.StartBeginsTheMatch := by
  unfold Obligations.StartBeginsTheMatch
  refine ⟨fun s dt hready hidle hrest hfree => ?_, fun s dt hready hother => ?_⟩
  · generalize hu : s.advance dt = u
    have ready : u.ready = true := by simpa [← hu] using hready
    have phase : u.clock.phase = .idle := by simpa [← hu] using hidle
    have applied : exec (.start dt) s = .next (changePhase u.startBegun u.clock.firstPhase) := by
      change Host.Outcome.next (takeCommand (s.advance dt) .start) = _
      rw [hu, takeCommand, ready, phase]
      rfl
    obtain ⟨running, long, first⟩ := u.clock.firstPhase_first
    have periods : u.clock.periods = s.clock.periods := by simp [← hu]
    have noHold (f : FixtureNo) : ¬(u.startBegun.fixture f).EndsHold u.clock.firstPhase := by
      rintro ⟨c, -, -, hheld, -⟩
      rw [State.startBegun_fixture, (Fixture.resetAllowance_rest _).1, ← hu, State.advance_fixture_state] at hheld
      rcases hrest f with h | h <;> cases h.symm.trans hheld
    obtain ⟨fixture, holdOff, -, silent⟩ := changePhase_noticed (s := u.startBegun)
      (new := u.clock.firstPhase) (fun e => by rw [e] at running; cases running)
      fun f => Fixture.endsAlone_of_not_endsHold (noHold f)
    obtain ⟨-, -, line, eventSeq, -⟩ := silent noHold
    refine ⟨_, applied, ?_⟩
    rw [changePhase_clock]
    refine ⟨running, periods ▸ long, periods ▸ first, rfl, rfl, ?_, ?_, holdOff, ?_, line,
      outsideAs_applyStart u, fun f c hc hdormant => ?_⟩
    · show u.clock.resume = _
      simp [← hu]
    · rw [changePhase_points]
      show u.engine.points = _
      simp [← hu]
    · rw [eventSeq]
      show u.picture.eventSeq = _
      simp [← hu]
    · have config : (u.startBegun.fixture f).config = some c := by simpa [← hu] using hc
      have state : (u.startBegun.fixture f).state = .dormant := by
        simpa [(Fixture.resetAllowance_rest _).1, ← hu] using hdormant
      obtain ⟨i, own⟩ := fixture f
      rw [Fixture.afterNotice_of_alive _ config (fun dead => by rw [state] at dead; cases dead)] at own
      obtain ⟨active, claims, scoring⟩ := Fixture.noticed_dormant (old := u.startBegun.clock.phase)
        (new := u.clock.firstPhase) (c := c) state
      rw [own]
      refine ⟨active, ?_, fun lost acap initial period hp => ?_⟩
      · show (Fixture.noticed _ _ _ _).scoring.pieces = _
        rw [scoring, State.startBegun_fixture, (Fixture.resetAllowance_rest _).2, ← hu]
        exact s.advance_pieces dt f
      · show (Fixture.noticed _ _ _ _).claims.allowance = _ ∧ (Fixture.noticed _ _ _ _).claims.refillCount = _
        rw [claims, State.startBegun_fixture, Fixture.resetAllowance_dispenser (c := c) (by simpa [← hu] using hc) hp
          (by simp [← hu, hdormant])]
        exact ⟨rfl, rfl⟩
  · change Host.Outcome.next (takeCommand (s.advance dt) .start) = _
    have refused : Command.start.accepted (s.advance dt).clock.phase = false := by simpa [Command.accepted] using hother
    simp only [takeCommand, refused]
    simp

end Sys2Proof.Machine
end

section
/-! Proofs for 05_match_clock.md, part 8: O31 settled. The end boundary moves the phase on, and the notice finds the claims in
order: a hold outside the new phase has its holder, and starts no list where none is configured. -/

namespace Sys2Proof.Machine

/-! ## The phase that follows (R90) -/

theorem mem_phasesAfter {p q : Phase} : q ∈ phasesAfter p ↔ q.running = true ∧ p.code < q.code := by
  have running : q ∈ runningPhases ↔ q.running = true := by cases q <;> decide
  rw [phasesAfter, List.mem_filter, running, decide_eq_true_iff]

theorem phasesAfter_sorted (p : Phase) : (phasesAfter p).Pairwise fun q r => q.code < r.code :=
  List.Pairwise.sublist List.filter_sublist (by decide : runningPhases.Pairwise fun q r => q.code < r.code)

/-- The next phase is the first after the present one whose end boundary lies above the tick, or OVER. -/
theorem Clock.nextPhase_next (k : Clock) :
    (k.nextPhase = .over ∨
      (k.nextPhase.running = true ∧ k.phase.code < k.nextPhase.code ∧ k.tick < k.ends.get k.nextPhase)) ∧
    ∀ p : Phase, p.running = true → k.phase.code < p.code → p.code < k.nextPhase.code → k.ends.get p ≤ k.tick := by
  unfold Clock.nextPhase
  split
  · rename_i q hq
    obtain ⟨hopen, before, after, hlist, hclosed⟩ := List.find?_eq_some_iff_append.mp hq
    obtain ⟨running, later⟩ := mem_phasesAfter.mp (List.mem_of_find?_eq_some hq)
    refine ⟨.inr ⟨running, later, by simpa using hopen⟩, fun p hp hafter hbefore => ?_⟩
    have sorted := phasesAfter_sorted k.phase
    have listed : p ∈ phasesAfter k.phase := mem_phasesAfter.mpr ⟨hp, hafter⟩
    rw [hlist] at sorted listed
    rcases List.mem_append.mp listed with earlier | notEarlier
    · simpa using hclosed p earlier
    · rcases List.mem_cons.mp notEarlier with rfl | behind
      · exact absurd hbefore (Nat.lt_irrefl _)
      · have := (List.pairwise_cons.mp (List.pairwise_append.mp sorted).2.1).1 p behind
        omega
  · rename_i hnone
    refine ⟨.inl rfl, fun p hp hafter _ => ?_⟩
    simpa using List.find?_eq_none.mp hnone p (mem_phasesAfter.mpr ⟨hp, hafter⟩)

/-! ## What the fixtures that a tick left waiting change -/

/-- The ticks still waiting leave the clock but for their own list, and the points. -/
theorem finishTick_leaves (s : State) :
    (finishTick s).clock = { s.clock with ticking := [] } ∧ (finishTick s).engine.points = s.engine.points := by
  have waited : Settles s (s.clock.ticking.foldl fixtureTick s) :=
    Settles.refl.fold _ _ fun _ f hu => hu.fixtureTick f
  exact ⟨by rw [finishTick, waited.clock], waited.points⟩

/-! ## The notice at each kind of fixture -/

section
variable {old new : Phase} {x : Fixture} {c : FixtureConfig}

/-- R5, R36, Table 1-4. -/
theorem Fixture.noticed_claimable {k : Clock} (hk : c.kind.claimable = true) (halive : x.state ≠ .dead)
    (hsound : ClaimSound k x c) :
    (inMask c.liveMask new = true → (x.noticed old new c).claims = x.claims ∧
      (x.noticed old new c).state = if x.state = .dormant then .free else x.state) ∧
    (inMask c.liveMask new = false → (x.noticed old new c).state = .dormant ∧
      (x.noticed old new c).claims = { x.claims with holder := none, queue := [] }) := by
  obtain ⟨holder, -, queue, -, -, -, states⟩ := hsound
  have empty (h : x.state ≠ .held) : x.claims = { x.claims with holder := none, queue := [] } := by
    have : x.claims.holder = none := by simpa using mt holder.mpr h
    calc x.claims = { x.claims with holder := x.claims.holder, queue := x.claims.queue } := rfl
      _ = _ := by rw [this, queue h]
  have params := c.params_of_claimable hk
  rcases states with dead | dormant | free | held
  · exact absurd dead halive
  · have claims := empty (by simp [dormant])
    rcases params with ⟨_, _, hp⟩ | ⟨_, _, _, _, hp⟩ <;> refine ⟨fun hmask => ?_, fun hmask => ?_⟩ <;>
      simp only [Fixture.noticed, hp, dormant, hmask] <;> simp [← claims]
  · have claims := empty (by simp [free])
    rcases params with ⟨_, _, hp⟩ | ⟨_, _, _, _, hp⟩ <;> refine ⟨fun hmask => ?_, fun hmask => ?_⟩ <;>
      simp only [Fixture.noticed, hp, free, hmask] <;> simp [← claims]
  · rcases params with ⟨_, _, hp⟩ | ⟨_, _, _, _, hp⟩ <;> refine ⟨fun hmask => ?_, fun hmask => ?_⟩ <;>
      simp only [Fixture.noticed, hp, held, hmask] <;> simp

/-- R6: the notice leaves a ZONE's owner, level and challenger. -/
theorem Fixture.noticed_zone (hk : c.kind = .zone) (hx : x.state = .dormant ∨ x.state = .live) :
    (x.noticed old new c).state = (if inMask c.liveMask new then .live else .dormant) ∧
    (x.noticed old new c).control.owner = x.control.owner ∧ (x.noticed old new c).control.level = x.control.level ∧
    (x.noticed old new c).control.challenger = x.control.challenger := by
  obtain ⟨cmax, rates, hp⟩ : ∃ cmax rates, c.params = .zone cmax rates := by
    unfold FixtureConfig.kind at hk
    cases hp : c.params <;> simp_all [KindParams.kind]
  rcases hx with hx | hx <;> cases hmask : inMask c.liveMask new <;> simp [Fixture.noticed, hp, hx, hmask]

/-- R7, R63, R65, R68. -/
theorem Fixture.noticed_goal {credit : Option CreditRule} {values : PerPhase} {grace jam : Nat}
    (hp : c.params = .goal credit values grace jam) :
    (x.noticed old new c).scoring.pieces = x.scoring.pieces ∧
    (x.state = .counting → inMask c.liveMask new = false →
      if grace = 0 then (x.noticed old new c).state = .dormant
      else (x.noticed old new c).state = .grace ∧ (x.noticed old new c).scoring.graceLeft = grace * 100000 ∧
        (x.noticed old new c).scoring.credited = some old) ∧
    (x.state = .counting → inMask c.liveMask new = true → (x.noticed old new c).state = .counting) ∧
    (x.state = .dormant → (x.noticed old new c).state = if inMask c.liveMask new then .counting else .dormant) ∧
    (x.state = .grace ∨ x.state = .jammed →
      (x.noticed old new c).state = x.state ∧ (x.noticed old new c).scoring = x.scoring) := by
  refine ⟨?_, fun hx hmask => ?_, fun hx hmask => ?_, fun hx => ?_, fun hx => ?_⟩
  · unfold Fixture.noticed
    repeat' split
    all_goals rfl
  · simp only [Fixture.noticed, hp, hx, hmask]
    split <;> simp [Config.tenth]
  · simp [Fixture.noticed, hp, hx, hmask]
  · cases hmask : inMask c.liveMask new <;> simp [Fixture.noticed, hp, hx, hmask]
  · rcases hx with hx | hx <;> cases hmask : inMask c.liveMask new <;> simp [Fixture.noticed, hp, hx]

end

/-- Settles O31. -/
theorem periodEndMovesThePhaseOn : Obligations.PeriodEndMovesThePhaseOn := by
  unfold Obligations.PeriodEndMovesThePhaseOn
  intro s hready hrun hdue hover
  let u : State := { finishTick s with clock := { (finishTick s).clock with boundaryDue := false } }
  obtain ⟨finished, points⟩ := finishTick_leaves s
  have clock : u.clock = { s.clock with ticking := [], boundaryDue := false } := by simp [u, finished]
  have next : (finishTick s).clock.nextPhase = s.clock.nextPhase := by rw [finished]; rfl
  have ended : exec .periodEnd s = .next (changePhase u s.clock.nextPhase) := by
    have due : periodOver s = true := by simp [periodOver, hready, hrun, hdue, hover]
    change Host.Outcome.next (if periodOver s then endPeriod s else s) = _
    rw [if_pos due, endPeriod, next]
  have outside : OutsideAs s (changePhase u s.clock.nextPhase) := by
    have := outsideAs_endPeriod s
    rwa [endPeriod, next] at this
  obtain ⟨follows, between⟩ := s.clock.nextPhase_next
  have hnew : s.clock.nextPhase ≠ .halted := by
    rcases follows with h | ⟨h, -⟩
    · rw [h]; nofun
    · intro e; rw [e] at h; cases h
  refine ⟨_, ended, ?_⟩
  have phase : (changePhase u s.clock.nextPhase).clock.phase = s.clock.nextPhase := by rw [changePhase_clock]
  rw [phase]
  refine ⟨?_, ?_, ?_, ?_, ?_, outside, follows, between, fun hstation => ?_, fun hticking hsound hlists => ?_⟩
  · rw [changePhase_clock, clock]
  · rw [changePhase_clock, clock]
  · rw [changePhase_clock]
  · rw [changePhase_clock, clock]
  · rw [changePhase_points]; exact points
  · have loader : u.loader = s.loader := (outsideAs_finishTick s).1
    refine changePhase_request _ ?_ (loader ▸ hstation)
    rwa [State.ready, loader]
  · have still : finishTick s = s := finishTick_none s hticking
    have fixtures (f : FixtureNo) : u.fixture f = s.fixture f := by simp only [u, still]; rfl
    have alone (f : FixtureNo) : (u.fixture f).EndsAlone s.clock.nextPhase := by
      rw [fixtures]
      exact fun c hc hk hheld _ => ⟨hlists f c hc hk, (hsound f c hc hk).1.mp hheld⟩
    have silent : SilentAs s u := by
      constructor <;> simp only [u, still]
    have old : u.clock.phase = s.clock.phase := by rw [clock]
    obtain ⟨fixture, holdOff, -, -⟩ := changePhase_noticed (s := u) hnew alone
    refine ⟨holdOff.trans (by simp only [u, still]), fun f c hc halive => ?_,
      fun f c h hc hk hheld hh hmask single => ?_⟩
    · obtain ⟨i, own⟩ := fixture f
      rw [fixtures, old, Fixture.afterNotice_of_alive _ hc halive] at own
      rw [own]
      exact ⟨fun hk => Fixture.noticed_claimable hk halive (hsound f c hc hk), Fixture.noticed_zone,
        fun credit values grace jam hp => Fixture.noticed_goal hp⟩
    · have others (g : FixtureNo) (hg : g ≠ f) : ¬(u.fixture g).EndsHold s.clock.nextPhase := by
        rw [fixtures]
        rintro ⟨d, hd, hkd, held, mask⟩
        rcases single g d hg hd hkd with h | h
        · exact h held
        · rw [h] at mask; cases mask
      have told := changePhase_line (s := u) hnew (by rwa [fixtures]) hk (by rwa [fixtures]) hmask (hlists f c hc hk)
        (by rwa [fixtures]) others
      rw [told, silent.createEvent_line, fixtures]

end Sys2Proof.Machine
end

section
/-! Proofs for 05_match_clock.md, part 9: O40 settled. CLEAR first clears every fixture and then stops the runners, so that
their reports find no hold to end and no dispense in flight: nothing is sent. -/

namespace Sys2Proof.Machine

/-! ## Indicators determined afresh (R18, R96) -/

/-- Of the state only fixtures and pulse units have changed. -/
def OnlyShows (s t : State) : Prop :=
  t = { s with engine := { s.engine with fixtures := t.engine.fixtures }, pulse := t.pulse }

theorem OnlyShows.trans {s t u : State} (h : OnlyShows s t) (k : OnlyShows t u) : OnlyShows s u := by
  unfold OnlyShows at *
  rw [k, h]

theorem onlyShows_refreshIndicator (s : State) (f : FixtureNo) : OnlyShows s (s.refreshIndicator f) := by
  unfold State.refreshIndicator State.handOver
  dsimp only
  split
  · rfl
  · split <;> rfl

theorem onlyShows_refreshIndicators (fs : List FixtureNo) (s : State) :
    OnlyShows s (fs.foldl State.refreshIndicator s) :=
  List.foldlRecOn fs State.refreshIndicator (motive := OnlyShows s) rfl fun u hu f _ =>
    hu.trans (onlyShows_refreshIndicator u f)

/-- Each fixture of the list shows its state as it stands. -/
theorem refreshIndicators_fixture (f : FixtureNo) (fs : List FixtureNo) : ∀ s : State,
    (fs.foldl State.refreshIndicator s).fixture f =
      if f ∈ fs then { s.fixture f with indicator := indicatorOf s.clock.phase (s.fixture f) } else s.fixture f := by
  induction fs with
  | nil => exact fun s => rfl
  | cons g fs ih =>
    intro s
    rw [List.foldl_cons, ih, State.refreshIndicator_clock, State.refreshIndicator_fixture]
    by_cases hg : g = f
    · subst hg
      simp only [if_true, List.mem_cons, true_or]
      split <;> rfl
    · simp only [if_neg hg, List.mem_cons, Ne.symm hg, false_or]

/-! ## The runners' stop (R150, R151) -/

/-- The runner stopped, its patterns gone, its lists dropped. -/
def State.stopped (s : State) (r : RunnerId) : State := State.setRunner { s with pulse := s.pulse.stop r } r Runner.start

/-- What the stop of a runner reports to the fixtures. -/
def State.stopReports (s : State) (r : RunnerId) : List Task :=
  (match (s.runner r).current with
    | some c => c.start.reportTask .abortedByHalt
    | none => []) ++ (s.runner r).queue.flatMap fun t => t.reportTask .flushed

theorem haltRunner_eq (s : State) (r : RunnerId) : haltRunner s r = settle (s.stopped r) (s.stopReports r) := by
  unfold haltRunner State.stopReports
  dsimp only
  cases (s.runner r).current <;> rfl

/-- A stop reports of dispenses that end, and of nothing else. -/
theorem mem_stopReports {s : State} {r : RunnerId} {t : Task} (h : t ∈ s.stopReports r) :
    ∃ f, t = .report f .abortedByHalt ∨ t = .report f .flushed := by
  have reported {x : Start} {p : Report} (ht : t ∈ x.reportTask p) : t = .report x.fixture p := by
    unfold Start.reportTask at ht
    split at ht
    · exact List.mem_singleton.mp ht
    all_goals cases ht
  rcases List.mem_append.mp h with h | h
  · split at h
    · exact ⟨_, .inl (reported h)⟩
    · cases h
  · obtain ⟨x, -, hx⟩ := List.mem_flatMap.mp h
    exact ⟨_, .inr (reported hx)⟩

@[simp] theorem State.stopped_fixture (s : State) (r : RunnerId) (f : FixtureNo) : (s.stopped r).fixture f = s.fixture f := by
  unfold State.stopped; rw [State.setRunner_fixture]; rfl

/-! ## Reports that find no hold -/

/-- Of the state only dispenses in flight have ended. -/
structure EndsDispenses (s t : State) : Prop where
  rest : t = { s with engine := { s.engine with fixtures := t.engine.fixtures } }
  fixture : ∀ f, ∃ n, n ≤ (s.fixture f).claims.inFlight ∧
    t.fixture f = { s.fixture f with claims := { (s.fixture f).claims with inFlight := n } }

namespace EndsDispenses
variable {s t u : State}

theorem refl (s : State) : EndsDispenses s s := ⟨rfl, fun _ => ⟨_, Nat.le_refl _, rfl⟩⟩

theorem trans (h : EndsDispenses s t) (k : EndsDispenses t u) : EndsDispenses s u := by
  obtain ⟨rest, fixture⟩ := h
  obtain ⟨rest', fixture'⟩ := k
  refine ⟨by rw [rest', rest], fun f => ?_⟩
  obtain ⟨n, hn, own⟩ := fixture f
  obtain ⟨n', hn', own'⟩ := fixture' f
  rw [own] at hn' own'
  exact ⟨n', hn'.trans hn, own'⟩

theorem state (h : EndsDispenses s t) (f : FixtureNo) : (t.fixture f).state = (s.fixture f).state := by
  obtain ⟨-, fixture⟩ := h
  obtain ⟨n, -, own⟩ := fixture f
  rw [own]

theorem setClaims (s : State) (f : FixtureNo) :
    EndsDispenses s (s.setClaims f { (s.fixture f).claims with inFlight := (s.fixture f).claims.inFlight - 1 }) := by
  refine ⟨rfl, fun g => ?_⟩
  rw [State.setClaims_fixture]
  split
  · rename_i e
    exact e ▸ ⟨_, Nat.sub_le _ 1, rfl⟩
  · exact ⟨_, Nat.le_refl _, rfl⟩

end EndsDispenses

/-- R40: with the fixture not HELD an end of its dispense is counted, and releases nothing. -/
theorem performReport_unheld {s : State} {f : FixtureNo} {p : Report} (hp : p = .abortedByHalt ∨ p = .flushed)
    (hfree : (s.fixture f).state ≠ .held) :
    EndsDispenses s (performReport s f p).1 ∧ (performReport s f p).2 = [] := by
  have counted : EndsDispenses s (endDispense s f .aborted).1 ∧ (endDispense s f .aborted).2 = [] := by
    unfold endDispense
    simp only [hfree, and_false, if_false]
    exact ⟨.setClaims s f, trivial⟩
  unfold performReport
  dsimp only
  split
  · exact ⟨.refl s, rfl⟩
  · rcases hp with rfl | rfl <;> exact counted

/-- Where nothing is HELD, the reports of a stop end dispenses alone. -/
theorem settle_stopReports_unheld {ts : List Task}
    (hts : ∀ t ∈ ts, ∃ f, t = .report f .abortedByHalt ∨ t = .report f .flushed) : ∀ {s : State},
    (∀ f, (s.fixture f).state ≠ .held) → EndsDispenses s (settle s ts) := by
  induction ts with
  | nil => exact fun _ => by rw [settle_nil]; exact .refl _
  | cons t ts ih =>
    intro s hfree
    obtain ⟨f, p, hp, rfl⟩ : ∃ f p, (p = .abortedByHalt ∨ p = .flushed) ∧ t = .report f p := by
      obtain ⟨f, rfl | rfl⟩ := hts t (List.mem_cons_self ..)
      · exact ⟨f, _, .inl rfl, rfl⟩
      · exact ⟨f, _, .inr rfl, rfl⟩
    obtain ⟨counted, nothing⟩ := performReport_unheld hp (hfree f)
    rw [settle_cons]
    simp only [perform, nothing, List.nil_append]
    exact counted.trans (ih (fun u hu => hts u (List.mem_cons_of_mem _ hu)) fun g => by rw [counted.state]; exact hfree g)

/-- R151: where nothing is HELD, the runners' stop sends nothing. -/
theorem haltRunners_unheld {s : State} (hfree : ∀ f, (s.fixture f).state ≠ .held) :
    haltRunners s = { s with
      engine := { s.engine with fixtures := (haltRunners s).engine.fixtures }
      runners := { s.runners with a := Runner.start, b := Runner.start }
      pulse := (haltRunners s).pulse } ∧
    ∀ f, ∃ n, n ≤ (s.fixture f).claims.inFlight ∧
      (haltRunners s).fixture f = { s.fixture f with claims := { (s.fixture f).claims with inFlight := n } } := by
  unfold haltRunners
  rw [haltRunner_eq s]
  have first : EndsDispenses (s.stopped .A) (settle (s.stopped .A) (s.stopReports .A)) :=
    settle_stopReports_unheld (fun t ht => mem_stopReports ht) fun f => by rw [State.stopped_fixture]; exact hfree f
  generalize settle (s.stopped .A) (s.stopReports .A) = u at first ⊢
  have second : EndsDispenses (u.stopped .B) (haltRunner u .B) := by
    rw [haltRunner_eq]
    exact settle_stopReports_unheld (fun t ht => mem_stopReports ht) fun f => by
      rw [State.stopped_fixture, first.state, State.stopped_fixture]; exact hfree f
  generalize haltRunner u .B = v at second ⊢
  obtain ⟨rest, fixture⟩ := first
  obtain ⟨rest', fixture'⟩ := second
  refine ⟨?_, fun f => ?_⟩
  · rw [rest', rest]; rfl
  · obtain ⟨n, hn, own⟩ := fixture f
    obtain ⟨n', hn', own'⟩ := fixture' f
    rw [State.stopped_fixture] at hn own
    rw [State.stopped_fixture, own] at hn' own'
    exact ⟨n', hn'.trans hn, own'⟩

/-! ## CLEAR (R22, R95) -/

@[simp] theorem State.fixturesCleared_fixture (s : State) (f : FixtureNo) :
    s.fixturesCleared.fixture f = (s.fixture f).cleared := by simp [State.fixturesCleared, State.fixture]

/-- R22: no match state is left at CLEAR. -/
theorem Fixture.cleared_of_alive {x : Fixture} (h : x.state ≠ .dead) :
    x.cleared = { x with
      state := .dormant
      claims := { Claims.start with allowance := x.resetAllowance.claims.allowance }
      control := Control.start
      scoring := Scoring.start
      transient := none
      transientLeft := 0 } := if_neg h

theorem Fixture.cleared_not_held (x : Fixture) : x.cleared.state ≠ .held := by
  unfold Fixture.cleared
  split
  · rename_i h; rw [h]; nofun
  · nofun

/-- What CLEAR makes of the clock leaves nothing of what time has done to it. -/
theorem State.advance_toStart (s : State) (d : Nat) :
    ({ (s.advance d).clock with
      phase := .idle, resume := .idle, tick := 0, tenth := 0, boundaryDue := false, ticking := [] } : Clock) =
    { s.clock with phase := .idle, resume := .idle, tick := 0, tenth := 0, boundaryDue := false, ticking := [] } := by
  unfold State.advance
  split <;> rfl

/-- A station that CLEAR has returned to its start, up to the CHANGE request: fixtures and pulse units as they are in u. -/
theorem applyClear_rest (s : State) :
    ∃ u : State, applyClear s = u.raiseChange ∧ u = { s with
      clock := { s.clock with phase := .idle, resume := .idle, tick := 0, tenth := 0, boundaryDue := false, ticking := [] }
      engine := { s.engine with fixtures := u.engine.fixtures, holdOff := [], points := PerSide.all 0 }
      runners := { s.runners with a := Runner.start, b := Runner.start, fault := false }
      pulse := u.pulse
      picture := { s.picture with eventsLost := false } } ∧ u.pulse.safe = false ∧
    ∀ f, ∃ i n, n ≤ (s.fixture f).cleared.claims.inFlight ∧ u.fixture f = { (s.fixture f).cleared with
      claims := { (s.fixture f).cleared.claims with inFlight := n }, indicator := i } := by
  have shown := onlyShows_refreshIndicators fixtureNumbers s.fixturesCleared
  have fixture (f : FixtureNo) : (fixtureNumbers.foldl State.refreshIndicator s.fixturesCleared).fixture f =
      { (s.fixture f).cleared with indicator := indicatorOf s.fixturesCleared.clock.phase (s.fixture f).cleared } := by
    rw [refreshIndicators_fixture, if_pos (mem_fixtureNumbers f), State.fixturesCleared_fixture]
  rw [applyClear_eq]
  generalize fixtureNumbers.foldl State.refreshIndicator s.fixturesCleared = v at shown fixture ⊢
  obtain ⟨rest, own⟩ := haltRunners_unheld (s := v) fun f => by rw [fixture]; exact Fixture.cleared_not_held _
  generalize haltRunners v = w at rest own ⊢
  refine ⟨_, rfl, ?_, Pulse.leaveSafe_safe _, fun f => ?_⟩
  · rw [rest, shown]; rfl
  · obtain ⟨n, hn, own⟩ := own f
    rw [fixture] at hn own
    exact ⟨_, n, hn, own⟩

/-- Settles O40. -/
theorem clearReturnsToTheStart : Obligations.ClearReturnsToTheStart := by
  unfold Obligations.ClearReturnsToTheStart
  intro s dt hready hrun
  have applied : exec (.clear dt) s = .next (applyClear (s.advance dt)) := by
    have accepted : Command.clear.accepted s.clock.phase = true := by simpa [Command.accepted] using hrun
    change Host.Outcome.next (takeCommand (s.advance dt) .clear) = _
    simp [takeCommand, hready, accepted]
  have outside := outsideAs_applyClear (s.advance dt)
  obtain ⟨u, eq, rest, safe, fixture⟩ := applyClear_rest (s.advance dt)
  refine ⟨_, applied, ?_⟩
  rw [eq] at outside ⊢
  have loader : u.loader = s.loader := (congrArg State.loader rest).trans (by simp)
  have picture : u.picture = { (s.advance dt).picture with eventsLost := false } := congrArg State.picture rest
  have clock : u.clock = { s.clock with
      phase := .idle, resume := .idle, tick := 0, tenth := 0, boundaryDue := false, ticking := [] } := by
    rw [← State.advance_toStart s dt]
    exact congrArg State.clock rest
  have eventSeq : u.picture.eventSeq = s.picture.eventSeq := by rw [picture]; simp
  refine ⟨?_, ?_, ?_, outside, ?_, ?_, ?_, ?_, ?_, ?_, ?_, ?_, fun hstation => ?_, fun f c hc halive => ?_⟩
  · rw [State.raiseChange_clock, clock]
  · rw [State.raiseChange_engine]; exact (congrArg (fun x : State => x.engine.points) rest :)
  · rw [State.raiseChange_engine]; exact (congrArg (fun x : State => x.engine.holdOff) rest :)
  · rw [State.raiseChange_line]; exact (congrArg State.line rest :)
  · rw [State.raiseChange_runners]; exact (congrArg (fun x : State => x.runners.a) rest :)
  · rw [State.raiseChange_runners]; exact (congrArg (fun x : State => x.runners.b) rest :)
  · rw [State.raiseChange_runners]; exact (congrArg (fun x : State => x.runners.fault) rest :)
  · rwa [State.raiseChange_pulse]
  · rcases u.raiseChange_picture with e | e <;> rw [e, picture]
  · rw [State.raiseChange_eventSeq, eventSeq]
  · rcases u.raiseChange_picture with e | e <;> rw [e, picture]
  · refine State.raiseChange_request ?_ ?_
    · rw [State.ready, loader]; exact hready
    · rw [loader]; exact hstation
  · obtain ⟨i, n, hn, own⟩ := fixture f
    have alive : ((s.advance dt).fixture f).state ≠ .dead := by simpa using halive
    rw [Fixture.cleared_of_alive alive] at hn own
    rw [State.raiseChange_fixture, own]
    refine ⟨rfl, rfl, rfl, Nat.le_zero.mp hn, rfl, rfl, rfl, fun lost acap initial period hp => ⟨?_, rfl⟩⟩
    show ((s.advance dt).fixture f).resetAllowance.claims.allowance = _
    rw [Fixture.resetAllowance_dispenser (c := c) (by simpa using hc) hp alive]

end Sys2Proof.Machine
end

section
/-! Proofs for 05_match_clock.md, part 10: O38 settled. A HALTED station starts no list and grants nothing, so that what the
runners' stop sets off leaves the runners stopped, and works at the holds of DISPENSERs alone. -/

namespace Sys2Proof.Machine

/-! ## Stacks that wind up (R141, R150) -/

/-- The tasks that a stop can come to while HALTED: reports, releases without a grant, and starts that are dropped. -/
def Task.windsUp (t : Task) : Bool :=
  match t with
  | .report _ _ | .release _ _ | .releaseTail _ _ _ _ | .promote _ | .start _ _ => true
  | .arrive _ | .moveOn _ | .unitFreed _ | .abortTail _ _ | .nextList _ | .grant _ _ _ _ _ | .phaseRelease _
  | .phaseTail _ _ _ => false

theorem windsUp_reportTask {x : Start} {p : Report} : ∀ t ∈ x.reportTask p, t.windsUp = true := by
  unfold Start.reportTask
  split
  · exact fun t ht => List.mem_singleton.mp ht ▸ rfl
  all_goals exact fun t ht => nomatch ht

theorem windsUp_startTask {c : FixtureConfig} {f : FixtureNo} {l : Option StepNo} {p : Purpose} :
    ∀ t ∈ c.startTask f l p, t.windsUp = true := by
  unfold FixtureConfig.startTask
  split
  · exact fun t ht => List.mem_singleton.mp ht ▸ rfl
  · exact fun t ht => nomatch ht

/-- While HALTED no claim passes its checks. -/
theorem State.claimFault_halted {s : State} (h : s.clock.phase = .halted) (f : FixtureNo) (c : FixtureConfig) (r : Robot) :
    s.claimFault f c r = some .phase := by simp [State.claimFault, h, inMask, Phase.running]

/-- While HALTED such a task leaves the runners, and sets off such tasks alone. -/
theorem perform_windsUp {s : State} {t : Task} (h : s.clock.phase = .halted) (ht : t.windsUp = true) :
    (perform s t).1.runners = s.runners ∧ ∀ u ∈ (perform s t).2, u.windsUp = true := by
  have none {ts : List Task} (e : ts = []) : ∀ u ∈ ts, u.windsUp = true := fun u hu => by rw [e] at hu; cases hu
  have one {ts : List Task} {v : Task} (e : ts = [v]) (hv : v.windsUp = true) : ∀ u ∈ ts, u.windsUp = true :=
    fun u hu => by rw [e] at hu; rw [List.mem_singleton.mp hu, hv]
  have runners {f : FixtureNo} {u : State} (held : HoldAt f s u) : u.runners = s.runners := by
    obtain ⟨⟨-, -, -, -, -, -, -, -, runners, -⟩, -, -⟩ := held
    exact runners
  cases t with
  | start r x =>
    show (performStart s r x).1.runners = _ ∧ ∀ u ∈ (performStart s r x).2, _
    rw [performStart_halted r x h]
    exact ⟨rfl, windsUp_reportTask⟩
  | report f p =>
    refine ⟨runners (holdAt_performReport s f p), ?_⟩
    have ends (cause : ReleaseCause) : ∀ u ∈ (endDispense s f cause).2, u.windsUp = true := by
      unfold endDispense
      dsimp only
      split
      · exact one rfl rfl
      · exact none rfl
    show ∀ u ∈ (performReport s f p).2, _
    unfold performReport
    dsimp only
    split
    · exact none rfl
    · cases p with
      | accepted => exact none rfl
      | dropped =>
        dsimp only
        split
        · exact one rfl rfl
        · exact none rfl
      | completed => exact ends _
      | aborted => exact ends _
      | abortedByHalt => exact ends _
      | flushed => exact ends _
  | release f cause =>
    refine ⟨runners (holdAt_performRelease s f cause), ?_⟩
    show ∀ u ∈ (performRelease s f cause).2, _
    unfold performRelease
    dsimp only
    split
    · exact fun u hu => (List.mem_append.mp hu).elim (windsUp_startTask u) (one rfl rfl u)
    · exact none rfl
  | releaseTail f robot side cause => exact ⟨runners (holdAt_performReleaseTail s f robot side cause), one rfl rfl⟩
  | promote f =>
    refine ⟨runners (holdAt_performPromote s f), ?_⟩
    show ∀ u ∈ (performPromote s f).2, _
    unfold performPromote
    dsimp only
    split
    · exact none rfl
    · split
      · exact none rfl
      · rw [State.claimFault_halted (by simpa using h)]
        exact one rfl rfl
  | _ => cases ht

theorem settle_windsUp {s : State} {ts : List Task} (h : s.clock.phase = .halted) (hts : ∀ t ∈ ts, t.windsUp = true) :
    (settle s ts).runners = s.runners :=
  (settle_keeps_stack
    (fun u us => u.clock.phase = .halted ∧ u.runners = s.runners ∧ ∀ t ∈ us, t.windsUp = true)
    (fun u t us hu => by
      obtain ⟨halted, runners, winds⟩ := hu
      obtain ⟨same, next⟩ := perform_windsUp halted (winds t (List.mem_cons_self ..))
      refine ⟨by rw [perform_clock]; exact halted, same.trans runners, fun v hv => ?_⟩
      exact (List.mem_append.mp hv).elim (next v) fun hv => winds v (List.mem_cons_of_mem _ hv))
    s ts ⟨h, rfl, hts⟩).2.1

/-! ## A runner stopped while HALTED -/

@[simp] theorem State.stopped_clock (s : State) (r : RunnerId) : (s.stopped r).clock = s.clock := by
  unfold State.stopped; rw [State.setRunner_clock]

theorem State.stopped_runner (s : State) (r q : RunnerId) :
    (s.stopped r).runner q = if r = q then Runner.start else s.runner q := by
  unfold State.stopped; rw [State.setRunner_runner]; rfl

theorem silentAs_stopped (s : State) (r : RunnerId) : SilentAs s (s.stopped r) := by
  unfold State.stopped; constructor <;> simp

theorem State.stopped_holdOff (s : State) (r : RunnerId) : (s.stopped r).engine.holdOff = s.engine.holdOff := by
  unfold State.stopped; rw [State.setRunner_engine]

section
variable {s : State}

theorem haltRunner_runner (h : s.clock.phase = .halted) (r q : RunnerId) :
    (haltRunner s r).runner q = if r = q then Runner.start else s.runner q := by
  have runners : (haltRunner s r).runners = (s.stopped r).runners := by
    rw [haltRunner_eq]
    refine settle_windsUp (by rwa [State.stopped_clock]) fun t ht => ?_
    obtain ⟨f, rfl | rfl⟩ := mem_stopReports ht <;> rfl
  rw [← State.stopped_runner]
  unfold State.runner
  rw [runners]

theorem haltRunner_clock (s : State) (r : RunnerId) : (haltRunner s r).clock = s.clock := by
  rw [haltRunner_eq, settle_clock, State.stopped_clock]

/-- R150: once both have stopped, neither plays a list or has one waiting. -/
theorem haltRunners_runner (h : s.clock.phase = .halted) (q : RunnerId) : (haltRunners s).runner q = Runner.start := by
  unfold haltRunners
  rw [haltRunner_runner (by rwa [haltRunner_clock]), haltRunner_runner h]
  cases q <;> rfl

/-- A fixture that is no DISPENSER hears nothing of the runners' stop. -/
theorem haltRunners_spares {f : FixtureNo} (hf : (s.fixture f).kind? ≠ some .dispenser) :
    (haltRunners s).fixture f = s.fixture f := by
  have one {u : State} (r : RunnerId) (hu : (u.fixture f).kind? ≠ some .dispenser) :
      (haltRunner u r).fixture f = u.fixture f := by
    have noHold : NoHold (u.stopReports r) := fun t ht => by
      obtain ⟨g, rfl | rfl⟩ := mem_stopReports ht <;> rfl
    rw [haltRunner_eq, settle_spares (noHold.atDispensers _) (by rwa [State.stopped_fixture]), State.stopped_fixture]
  unfold haltRunners
  rw [one .B (by rwa [one .A hf]), one .A hf]

/-! ## HALT (R93) -/

section
variable {t : State} (h : OnlyShows s t)
include h

theorem OnlyShows.clock : t.clock = s.clock := by rw [h]

theorem OnlyShows.runner (r : RunnerId) : t.runner r = s.runner r := by rw [h]; rfl

theorem OnlyShows.holdOff : t.engine.holdOff = s.engine.holdOff := by rw [h]

theorem OnlyShows.silentAs : SilentAs s t := by constructor <;> rw [h]

end

/-- A station that has become HALTED, its indicators showing it. -/
def State.halting (s : State) : State :=
  fixtureNumbers.foldl State.refreshIndicator { s with clock := { s.clock with resume := s.clock.phase, phase := .halted } }

theorem onlyShows_halting (s : State) :
    OnlyShows { s with clock := { s.clock with resume := s.clock.phase, phase := .halted } } s.halting :=
  onlyShows_refreshIndicators fixtureNumbers _

theorem halting_clock (s : State) : s.halting.clock = { s.clock with resume := s.clock.phase, phase := .halted } :=
  (onlyShows_halting s).clock

@[simp] theorem halting_fixture (s : State) (f : FixtureNo) :
    s.halting.fixture f = { s.fixture f with indicator := .halted } := by
  unfold State.halting
  rw [refreshIndicators_fixture, if_pos (mem_fixtureNumbers f)]
  rfl

theorem halting_runner (s : State) (r : RunnerId) : s.halting.runner r = s.runner r := (onlyShows_halting s).runner r

theorem halting_holdOff (s : State) : s.halting.engine.holdOff = s.engine.holdOff := (onlyShows_halting s).holdOff

theorem silentAs_halting (s : State) : SilentAs s s.halting :=
  have begun : SilentAs s { s with clock := { s.clock with resume := s.clock.phase, phase := .halted } } :=
    ⟨rfl, rfl, rfl, rfl, rfl⟩
  begun.trans (onlyShows_halting s).silentAs

theorem announce_halted {s : State} (old : Phase) (h : s.clock.phase = .halted) :
    announce s old = State.raiseChange { haltRunners (fixtureNumbers.foldl State.refreshIndicator s) with
      pulse := (haltRunners (fixtureNumbers.foldl State.refreshIndicator s)).pulse.enterSafe } := by
  have noticed : fixtureNotice old .halted = State.refreshIndicator := by
    funext u f
    exact fixtureNotice_halted _ u f
  unfold announce
  simp only [h, if_true]
  rw [noticed]

/-- R96: what follows the runners' stop is the safe state and the CHANGE request. -/
theorem applyHalt_eq (s : State) :
    ∃ p : Pulse, p.safe = true ∧ applyHalt s = State.raiseChange { haltRunners s.halting with pulse := p } := by
  unfold applyHalt changePhase State.halting
  exact ⟨_, Pulse.enterSafe_safe _, announce_halted _ rfl⟩

theorem applyHalt_clock (s : State) :
    (applyHalt s).clock = { s.clock with resume := s.clock.phase, phase := .halted } := by
  unfold applyHalt; rw [changePhase_clock]

theorem applyHalt_points (s : State) : (applyHalt s).engine.points = s.engine.points := by
  unfold applyHalt; rw [changePhase_points]

theorem applyHalt_request {s : State} (hready : s.ready = true) (hstation : s.loader.station ≠ 0) :
    ∃ time, (applyHalt s).picture.request = some ⟨.change, time⟩ := by
  unfold applyHalt; exact changePhase_request _ hready hstation

theorem applyHalt_safe (s : State) : (applyHalt s).pulse.safe = true := by
  obtain ⟨p, safe, eq⟩ := applyHalt_eq s
  rw [eq, State.raiseChange_pulse]
  exact safe

theorem applyHalt_runner (s : State) (q : RunnerId) : (applyHalt s).runner q = Runner.start := by
  obtain ⟨p, -, eq⟩ := applyHalt_eq s
  have stopped := haltRunners_runner (s := s.halting) (by rw [halting_clock]) q
  generalize haltRunners s.halting = v at eq stopped
  rw [eq]
  unfold State.runner at stopped ⊢
  rw [State.raiseChange_runners]
  exact stopped

theorem applyHalt_fixture (s : State) (f : FixtureNo) : (applyHalt s).fixture f = (haltRunners s.halting).fixture f := by
  obtain ⟨p, -, eq⟩ := applyHalt_eq s
  generalize haltRunners s.halting = v at eq ⊢
  rw [eq, State.raiseChange_fixture]
  rfl

theorem applyHalt_holdOff (s : State) : (applyHalt s).engine.holdOff = (haltRunners s.halting).engine.holdOff := by
  obtain ⟨p, -, eq⟩ := applyHalt_eq s
  rw [eq, State.raiseChange_engine]

theorem applyHalt_line (s : State) : (applyHalt s).line = (haltRunners s.halting).line := by
  obtain ⟨p, -, eq⟩ := applyHalt_eq s
  rw [eq, State.raiseChange_line]

/-! ## The outputs of a HALTED station (R162) -/

theorem Pulse.SetAs.trans {p q r : Pulse} (h : p.SetAs q) (k : q.SetAs r) : p.SetAs r := by
  obtain ⟨units, pairs, patterns⟩ := h
  obtain ⟨units', pairs', patterns'⟩ := k
  refine ⟨fun u => ?_, fun i => ?_, patterns'.trans patterns⟩
  · obtain ⟨binding, map⟩ := units u
    obtain ⟨binding', map'⟩ := units' u
    exact ⟨binding'.trans binding, map'.trans map⟩
  · obtain ⟨mode, high, low, clock⟩ := pairs i
    obtain ⟨mode', high', low', clock'⟩ := pairs' i
    exact ⟨mode'.trans mode, high'.trans high, low'.trans low, clock'.trans clock⟩

/-- How the pulse units are set is kept by every block by itself. -/
theorem blockwise_pulseSetAs (p : Pulse) : Blockwise fun s => p.SetAs s.pulse where
  pending _ h := h
  advance d h := h.trans (State.advance_pulse_setAs _ d)
  reporting _ _ h := h
  ports _ h := h
  clock _ h _ _ := h
  inputs _ h _ := h
  runners _ h _ := h
  pulse _ h k := h.trans k
  fixtures _ h _ := h
  points _ h := h
  holdOff _ h _ := h

/-- R162: in the safe state every ACTUATOR output is low. -/
theorem Pulse.ownOutput_safe {p : Pulse} {u : UnitNo} (hsafe : p.safe = true) (hu : p.units[u].binding = .actuator) :
    p.ownOutput u = false := by
  unfold Pulse.ownOutput
  simp only [hu, hsafe]
  split <;> simp

/-! ## A dispense cut short (R40, R42) -/

/-- A start handed over while HALTED for another purpose than a grant comes to nothing. -/
theorem settle_startTask_halted (h : s.clock.phase = .halted) (c : FixtureConfig) (f : FixtureNo) (l : Option StepNo)
    (ts : List Task) : settle s (c.startTask f l .release ++ ts) = settle s ts := by
  unfold FixtureConfig.startTask
  cases l with
  | none => rfl
  | some i =>
    rw [List.cons_append, List.nil_append, settle_cons]
    simp only [perform, performStart_halted _ _ h]
    rfl

/-- The last dispense in flight aborted by HALT, with nobody waiting: a release with cause ABORTED. -/
theorem settle_abortedByHalt {f : FixtureNo} {c : FixtureConfig} {h : Holder} {lost acap initial period : Nat}
    (hphase : s.clock.phase = .halted) (hc : (s.fixture f).config = some c)
    (hp : c.params = .dispenser lost acap initial period) (hheld : (s.fixture f).state = .held)
    (hh : (s.fixture f).claims.holder = some h) (hqueue : (s.fixture f).claims.queue = [])
    (hflight : (s.fixture f).claims.inFlight = 1) :
    let allowance := (s.fixture f).claims.allowance.set h.side (min acap ((s.fixture f).claims.allowance.get h.side + 1))
    let t := settle s [.report f .abortedByHalt]
    (t.fixture f).state = .free ∧ (t.fixture f).indicator = .halted ∧
      (t.fixture f).claims = { (s.fixture f).claims with holder := none, inFlight := 0, allowance := allowance } ∧
      t.engine.holdOff = s.engine.holdOff ∧
      t.line = (s.createEvent (.release .aborted) (some f) h.robot h.side (allowance.get h.side)).line := by
  intro allowance t
  have kind : (s.fixture f).kind? = some .dispenser := by
    simp [Fixture.kind?, hc, FixtureConfig.kind, hp, KindParams.kind]
  let x : Fixture := { s.fixture f with claims := { (s.fixture f).claims with inFlight := 0 } }
  let y : Fixture := { x with
    state := .free
    claims := { x.claims with holder := none, allowance := refunded c.params x.claims.allowance h.side .aborted } }
  let freed := (s.setFixture f x).setFixture f y
  let told := (freed.createEvent (.release .aborted) (some f) h.robot h.side (y.eventValue h.side)).raiseChange
  have reported : perform s (.report f .abortedByHalt) = (s.setFixture f x, [.release f .aborted]) := by
    simp only [perform, performReport, kind, endDispense, hflight, hheld]
    simp [State.setClaims, x]
  have released : perform (s.setFixture f x) (.release f .aborted) =
      (freed, c.startTask f c.secondList .release ++ [.releaseTail f h.robot h.side .aborted]) := by
    have config : x.config = some c := hc
    have holder : x.claims.holder = some h := hh
    show _ = ((s.setFixture f x).setFixture f { x with
        state := .free
        claims := { x.claims with holder := none, allowance := refunded c.params x.claims.allowance h.side .aborted } }, _)
    simp only [perform, performRelease, State.setFixture_fixture_same, config, holder]
  have tail : perform freed (.releaseTail f h.robot h.side .aborted) = (told, [.promote f]) := by
    have here : freed.fixture f = y := State.setFixture_fixture_same ..
    simp only [perform, performReleaseTail, here]
    rfl
  have own : told.fixture f = y := by simp [told, freed]
  have promoted : perform told (.promote f) = ((told.setFixtureState f .free).refreshIndicator f, []) := by
    have config : y.config = some c := hc
    have queue : y.claims.queue = [] := hqueue
    simp only [perform, performPromote, own, config, queue]
  have final : t = (told.setFixtureState f .free).refreshIndicator f := by
    show settle s [.report f .abortedByHalt] = _
    rw [settle_cons, reported, List.append_nil, settle_cons, released, List.append_nil,
      settle_startTask_halted (s := freed) hphase, settle_cons, tail, List.append_nil, settle_cons, promoted]
    exact settle_nil _
  have refund : y.claims.allowance = allowance := by
    show refunded c.params _ _ _ = _
    rw [hp]
    rfl
  have value : y.eventValue h.side = allowance.get h.side := (if_pos kind).trans (by rw [refund])
  rw [final]
  refine ⟨?_, ?_, ?_, ?_, ?_⟩
  · simp
  · have halted : told.clock.phase = .halted := by simpa [told, freed] using hphase
    rw [State.refreshIndicator_fixture, if_pos rfl]
    show indicatorOf _ _ = _
    rw [State.setFixtureState_clock, halted]
    rfl
  · rw [State.refreshIndicator_claims, State.setFixtureState_fixture, if_pos rfl, own, ← refund]
  · rw [State.refreshIndicator_holdOff]
    show told.engine.holdOff = _
    simp only [told, State.raiseChange_engine, State.createEvent_engine]
    rfl
  · rw [State.refreshIndicator_line, State.setFixtureState_line, State.raiseChange_line, value]
    exact (((SilentAs.refl s).setFixture f x).setFixture f y).createEvent_line _ _ _ _ _

/-- A runner with no grant list has nothing to report of. -/
theorem State.stopReports_none {r : RunnerId} (hcur : ∀ x, (s.runner r).current = some x → x.start.purpose ≠ .grant)
    (hqueue : ∀ x ∈ (s.runner r).queue, x.purpose ≠ .grant) : s.stopReports r = [] := by
  have silent {x : Start} (p : Report) (hx : x.purpose ≠ .grant) : x.reportTask p = [] := by
    unfold Start.reportTask
    split
    · rename_i e; exact absurd e hx
    all_goals rfl
  unfold State.stopReports
  rw [List.append_eq_nil_iff, List.flatMap_eq_nil_iff]
  refine ⟨?_, fun x hx => silent _ (hqueue x hx)⟩
  split
  · rename_i x hx; exact silent _ (hcur x hx)
  · rfl

/-- The runners' stop, where the only grant list is the one that a runner plays for f. -/
theorem haltRunners_single {r : RunnerId} {f : FixtureNo} (hphase : s.clock.phase = .halted)
    (hreports : s.stopReports r = [.report f .abortedByHalt]) (hother : ∀ q, q ≠ r → s.stopReports q = []) :
    ∃ u, SilentAs s u ∧ u.clock = s.clock ∧ u.fixture f = s.fixture f ∧ u.engine.holdOff = s.engine.holdOff ∧
      SilentAs (settle u [.report f .abortedByHalt]) (haltRunners s) ∧
      (haltRunners s).fixture f = (settle u [.report f .abortedByHalt]).fixture f ∧
      (haltRunners s).engine.holdOff = (settle u [.report f .abortedByHalt]).engine.holdOff := by
  have stopped (u : State) (q : RunnerId) (hu : u.stopReports q = []) : haltRunner u q = u.stopped q := by
    rw [haltRunner_eq, hu, settle_nil]
  have later : (haltRunner s .A).stopReports .B = s.stopReports .B := by
    unfold State.stopReports
    rw [haltRunner_runner hphase, if_neg (by decide)]
  cases r with
  | A =>
    refine ⟨s.stopped .A, silentAs_stopped s .A, State.stopped_clock s .A, State.stopped_fixture s .A f,
      State.stopped_holdOff s .A, ?_⟩
    have first : haltRunner s .A = settle (s.stopped .A) [.report f .abortedByHalt] := by rw [haltRunner_eq, hreports]
    unfold haltRunners
    rw [stopped _ .B (later.trans (hother .B (by decide))), first]
    exact ⟨silentAs_stopped _ _, State.stopped_fixture _ _ _, State.stopped_holdOff _ _⟩
  | B =>
    refine ⟨(s.stopped .A).stopped .B, (silentAs_stopped s .A).trans (silentAs_stopped _ .B), ?_, ?_, ?_, ?_⟩
    · rw [State.stopped_clock, State.stopped_clock]
    · rw [State.stopped_fixture, State.stopped_fixture]
    · rw [State.stopped_holdOff, State.stopped_holdOff]
    · have eq : haltRunners s = settle ((s.stopped .A).stopped .B) [.report f .abortedByHalt] := by
        unfold haltRunners
        rw [haltRunner_eq _ .B, later, hreports, stopped s .A (hother .A (by decide))]
      rw [eq]
      exact ⟨.refl _, rfl, rfl⟩

end

/-- Settles O38. -/
theorem haltFreezesTheStation : Obligations.HaltFreezesTheStation := by
  unfold Obligations.HaltFreezesTheStation
  intro s dt hready hother _
  have applied : exec (.halt dt) s = .next (applyHalt (s.advance dt)) := by
    have accepted : Command.halt.accepted s.clock.phase = true := by simpa [Command.accepted] using hother
    change Host.Outcome.next (takeCommand (s.advance dt) .halt) = _
    simp [takeCommand, hready, accepted]
  have clock := applyHalt_clock (s.advance dt)
  have halted : (s.advance dt).halting.clock.phase = .halted := by rw [halting_clock]
  have safe := applyHalt_safe (s.advance dt)
  refine ⟨_, applied, ?_, ?_, ?_, ?_, applyHalt_runner _ .A, applyHalt_runner _ .B, safe, fun u hu => ?_,
    fun f c hc hk => ?_, ?_,
    outsideAs_applyHalt _, fun hstation => ?_, ?_⟩
  · rw [clock]
  · rw [clock]; simp
  · rw [clock]; simp
  · rw [clock]
  · obtain ⟨units, -, -⟩ := (blockwise_pulseSetAs s.pulse).applyHalt (State.advance_pulse_setAs s dt)
    exact Pulse.ownOutput_safe safe ((units u).1.trans hu)
  · have kind : ((s.advance dt).halting.fixture f).kind? ≠ some .dispenser := by
      simpa [Fixture.kind?, hc] using hk
    rw [applyHalt_fixture, haltRunners_spares kind, halting_fixture]
  · rw [applyHalt_points, State.advance_points]
  · exact applyHalt_request (by simpa using hready) (by simpa using hstation)
  · intro f c h r i k lost acap initial period hc hp hheld hh hqueue hflight hcur hwaiting hothers
    have hrun := State.ready_running hready
    let h' : Holder := { h with age := h.age + if s.clock.phase = .halted then 0 else dt }
    have claims : ((s.advance dt).fixture f).claims = { (s.fixture f).claims with holder := some h' } := by
      rw [State.advance_fixture s dt f hrun]
      simp [Fixture.advance, Claims.advance, hh, hqueue, h']
    have current (q : RunnerId) : ((s.advance dt).halting.runner q).current = (s.runner q).current := by
      rw [halting_runner, State.advance_runner s dt hrun, Runner.advance_current]
    have queue (q : RunnerId) : ((s.advance dt).halting.runner q).queue = (s.runner q).queue := by
      rw [halting_runner, State.advance_runner s dt hrun, Runner.advance_queue]
    have reports : (s.advance dt).halting.stopReports r = [.report f .abortedByHalt] := by
      unfold State.stopReports
      rw [current, queue, hcur, hwaiting]
      rfl
    have others (q : RunnerId) (hq : q ≠ r) : (s.advance dt).halting.stopReports q = [] := by
      obtain ⟨hcurrent, hqueued⟩ := hothers q hq
      exact State.stopReports_none (by rwa [current]) (by rwa [queue])
    obtain ⟨u, before, clock', same, holdOff, after, own, holdOff'⟩ := haltRunners_single halted reports others
    have here : u.fixture f = { (s.advance dt).fixture f with indicator := .halted } := same.trans (halting_fixture _ f)
    have claims' : (u.fixture f).claims = { (s.fixture f).claims with holder := some h' } := by rw [here]; exact claims
    have phase : u.clock.phase = .halted := by rw [clock']; exact halted
    obtain ⟨state, indicator, released, kept, line⟩ := settle_abortedByHalt (s := u) (f := f) (h := h') phase
      (by rw [here]; simpa using hc) hp (by rw [here]; simpa using hheld) (by rw [claims']) (by rw [claims']; exact hqueue)
      (by rw [claims']; exact hflight)
    rw [applyHalt_fixture, own]
    refine ⟨state, indicator, ?_, ?_, ?_⟩
    · rw [released, claims', claims]
    · rw [applyHalt_holdOff]
      exact holdOff'.trans (kept.trans (holdOff.trans (halting_holdOff _)))
    · rw [applyHalt_line]
      refine after.line.trans (line.trans ?_)
      rw [((silentAs_halting _).trans before).createEvent_line, claims']

end Sys2Proof.Machine
end

section
/-! Proofs for 05_match_clock.md, part 11: O29 settled. Without on-change lists a fixture's tick is its own matter, of which the
fixtures after it and before it take nothing; so each fixture the tick comes to takes it as if it were alone. -/

namespace Sys2Proof.Machine

/-! ## One fixture's tick without an on-change list (R30, R39, R48) -/

/-- No zone has an on-change list. -/
def NoZoneLists (s : State) : Prop :=
  ∀ f c cmax rate, (s.fixture f).config = some c → c.params = .zone cmax rate → c.firstList = none

/-- Of the state only fixture f, in claims, control and indicator, and what is sent and shown have changed. -/
structure TicksAt (f : FixtureNo) (s t : State) : Prop where
  rest : RestAs s t f
  ports : t.ports = s.ports
  holdOff : t.engine.holdOff = s.engine.holdOff
  own : t.fixture f = { s.fixture f with
    claims := (t.fixture f).claims, control := (t.fixture f).control, indicator := (t.fixture f).indicator }

theorem TicksAt.refl (f : FixtureNo) (s : State) : TicksAt f s s := ⟨.refl s f, rfl, rfl, rfl⟩

theorem ticksAt_setClaims (s : State) (f : FixtureNo) (c : Claims) : TicksAt f s (s.setClaims f c) :=
  ⟨restAs_setFixture s f _, rfl, rfl, by simp⟩

theorem ticksAt_zoned (s : State) (f : FixtureNo) (w : Control) : TicksAt f s (s.zoned f w) :=
  ⟨s.zoned_restAs f w, s.zoned_ports f w, s.zoned_holdOff f w, by rw [State.zoned_fixture]⟩

theorem ticksAt_fixtureTick {s : State} (hlists : NoZoneLists s) (f : FixtureNo) : TicksAt f s (fixtureTick s f) := by
  cases hc : (s.fixture f).config with
  | none => rw [fixtureTick_unconfigured hc]; exact .refl f s
  | some c =>
    by_cases hdead : (s.fixture f).state = .dead
    · rw [fixtureTick_dead hdead]; exact .refl f s
    · cases hp : c.params with
      | gate limit lost =>
        rw [fixtureTick_gate hc hdead hp]
        unfold gateTick
        dsimp only
        split
        · exact ticksAt_setClaims s f _
        · exact .refl f s
      | dispenser lost acap initial period =>
        rw [fixtureTick_dispenser hc hdead hp]
        unfold dispenserTick
        dsimp only
        split
        · exact ticksAt_setClaims s f _
        · exact .refl f s
      | zone cmax rate =>
        rw [fixtureTick_zone hc hdead hp]
        split
        · rw [zoneTick_noList s f c cmax rate (hlists f c cmax rate hc hp)]
          exact ticksAt_zoned s f _
        · exact .refl f s
      | goal credit values grace jam =>
        have : fixtureTick s f = s := by simp [fixtureTick, hc, hp]
        rw [this]
        exact .refl f s

/-- A tick reads of the part the fixture, the phase and the beacon ports. -/
theorem fixtureTick_congr {s u : State} {f : FixtureNo} (hlists : NoZoneLists s) (fixture : u.fixture f = s.fixture f)
    (phase : u.clock.phase = s.clock.phase) (ports : u.ports = s.ports) :
    (fixtureTick u f).fixture f = (fixtureTick s f).fixture f := by
  cases hc : (s.fixture f).config with
  | none => rw [fixtureTick_unconfigured hc, fixtureTick_unconfigured (fixture ▸ hc), fixture]
  | some c =>
    have hc' : (u.fixture f).config = some c := fixture ▸ hc
    by_cases hdead : (s.fixture f).state = .dead
    · rw [fixtureTick_dead hdead, fixtureTick_dead (fixture ▸ hdead), fixture]
    · have hdead' : (u.fixture f).state ≠ .dead := fixture ▸ hdead
      cases hp : c.params with
      | gate limit lost =>
        rw [fixtureTick_gate hc hdead hp, fixtureTick_gate hc' hdead' hp]
        unfold gateTick
        rw [fixture]
        dsimp only
        split <;> simp [fixture]
      | dispenser lost acap initial period =>
        rw [fixtureTick_dispenser hc hdead hp, fixtureTick_dispenser hc' hdead' hp]
        unfold dispenserTick
        rw [fixture, phase]
        dsimp only
        split <;> simp [fixture]
      | zone cmax rate =>
        have hlist := hlists f c cmax rate hc hp
        have control : u.tickedControl f c cmax rate = s.tickedControl f c cmax rate := by
          unfold State.tickedControl
          rw [fixture, State.zoneRates_congr ports]
        rw [fixtureTick_zone hc hdead hp, fixtureTick_zone hc' hdead' hp, fixture]
        split
        · rw [zoneTick_noList _ _ _ _ _ hlist, zoneTick_noList _ _ _ _ _ hlist, State.zoned_fixture,
            State.zoned_fixture, control, fixture, phase]
        · exact fixture
      | goal credit values grace jam =>
        have idle {v : State} (hv : (v.fixture f).config = some c) : fixtureTick v f = v := by
          simp [fixtureTick, hv, hp]
        rw [idle hc, idle hc', fixture]

theorem noZoneLists_fixtureTick {s : State} (h : NoZoneLists s) (f : FixtureNo) : NoZoneLists (fixtureTick s f) := by
  obtain ⟨⟨others, -⟩, -, -, -⟩ := ticksAt_fixtureTick h f
  intro g c cmax rate hc
  by_cases hg : g = f
  · subst hg
    rw [fixtureTick_config] at hc
    exact h g c cmax rate hc
  · rw [others g hg] at hc
    exact h g c cmax rate hc

/-! ## Where a tick waits (log entry 11) -/

/-- The tick that has come to f calls for its OVERSTAY or REFILL. -/
def callsAt (f : FixtureNo) (s : State) : Bool := overstayed f s || refillDue f s

/-- Whether a fixture calls is a matter of the fixture and the phase. -/
theorem callsAt_congr {s t : State} {f : FixtureNo} (fixture : t.fixture f = s.fixture f)
    (phase : t.clock.phase = s.clock.phase) : callsAt f t = callsAt f s := by
  unfold callsAt overstayed refillDue
  rw [fixture, phase]

/-- A counted tick that has come to the first k fixtures of the list, and to none after them. -/
structure TickedTo (fs : List FixtureNo) (k : Nat) (s t : State) : Prop where
  clock : t.clock = { s.clock with ticking := fs.drop k }
  now : t.now = s.now
  points : t.engine.points = s.engine.points
  runners : t.runners = s.runners
  ports : t.ports = s.ports
  holdOff : t.engine.holdOff = s.engine.holdOff
  waiting : ∀ f, f ∉ fs.take k → t.fixture f = s.fixture f
  taken : ∀ f, f ∈ fs.take k → t.fixture f = (fixtureTick s f).fixture f

theorem tickedTo_mark (fs : List FixtureNo) (s : State) :
    TickedTo fs 0 s { s with clock := { s.clock with ticking := fs } } :=
  ⟨rfl, rfl, rfl, rfl, rfl, rfl, fun _ _ => rfl, fun _ h => nomatch h⟩

/-- The tick comes to one fixture more before the rest. -/
theorem TickedTo.cons {f : FixtureNo} {fs : List FixtureNo} {k : Nat} {s t : State} (hlists : NoZoneLists s)
    (hf : f ∉ fs) (h : TickedTo fs k (fixtureTick s f) t) : TickedTo (f :: fs) (k + 1) s t := by
  obtain ⟨clock, now, points, runners, ports, holdOff, waiting, taken⟩ := h
  obtain ⟨⟨others, points', -, -, -, now', clock', -, runners', -⟩, ports', holdOff', -⟩ := ticksAt_fixtureTick hlists f
  have later : f ∉ fs.take k := fun h => hf (List.mem_of_mem_take h)
  refine ⟨by rw [clock, clock']; rfl, now.trans now', points.trans points', runners.trans runners', ports.trans ports',
    holdOff.trans holdOff', fun g hg => ?_, fun g hg => ?_⟩
  · rw [List.take_succ_cons, List.mem_cons, not_or] at hg
    rw [waiting g hg.2, others g hg.1]
  · rw [List.take_succ_cons] at hg
    rcases List.mem_cons.mp hg with rfl | hg
    · exact waiting g later
    · have hne : g ≠ f := fun e => later (e ▸ hg)
      rw [taken g hg]
      exact fixtureTick_congr hlists (others g hne) (by rw [clock']) ports'

/-- R2: a counted tick goes on as far as the first fixture that calls. -/
theorem tickOn_tickedTo (fs : List FixtureNo) (nodup : fs.Nodup) : ∀ s : State, NoZoneLists s →
    ∃ k, k ≤ fs.length ∧ (fs ≠ [] → 1 ≤ k) ∧ TickedTo fs k s (tickOn fs s) ∧
      (∀ i (hi : i < fs.length), i + 1 < k → callsAt fs[i] (tickOn fs s) = false) ∧
      (∀ i (hi : i < fs.length), i + 1 = k → k < fs.length → callsAt fs[i] (tickOn fs s) = true) := by
  induction fs with
  | nil => exact fun s _ => ⟨0, Nat.le_refl _, fun h => absurd rfl h, tickedTo_mark [] s, by simp, by simp⟩
  | cons f fs ih =>
    intro s hlists
    obtain ⟨hf, nodup⟩ := List.nodup_cons.mp nodup
    by_cases hcall : callsAt f (fixtureTick s f) = true
    · have stops : tickOn (f :: fs) s =
          { fixtureTick s f with clock := { (fixtureTick s f).clock with ticking := fs } } := by
        unfold callsAt at hcall
        simp only [tickOn, hcall, if_true]
      rw [stops]
      refine ⟨1, by simp, fun _ => Nat.le_refl _, (tickedTo_mark fs _).cons hlists hf, fun i hi h => ?_, fun i hi h _ => ?_⟩
      · omega
      · obtain rfl : i = 0 := by omega
        exact (callsAt_congr rfl rfl).trans hcall
    · have goes : tickOn (f :: fs) s = tickOn fs (fixtureTick s f) := by
        unfold callsAt at hcall
        simp only [tickOn, if_neg hcall]
      rw [goes]
      obtain ⟨k, hk, hpos, ticked, quiet, calls⟩ := ih nodup _ (noZoneLists_fixtureTick hlists f)
      refine ⟨k + 1, by simpa using hk, fun _ => by omega, ticked.cons hlists hf, fun i hi h => ?_, fun i hi h hlt => ?_⟩
      · cases i with
        | zero =>
          have here := ticked.waiting f fun h => hf (List.mem_of_mem_take h)
          exact (callsAt_congr here (by rw [ticked.clock])).trans (Bool.of_not_eq_true hcall)
        | succ i => exact quiet i (by simpa using hi) (by omega)
      · cases i with
        | zero =>
          have remaining : k < fs.length := by simpa using hlt
          have := hpos (List.ne_nil_of_length_pos (by omega))
          omega
        | succ i => exact calls i (by simpa using hi) (by omega) (by simpa using hlt)

/-! ## What the tick makes of each kind (R30, R39, R48) -/

section
variable {s : State} {f : FixtureNo} {c : FixtureConfig} (hc : (s.fixture f).config = some c)
  (halive : (s.fixture f).state ≠ .dead)
include hc halive

theorem fixtureTick_holder {limit lost : Nat} {h : Holder} (hp : c.params = .gate limit lost)
    (hheld : (s.fixture f).state = .held) (hh : (s.fixture f).claims.holder = some h) :
    ((fixtureTick s f).fixture f).claims.holder = some { h with held := h.held + 1 } := by
  rw [fixtureTick_gate hc halive hp]
  simp [gateTick, hheld, hh]

theorem fixtureTick_refill {lost acap initial period : Nat} (hp : c.params = .dispenser lost acap initial period) :
    ((fixtureTick s f).fixture f).claims.refillCount =
      (if inMask c.liveMask s.clock.phase then min period ((s.fixture f).claims.refillCount + 1)
        else (s.fixture f).claims.refillCount) ∧
    ((fixtureTick s f).fixture f).claims.allowance = (s.fixture f).claims.allowance := by
  rw [fixtureTick_dispenser hc halive hp]
  unfold dispenserTick
  dsimp only
  split <;> simp

theorem fixtureTick_live {cmax rate : Nat} (hp : c.params = .zone cmax rate) (hlive : (s.fixture f).state = .live) :
    ((fixtureTick s f).fixture f).control = (s.fixture f).control.tick cmax (s.zoneRates c rate) := by
  rw [fixtureTick_zone hc halive hp, if_pos hlive]
  exact zoneTick_control s f c cmax rate

end

theorem mem_take_fixtureNumbers {k : Nat} (hk : k ≤ 8) (f : FixtureNo) : f ∈ fixtureNumbers.take k ↔ f.val < k := by
  have : ∀ k < 9, ∀ f : FixtureNo, f ∈ fixtureNumbers.take k ↔ f.val < k := by decide
  exact this k (by omega) f

/-- Settles O29. -/
theorem countedTickCounts : Obligations.CountedTickCounts := by
  unfold Obligations.CountedTickCounts
  intro s hready hrun hticking hzones
  have running := State.ready_running hready
  generalize hd : 100000 - s.clock.tenth = d
  have begun : s.tickBegun = { s.advance d with clock := (s.advance d).clock.count } := by rw [State.tickBegun, hd]
  have fixture (f : FixtureNo) : s.tickBegun.fixture f = (s.advance d).fixture f := by rw [begun]; rfl
  have lists : NoZoneLists s.tickBegun := fun f c cmax rate hc => by
    rw [fixture] at hc
    exact hzones f c cmax rate (by simpa using hc)
  have phase : s.tickBegun.clock.phase = s.clock.phase := by
    rw [begun]; exact s.advance_phase d
  obtain ⟨k, hk, hpos, ticked, quiet, calls⟩ := tickOn_tickedTo fixtureNumbers fixtureNumbers_nodup _ lists
  have outside : OutsideAs (s.advance d) (tickOn fixtureNumbers s.tickBegun) := by
    rw [begun]
    exact (outsideAs_setClock _ _).trans (outsideAs_tickOn _ _)
  have hk8 : k ≤ 8 := hk
  have index (f : FixtureNo) : fixtureNumbers[f.val]'f.isLt = f := by revert f; decide
  refine ⟨_, k, exec_countedTick hready hrun hticking, hpos (by decide), hk8, ?_⟩
  obtain ⟨clock, now, points, runners, ports, holdOff, waiting, taken⟩ := ticked
  generalize tickOn fixtureNumbers s.tickBegun = t at *
  refine ⟨?_, ?_, ?_, ?_, ?_, ?_, ?_, ?_, outside, fun f hf => ?_, fun f hf => ?_,
    fun f hf hlt => ?_, fun f c hf hc halive => ?_⟩
  · rw [clock]
  · rw [clock]; exact phase
  · rw [clock, begun]
    show min 65535 ((s.advance d).clock.tick + 1) = _
    rw [State.advance_tick]
  · rw [clock, begun]; rfl
  · rw [now, begun]
    show (s.advance d).now = _
    rw [s.advance_running d running]
  · rw [points, begun]
    exact s.advance_points d
  · rw [runners, begun]
  · rw [holdOff, begun]
  · rw [waiting f (by rw [mem_take_fixtureNumbers hk8]; omega), fixture]
  · have := quiet f.val f.isLt hf
    rw [index, callsAt, Bool.or_eq_false_iff] at this
    exact this
  · have := calls f.val f.isLt hf hlt
    rw [index, callsAt, Bool.or_eq_true] at this
    exact this
  · have own := taken f ((mem_take_fixtureNumbers hk8 f).mpr hf)
    have tick := (ticksAt_fixtureTick lists f).own
    have config : (s.tickBegun.fixture f).config = some c := by rw [fixture]; simpa using hc
    have alive : (s.tickBegun.fixture f).state ≠ .dead := by rw [fixture]; simpa using halive
    have state : (s.tickBegun.fixture f).state = (s.fixture f).state := by rw [fixture]; simp
    have claims : (s.tickBegun.fixture f).claims = (s.fixture f).claims.advance (if s.clock.phase = .halted then 0 else d) := by
      rw [fixture, s.advance_fixture d f running]; rfl
    rw [own]
    refine ⟨fun limit lost h hp hheld hh => ?_, fun lost acap initial period hp => ?_, fun cmax rate hp hlive => ?_, ?_, ?_⟩
    · have holder : (s.tickBegun.fixture f).claims.holder =
          some { h with age := h.age + if s.clock.phase = .halted then 0 else d } := by
        rw [claims]; simp [Claims.advance, hh]
      exact ⟨_, fixtureTick_holder config alive hp (state.trans hheld) holder, rfl, rfl, rfl⟩
    · have := fixtureTick_refill config alive hp
      rw [phase, claims] at this
      exact this
    · have control : (s.tickBegun.fixture f).control = (s.fixture f).control := by
        rw [fixture, s.advance_fixture d f running]; rfl
      have rates : s.tickBegun.zoneRates c rate = (s.advance d).zoneRates c rate :=
        State.zoneRates_congr (by rw [begun]) c rate
      rw [fixtureTick_live config alive hp (state.trans hlive), control, rates]
    · rw [tick, fixture]
      exact s.advance_pieces d f
    · rw [tick]; exact state

end Sys2Proof.Machine
end

section
/-! Proofs for 06_field_picture_and_published_state.md, part 1: O41 and O43 settled. A frame that completes is heard
(`heardFrom`) and then handed on by its kind; an EVENT frame goes nowhere, and a status comes to its row, from which what
follows inside the station takes nothing. -/

namespace Sys2Proof.Machine

/-! ## What a completed frame is handed on to (R110, R111, R175) -/

/-- Table 10-6: a valid frame's SENDER is a station 1–31. -/
theorem sender_ne_zero_of_judge {frame payload : List Byte} {kind : FrameKind} {p : StationNo}
    (h : judge frame = .valid kind p payload) : p ≠ 0 := by
  unfold judge at h
  dsimp only at h
  repeat' split at h
  all_goals cases h
  simpa [Fin.ext_iff] using ‹¬BitVec.toNat _ = 0›

/-- A completed frame's SENDER noted, and a twin met where it is the own number. -/
theorem heardFrom_skipped (s : State) (dt : Nat) (frame : List Byte) (p : StationNo) :
    let u := (s.advance (max dt (s.line.leastTime (s.line.missing frame)))).skip 0 0
    (if p = u.loader.station then meetTwin { u with line := { u.line with lastSender := p } }
      else { u with line := { u.line with lastSender := p } }) = heardFrom s dt frame p := by
  intro u
  have station : u.loader.station = s.loader.station := by simp [u]
  change (if p = u.loader.station then meetTwin (heardFrame s dt frame p) else heardFrame s dt frame p) = _
  rw [station, heardFrom_eq]

section
variable {s : State} {frame payload : List Byte} {p : StationNo} (hhears : s.hears = true)
  (hcont : s.line.continues frame = true)
include hhears hcont

/-- A valid frame of the kind the command names is handed on. -/
theorem receiveFrame_valid {wanted : Judgement → Bool} {kind : FrameKind} (hjudge : judge frame = .valid kind p payload)
    (hwanted : wanted (.valid kind p payload) = true) (dt : Nat) :
    receiveFrame wanted dt frame s = .next
      (takeFrame ((s.advance (max dt (s.line.leastTime (s.line.missing frame)))).skip 0 0) kind p payload) := by
  rcases receiveFrame_cases wanted dt frame s with ⟨-, h⟩ | ⟨-, -, -, h⟩
  · exact absurd ⟨hhears, hcont, hjudge ▸ hwanted⟩ h
  · rw [hjudge] at h
    exact h

theorem exec_eventFrameReceived (hjudge : judge frame = .valid .event p payload) (dt : Nat) :
    exec (.eventFrameReceived dt frame) s = .next (heardFrom s dt frame p) :=
  (receiveFrame_valid (wanted := Judgement.isValid .event) hhears hcont hjudge rfl dt).trans
    (congrArg _ (heardFrom_skipped s dt frame p))

theorem exec_statusReceived_eq (hjudge : judge frame = .valid .status p payload) (dt : Nat) :
    exec (.statusReceived dt frame) s = .next (takeStatus (heardFrom s dt frame p) p payload) :=
  (receiveFrame_valid (wanted := Judgement.isValid .status) hhears hcont hjudge rfl dt).trans
    (congrArg (fun u => Host.Outcome.next (takeStatus u p payload)) (heardFrom_skipped s dt frame p))

theorem exec_frameDiscard (hjudge : judge frame = .discarded) (dt : Nat) :
    exec (.frameDiscard dt frame) s = .next (heardFrame s dt frame s.line.lastSender) := by
  change receiveFrame (· == .discarded) dt frame s = _
  rcases receiveFrame_cases (· == .discarded) dt frame s with ⟨-, h⟩ | ⟨-, -, -, h⟩
  · exact absurd ⟨hhears, hcont, by simp [hjudge]⟩ h
  · rw [h, hjudge]
    unfold heardFrame
    dsimp only
    rw [← s.advance_lastSender (max dt (s.line.leastTime (s.line.missing frame)))]
    rfl

end

/-- R174: a frame that does not go on from the characters received does not complete. -/
theorem receiveFrame_discontinued {s : State} {frame : List Byte} (h : s.line.continues frame = false)
    (wanted : Judgement → Bool) (dt : Nat) : receiveFrame wanted dt frame s = .next (s.advance dt) := by
  rcases receiveFrame_cases wanted dt frame s with ⟨e, -⟩ | ⟨-, hcont, -⟩
  · exact e
  · rw [h] at hcont; cases hcont

/-- Settles O43: an EVENT frame is heard and handed on to nobody, and a discarded one is not even heard. -/
theorem eventAndDiscardedFramesChangeNothingElse : Obligations.EventAndDiscardedFramesChangeNothingElse := by
  unfold Obligations.EventAndDiscardedFramesChangeNothingElse
  refine ⟨fun s dt frame payload p hhears hcont hjudge => exec_eventFrameReceived hhears hcont hjudge dt,
    fun s dt frame hhears hcont hjudge => exec_frameDiscard hhears hcont hjudge dt, fun s dt frame hcont => ⟨?_, ?_⟩⟩
  · exact receiveFrame_discontinued hcont (· == .discarded) dt
  · exact receiveFrame_discontinued hcont (Judgement.isValid .event) dt

/-! ## The row of a peer (R108, R110) -/

/-- A station's row is replaced whole, and no other. -/
theorem State.setPeer_peer (s : State) {p : StationNo} (hp : p ≠ 0) (row : PeerRow) (q : StationNo) :
    (s.setPeer p row).peer q = if q = p then row else s.peer q := by
  have pos (n : StationNo) (hn : n ≠ 0) : 0 < n.val := Nat.pos_of_ne_zero fun e => hn (Fin.ext e)
  have hset := pos p hp
  by_cases hq : q = 0
  · subst hq
    rw [if_neg hp.symm]
    rfl
  · have hget := pos q hq
    have index : p.val - 1 = q.val - 1 ↔ q = p := by rw [Fin.ext_iff]; omega
    simp only [State.setPeer, hset, State.peer, hget, dif_pos, Vector.getElem_set, index]

theorem State.peer_congr {s t : State} (h : t.picture.peers = s.picture.peers) (q : StationNo) : t.peer q = s.peer q := by
  unfold State.peer; rw [h]

theorem Settles.peers {s t : State} (h : Settles s t) : t.picture.peers = s.picture.peers := by
  induction h with
  | refl => rfl
  | raiseChange _ ih => rw [State.raiseChange_peers, ih]
  | createEvent _ k f r side v ih => rw [State.createEvent_peers, ih]
  | _ => assumption

/-- A row offered to the match clock changes neither rows nor side points. -/
theorem lateJoin_peers (s : State) (row : PeerRow) : (lateJoin s row).picture.peers = s.picture.peers := by
  unfold lateJoin
  split
  · exact (Settles.refl.announce _).peers
  · rfl

theorem lateJoin_points (s : State) (row : PeerRow) : (lateJoin s row).engine.points = s.engine.points := by
  unfold lateJoin
  split
  · exact (Settles.refl.announce _).points
  · rfl

/-- Everything a status of a peer comes to at the rows: set aside whole, or its row replaced whole. -/
theorem takeStatus_peer {s : State} {p : StationNo} (hown : p ≠ s.loader.station) (hp : p ≠ 0) (payload : List Byte)
    (q : StationNo) : (takeStatus s p payload).peer q =
      match readStatus payload with
      | some r => if q = p then ⟨true, 0, r.phase, r.resume, r.tick, r.entries⟩ else s.peer q
      | none => s.peer q := by
  unfold takeStatus
  rw [if_neg hown]
  cases readStatus payload with
  | none => rfl
  | some r =>
    dsimp only
    rw [← s.setPeer_peer hp]
    split
    · exact State.peer_congr ((lateJoin_peers _ _).trans (Settles.refl.dualHold p _).peers) q
    · rfl

theorem takeStatus_points (s : State) (p : StationNo) (payload : List Byte) :
    (takeStatus s p payload).engine.points = s.engine.points := by
  have shown (row : PeerRow) : (s.setPeer p row).engine.points = s.engine.points := by
    rw [onlyReports_setPeer s p row]
  unfold takeStatus
  split
  · rfl
  · split
    · rfl
    · dsimp only
      split
      · exact ((lateJoin_points _ _).trans (Settles.refl.dualHold p _).points).trans (shown _)
      · exact shown _

/-- Settles O41: the row comes from `takeStatus_peer`, everything else from the frame that was heard. -/
theorem statusReplacesItsRow : Obligations.StatusReplacesItsRow := by
  unfold Obligations.StatusReplacesItsRow
  intro s dt frame payload p hhears hcont hjudge
  have received := exec_statusReceived_eq hhears hcont hjudge dt
  have hp := sender_ne_zero_of_judge hjudge
  have reports := heardFrom_reports s dt frame p
  generalize hu : heardFrom s dt frame p = u at *
  have station : u.loader.station = s.loader.station := by rw [reports]; simp
  refine ⟨fun hown => ?_, fun hown => ?_⟩
  · rw [← station] at hown
    have line := (QueuesOnly.refl u).takeStatus p payload |>.line
    have rows := takeStatus_peer hown hp payload
    refine ⟨_, received, ?_, ?_, fun q hq => ?_, ?_, fun hnone => ?_, ?_, outsideAs_takeStatus u p payload⟩
    · rw [line, ← hu]; exact heardFrom_lastSender s dt frame p
    · rw [line, ← hu, heardFrom_eq, if_neg (station ▸ hown)]; rfl
    · rw [rows]; cases readStatus payload <;> simp [hq]
    · rw [rows]; cases readStatus payload <;> simp
    · simp [takeStatus, hown, hnone]
    · rw [takeStatus_points, reports]; simp
  · rw [received, takeStatus, if_pos (hown.trans station.symm)]

end Sys2Proof.Machine
end

section
/-! Proofs for 06_field_picture_and_published_state.md, part 2: O47 settled. Both expiries come at their own moment; only
that of the status timer changes anything then. -/

namespace Sys2Proof.Machine

/-- R115: a PERIODIC request comes where none is pending, and nothing else. -/
theorem Picture.raisePeriodic_eq (p : Picture) (now : Nat) :
    p.raisePeriodic now = { p with request := some (p.request.getD ⟨.periodic, now⟩) } := by
  unfold Picture.raisePeriodic
  split
  · rename_i r h
    rw [h, Option.getD_some, ← h]
  · rename_i h
    rw [h, Option.getD_none]

/-- R115: at a configured station 1–31 the status timer's expiry comes when the status interval of the script is over. -/
theorem exec_statusTimerExpiry {s : State} (hready : s.ready = true) (hstation : s.loader.station ≠ 0)
    (hraised : s.picture.statusRaised = false) :
    exec .statusTimerExpiry s =
      .next (raiseStatus (s.advance (s.settings.statusInterval * 1000 - s.picture.statusTimer))) := by
  have interval : s.statusInterval = s.settings.statusInterval := by
    have load : s.loader.load = .ready := beq_iff_eq.mp hready
    simp [State.statusInterval, load]
  have wait : statusWait s = some (s.settings.statusInterval * 1000 - s.picture.statusTimer) := by
    simp [statusWait, State.ready_running hready, hstation, hraised, interval, Config.ms]
  exact onExpiry_some (act := raiseStatus) wait

/-- R116: a pending CHANGE's eligibility comes at its moment. -/
theorem exec_changeEligible {s : State} {time : Nat} (h : s.picture.request = some ⟨.change, time⟩) :
    exec .changeEligible s = .next (s.advance (time - s.now)) := by
  have wait : changeWait s = some (time - s.now) := by simp [changeWait, h]
  exact onExpiry_some (act := id) wait

/-- Settles O47, each half from its command's own equation. -/
theorem statusRequestsFallDue : Obligations.StatusRequestsFallDue := by
  unfold Obligations.StatusRequestsFallDue
  refine ⟨fun s hready hstation hraised htimer => ?_, fun s time hrun hrequest hnow => ?_⟩
  · have hrun := State.ready_running hready
    have expired := exec_statusTimerExpiry hready hstation hraised
    generalize hd : s.settings.statusInterval * 1000 - s.picture.statusTimer = d at *
    have now : (raiseStatus (s.advance d)).now = s.now + d := s.advance_now d hrun
    have raised : raiseStatus (s.advance d) = { s.advance d with picture := (raiseStatus (s.advance d)).picture } := rfl
    have picture : (raiseStatus (s.advance d)).picture = { (s.advance d).picture with
        request := some (s.picture.request.getD ⟨.periodic, s.now + d⟩), statusRaised := true } := by
      unfold raiseStatus
      dsimp only
      rw [Picture.raisePeriodic_eq, s.advance_request, s.advance_now d hrun]
    have timer : (s.advance d).picture.statusTimer = s.settings.statusInterval * 1000 := by
      rw [s.advance_running d hrun]
      simp only [Picture.advance, if_neg hstation]
      omega
    refine ⟨_, expired, now, ?_, ?_, ?_, ?_⟩
    · rw [picture, now]
      cases s.picture.request <;> rfl
    · rw [picture]
    · rw [picture]; exact timer
    · rw [now, Nat.add_sub_cancel_left]; exact raised
  · have now : (s.advance (time - s.now)).now = time := by rw [s.advance_now _ hrun]; omega
    refine ⟨_, exec_changeEligible hrequest, now, ?_, rfl⟩
    simp [State.eligibleRequest, hrequest, Request.eligible, now]

end Sys2Proof.Machine
end

section
/-! Proofs for 06_field_picture_and_published_state.md, part 3: O13 settled. At station 0 nothing that reports to the field
changes the state (`reporting`), so that what the station does of itself leaves it silent; and what the line controller and
the status timer do needs a station 1–31, or an attempt or a muting that station 0 never has (`of_station`). -/

namespace Sys2Proof.Machine

/-- R118: at station 0 no status timer expires. -/
theorem statusWait_station {s : State} {d : Nat} (h : statusWait s = some d) : s.loader.station ≠ 0 := by
  unfold statusWait at h
  split at h
  · rename_i guard
    simp only [Bool.and_eq_true, bne_iff_ne] at guard
    obtain ⟨⟨-, station⟩, -⟩ := guard
    exact station
  · cases h

/-- R185: at station 0 no attempt begins. -/
theorem attemptWait_station {s : State} {d : Nat} (h : attemptWait s = some d) : s.loader.station ≠ 0 := by
  unfold attemptWait at h
  split at h
  · rename_i guard
    simp only [Bool.and_eq_true, bne_iff_ne] at guard
    obtain ⟨⟨⟨-, station⟩, -⟩, -⟩ := guard
    exact station
  · cases h

theorem OutsideAs.loader {s t : State} (h : OutsideAs s t) : t.loader = s.loader := by
  obtain ⟨loader, -⟩ := h
  exact loader

/-! ## Reports of station 0 (R118, R121, R185) -/

section
variable {s : State} (hz : s.loader.station = 0)
include hz

theorem State.raiseChange_stationZero : s.raiseChange = s := by simp [State.raiseChange, hz]

theorem State.createEvent_stationZero (k : EventKind) (f : Option FixtureNo) (r : Robot) (side : Side) (v : Nat) :
    s.createEvent k f r side v = s := by simp [State.createEvent, hz]

theorem State.queueCommand_stationZero (c : Command) : s.queueCommand c = s := by simp [State.queueCommand, hz]

end

theorem showIndicators_loader (s : State) : (showIndicators s).loader = s.loader :=
  List.foldlRecOn fixtureNumbers _ (motive := fun u : State => u.loader = s.loader) rfl
    fun u hu f _ => (u.handOver_loader f _).trans hu

theorem showIndicators_picture (s : State) : (showIndicators s).picture = s.picture :=
  List.foldlRecOn fixtureNumbers _ (motive := fun u : State => u.picture = s.picture) rfl
    fun u hu f _ => (u.handOver_picture f _).trans hu

/-- What a character changes on the line is neither the attempt nor the muting. -/
theorem Line.hear_attempt_muted (l : Line) (heard : Heard) :
    (l.hear heard).attempt = l.attempt ∧ (l.hear heard).muted = l.muted := by
  unfold Line.hear
  split
  · exact ⟨rfl, rfl⟩
  · split
    · split <;> exact ⟨rfl, rfl⟩
    · unfold Line.append
      dsimp only
      split
      · exact ⟨rfl, rfl⟩
      · split <;> exact ⟨rfl, rfl⟩
    · exact ⟨rfl, rfl⟩

namespace StationZeroSilent

/-- A station with nothing to send, as it starts. -/
theorem of_start {s : State} (queue : s.line.queue = []) (attempt : s.line.attempt = none) (muted : s.line.muted = none)
    (picture : s.picture = Picture.start) : StationZeroSilent s := by
  unfold StationZeroSilent
  rw [picture]
  exact fun _ => ⟨queue, attempt, muted, rfl, rfl, rfl, rfl⟩

/-- The invariant says nothing of a station 1–31. -/
theorem of_station {s t : State} (hz : s.loader.station ≠ 0) (loader : t.loader = s.loader) : StationZeroSilent t :=
  fun h => absurd (loader ▸ h) hz

section
variable {s t : State} (h : StationZeroSilent s)
include h

/-- A report, which at station 0 is none. -/
theorem reporting (loader : t.loader = s.loader) (same : s.loader.station = 0 → t = s) : StationZeroSilent t := by
  by_cases hz : s.loader.station = 0
  · rwa [same hz]
  · exact of_station hz loader

/-- A change of neither line controller nor field picture. -/
theorem of_same (loader : t.loader = s.loader) (line : t.line = s.line) (picture : t.picture = s.picture) :
    StationZeroSilent t := by
  unfold StationZeroSilent
  rwa [loader, line, picture]

/-- A change of the line controller that leaves queue, attempt and muting. -/
theorem setLine {l : Line} (queue : l.queue = s.line.queue) (attempt : l.attempt = s.line.attempt)
    (muted : l.muted = s.line.muted) : StationZeroSilent { s with line := l } := by
  unfold StationZeroSilent
  dsimp only
  rwa [queue, attempt, muted]

theorem advance (d : Nat) : StationZeroSilent (s.advance d) := by
  unfold StationZeroSilent at *
  have attempt : (s.advance d).line.attempt = none ↔ s.line.attempt = none := by
    rw [← Option.isNone_iff_eq_none, ← Option.isNone_iff_eq_none, ← Option.not_isSome, ← Option.not_isSome,
      State.advance_attempting]
  simpa [attempt] using h

theorem raiseChange : StationZeroSilent s.raiseChange :=
  h.reporting s.raiseChange_loader State.raiseChange_stationZero

theorem queueCommand (c : Command) : StationZeroSilent (s.queueCommand c) :=
  h.reporting (s.queueCommand_loader c) fun hz => State.queueCommand_stationZero hz c

/-- What one occurrence sets off inside the station. -/
theorem settled (k : Settles s t) : StationZeroSilent t := by
  induction k with
  | refl => exact h
  | raiseChange _ ih => exact ih.raiseChange
  | createEvent _ k f r side v ih =>
    exact ih.reporting (State.createEvent_loader _ k f r side v) fun hz => State.createEvent_stationZero hz k f r side v
  | setFixture _ f x ih => exact ih.of_same rfl rfl rfl
  | setHoldOff _ l ih => exact ih.of_same rfl rfl rfl
  | setRunners _ x ih => exact ih.of_same rfl rfl rfl
  | setPulse _ p ih => exact ih.of_same rfl rfl rfl

theorem setClock (c : Clock) : StationZeroSilent { s with clock := c } := h.of_same rfl rfl rfl

theorem setPort (p : PortNo) (x : Port) : StationZeroSilent (s.setPort p x) := h.of_same rfl rfl rfl

theorem setPeer (n : StationNo) (row : PeerRow) : StationZeroSilent (s.setPeer n row) := by
  unfold State.setPeer
  split <;> exact h

/-! ### Match commands from every source (R92–R104) -/

theorem changePhase (new : Phase) : StationZeroSilent (changePhase s new) :=
  (h.setClock { s.clock with phase := new }).settled (Settles.refl.announce s.clock.phase)

theorem applyStart : StationZeroSilent (applyStart s) :=
  StationZeroSilent.changePhase (h.of_same (t := s.startBegun) rfl rfl rfl) _

theorem applyHalt : StationZeroSilent (applyHalt s) := (h.setClock { s.clock with resume := s.clock.phase }).changePhase _

/-- R124: EVENTS_LOST is cleared, and the CHANGE that follows is none of station 0. -/
theorem clearEnded : StationZeroSilent s.clearEnded := by
  refine StationZeroSilent.raiseChange fun hz => ?_
  obtain ⟨queue, attempt, muted, request, inFlight, eventSeq, -⟩ := h hz
  exact ⟨queue, attempt, muted, request, inFlight, eventSeq, rfl⟩

theorem applyClear : StationZeroSilent (applyClear s) := by
  have stopped := (Settles.refl.fold fixtureNumbers State.refreshIndicator
    fun _ f hu => hu.refreshIndicator f : Settles s.fixturesCleared _).haltRunners
  rw [applyClear_eq]
  exact ((h.of_same (t := s.fixturesCleared) rfl rfl rfl).settled stopped).clearEnded

theorem takeCommand (c : Command) : StationZeroSilent (takeCommand s c) := by
  unfold Machine.takeCommand
  split
  · exact h
  · split
    · exact h.queueCommand .halt
    · split
      · exact h
      · cases c with
        | start => exact h.applyStart
        | halt => exact h.applyHalt
        | resume => exact h.changePhase _
        | clear => exact h.applyClear

theorem localCommand (c : Command) (mode : InputMode) : StationZeroSilent (localCommand s c mode) := by
  have told (c : Command) (waits : Bool) : StationZeroSilent (if waits then s else s.queueCommand c) := by
    split
    · exact h
    · exact h.queueCommand c
  cases c with
  | start => exact told .start _
  | clear => exact told .clear _
  | resume =>
    unfold Machine.localCommand
    dsimp only
    split
    · exact h.queueCommand .halt
    · exact told .resume _
  | halt =>
    unfold Machine.localCommand localHalt
    dsimp only
    split
    · cases mode with
      | edge => exact h.queueCommand .halt
      | level => exact h
    · exact h.applyHalt.queueCommand .halt

theorem lateJoin (row : PeerRow) : StationZeroSilent (lateJoin s row) := by
  unfold Machine.lateJoin
  split
  · exact (h.setClock _).changePhase _
  · exact h

/-! ### Counted ticks (R90) -/

theorem tickOn (fs : List FixtureNo) : StationZeroSilent (tickOn fs s) :=
  tickOn_keeps StationZeroSilent (fun _ f hu => hu.settled (Settles.refl.fixtureTick f)) (fun _ _ hu => hu.setClock _)
    fs s h

theorem finishTick : StationZeroSilent (finishTick s) :=
  finishTick_keeps StationZeroSilent (fun _ f hu => hu.settled (Settles.refl.fixtureTick f)) (fun _ _ hu => hu.setClock _)
    s h

theorem resumeTick : StationZeroSilent (resumeTick s) := by
  unfold Machine.resumeTick
  split
  · exact h.tickOn _
  · exact h

theorem countTick : StationZeroSilent (countTick s) := (h.finishTick.setClock _).tickOn _

theorem endPeriod : StationZeroSilent (endPeriod s) := (h.finishTick.setClock _).changePhase _

/-! ### Inputs and beacons (R57, R72–R78, R127–R131) -/

theorem takePiece (f : FixtureNo) : StationZeroSilent (takePiece s f) := by
  obtain ⟨f', side, points, settled | same⟩ := settles_takePiece s f
  · exact (h.of_same (t := s.scored f' side points) rfl rfl rfl).settled settled
  · rwa [same]

theorem sampleRecords (pins : BitVec 12) (sample : Input → Bool → Input) :
    StationZeroSilent (sampleRecords s pins sample) := by
  unfold Machine.sampleRecords
  dsimp only
  split
  · exact h
  · exact StationZeroSilent.raiseChange (by exact h)

theorem takeLatch (i : InputNo) : StationZeroSilent (takeLatch s i) := by
  have cleared (x : Input) : StationZeroSilent (s.setInput i x) := h.of_same rfl rfl rfl
  unfold Machine.takeLatch
  dsimp only
  split
  · exact h
  · split
    · exact h
    · split
      · exact h
      · exact (cleared _).takePiece _
    · exact (cleared _).localCommand _ _

theorem takeLatches : StationZeroSilent (takeLatches s) :=
  List.foldlRecOn inputNumbers Machine.takeLatch (motive := StationZeroSilent) h fun _ hu i _ => hu.takeLatch i

theorem judgeWord (p : PortNo) : StationZeroSilent (judgeWord s p) := by
  unfold Machine.judgeWord
  split
  · exact (h.setPort p _).settled (Settles.refl.sighting p _ _)
  · exact h

theorem completeWord (p : PortNo) (r : Robot) (i : BitVec 2) : StationZeroSilent (completeWord p r i s) := by
  unfold Machine.completeWord
  split
  · exact (h.setPort p _).judgeWord p
  · exact h

theorem changeLevel (p : PortNo) (active : Bool) : StationZeroSilent (changeLevel p active s) := by
  unfold Machine.changeLevel
  dsimp only
  split
  · exact h
  · split
    · exact h.setPort p _
    · split
      · exact h.setPort p _
      · split
        · exact (h.setPort p _).judgeWord p
        · exact h.setPort p _

/-! ### Received characters and frames (R110, R169, R174, R175, R182) -/

theorem skip (d i : Nat) : StationZeroSilent (s.skip d i) := h.setLine (Line.skip_queue _ d i) rfl rfl

theorem hear (heard : Heard) : StationZeroSilent (s.hear heard) :=
  have ⟨attempt, muted⟩ := s.line.hear_attempt_muted heard
  h.setLine (Line.hear_queue _ _) attempt muted

theorem abandon (cause : AbandonCause) : StationZeroSilent (State.abandon cause s) := by
  unfold State.abandon
  split
  · exact h.skip _ _
  · exact h.skip _ _
  · split
    · exact h.skip _ _
    all_goals exact h

theorem takeStatus (p : StationNo) (payload : List Byte) : StationZeroSilent (takeStatus s p payload) := by
  unfold Machine.takeStatus
  split
  · exact h
  · split
    · exact h
    · dsimp only
      split
      · exact ((h.setPeer p _).settled (Settles.refl.dualHold p _)).lateJoin _
      · exact h.setPeer p _

/-- R182: only a sender 1–31 can be a twin. -/
theorem takeFrame (kind : FrameKind) {sender : StationNo} (hsender : sender ≠ 0) (payload : List Byte) :
    StationZeroSilent (takeFrame s kind sender payload) := by
  have noted : StationZeroSilent { s with line := { s.line with lastSender := sender } } := h.setLine rfl rfl rfl
  unfold Machine.takeFrame
  dsimp only
  generalize hu : (if sender = s.loader.station then _ else _ : State) = u
  have met : StationZeroSilent u := by
    rw [← hu]
    split
    · rename_i own
      exact of_station (own ▸ hsender) (onlyReports_meetTwin _).outsideAs.loader
    · exact noted
  split
  · split
    · exact met.takeCommand _
    · exact met
  · exact met.takeStatus _ _
  · exact met

theorem receiveFrame {wanted : Judgement → Bool} {dt : Nat} {frame : List Byte}
    (hr : receiveFrame wanted dt frame s = .next t) : StationZeroSilent t := by
  have skipped (d : Nat) : StationZeroSilent ((s.advance d).skip 0 0) := (h.advance d).skip 0 0
  rcases receiveFrame_cases wanted dt frame s with ⟨e, -⟩ | ⟨-, -, -, e⟩ <;> rw [e] at hr <;>
    obtain rfl := Host.Outcome.next.inj hr
  · exact h.advance dt
  · split
    · exact (skipped _).takeFrame _ (sender_ne_zero_of_judge ‹_›) _
    all_goals exact skipped _

/-! ### Every command -/

/-- Station 0 has no attempt. -/
theorem station_of_attempt {a : Attempt} (ha : s.line.attempt = some a) : s.loader.station ≠ 0 := fun hz => by
  obtain ⟨-, attempt, -⟩ := h hz
  rw [ha] at attempt
  cases attempt

/-- Station 0 is never MUTED. -/
theorem station_of_muted {cause : MuteCause} (hm : s.line.muted = some cause) : s.loader.station ≠ 0 := fun hz => by
  obtain ⟨-, -, muted, -⟩ := h hz
  rw [hm] at muted
  cases muted

theorem expiry {wait : State → Option Nat} {act : State → State} (he : onExpiry wait act s = .next t)
    (hact : ∀ u, StationZeroSilent u → StationZeroSilent (act u)) : StationZeroSilent t := by
  rcases onExpiry_cases he with rfl | ⟨d, -, rfl⟩
  · exact h
  · exact hact _ (h.advance d)

/-- An expiry whose act settles within the station. -/
theorem settling {wait : State → Option Nat} {act : State → State} (he : onExpiry wait act s = .next t)
    (hact : ∀ u, Settles u (act u)) : StationZeroSilent t := h.expiry he fun u hu => hu.settled (hact u)

/-- An expiry that does not come at station 0. -/
theorem sending {wait : State → Option Nat} {act : State → State} (he : onExpiry wait act s = .next t)
    (hwait : ∀ d, wait s = some d → s.loader.station ≠ 0) (outside : ∀ u, OutsideAs u (act u)) : StationZeroSilent t := by
  rcases onExpiry_cases he with rfl | ⟨d, hd, rfl⟩
  · exact h
  · exact of_station (hwait d hd) ((outside _).loader.trans (s.advance_loader d))

theorem timed {dt : Nat} {act : State → State} (he : afterTime dt act s = .next t)
    (hact : ∀ u, StationZeroSilent u → StationZeroSilent (act u)) : StationZeroSilent t := by
  obtain rfl := Host.Outcome.next.inj he
  exact hact _ (h.advance dt)

theorem command {dt : Nat} {c : Command} (he : afterTime dt (Machine.takeCommand · c) s = .next t) :
    StationZeroSilent t := h.timed he fun _ hu => hu.takeCommand c

/-- Every command but those of a reset and a load. -/
theorem exec {c : Instr} (hc : c.reconfigures = false) (he : exec c s = .next t) : StationZeroSilent t := by
  cases c with
  | reset _ => cases hc
  | loadEnd _ _ => cases hc
  | resetAsserted => cases hc
  | sighting dt p r i => exact h.timed (act := Machine.completeWord p r i) he fun _ hu => hu.completeWord p r i
  | holdOffExpiry r f =>
    exact h.settling (wait := holdOffWait r f) (act := dropHoldOff r f) he fun _ => Settles.refl.setHoldOff _
  | sightExpiry p r => exact h.expiry (wait := sightWait p r) (act := dropSight p r) he fun _ hu => hu.setPort p _
  | lost f =>
    exact h.settling (wait := lostWait f) (act := fun s => settle s [.release f .lost]) he fun _ => Settles.refl.settle _
  | queuedLost f r =>
    exact h.settling (wait := queuedLostWait f r) (act := fun s => dropQueued s f r) he
      fun _ => Settles.refl.dropQueued f r
  | overstay f =>
    obtain rfl := Host.Outcome.next.inj he
    split
    · exact (h.settled (Settles.refl.settle _)).resumeTick
    · exact h
  | countedTick => exact h.expiry (wait := tickWait) (act := Machine.countTick) he fun _ hu => hu.countTick
  | refill f =>
    obtain rfl := Host.Outcome.next.inj he
    split
    · exact (h.settled (Settles.refl.refill f)).resumeTick
    · exact h
  | periodEnd =>
    obtain rfl := Host.Outcome.next.inj he
    split
    · exact h.endPeriod
    · exact h
  | graceEnd f => exact h.settling (wait := graceWait f) (act := endGrace f) he fun _ => Settles.refl.endGrace f
  | jam f => exact h.settling (wait := jamWait f) (act := jamGoal f) he fun _ => Settles.refl.jam f
  | unjam f => exact h.settling (wait := unjamWait f) (act := unjamGoal f) he fun _ => Settles.refl.unjam f
  | transientEnd f =>
    exact h.settling (wait := transientWait f) (act := endTransient f) he fun _ => Settles.refl.endTransient f
  | inputSample pins =>
    exact h.expiry (wait := sampleWait)
      (act := fun s => Machine.takeLatches (Machine.sampleRecords s pins Input.sample)) he
      fun _ hu => (hu.sampleRecords pins _).takeLatches
  | start dt => exact h.command (c := .start) he
  | halt dt => exact h.command (c := .halt) he
  | resume dt => exact h.command (c := .resume) he
  | clear dt => exact h.command (c := .clear) he
  | statusReceived dt frame => exact h.receiveFrame (wanted := Judgement.isValid .status) he
  | eventFrameReceived dt frame => exact h.receiveFrame (wanted := Judgement.isValid .event) he
  | frameDiscard dt frame => exact h.receiveFrame (wanted := (· == .discarded)) he
  | matchFrameReceived dt frame => exact h.receiveFrame (wanted := Judgement.isValid .command) he
  | frameAbandon dt cause =>
    change execFrameAbandon dt cause s = _ at he
    unfold execFrameAbandon at he
    split at he <;> obtain rfl := Host.Outcome.next.inj he
    · exact (h.advance _).abandon cause
    · exact h.advance dt
  | statusTimerExpiry =>
    exact h.sending (wait := statusWait) (act := raiseStatus) he (fun _ => statusWait_station)
      fun _ => OnlyReports.outsideAs rfl
  | changeEligible => exact h.expiry (wait := changeWait) (act := id) he fun _ hu => hu
  | attemptBegin =>
    exact h.sending (wait := attemptWait) (act := checkHead) he (fun _ => attemptWait_station)
      fun u => (onlyReports_checkHead u).outsideAs
  | attemptSuccess =>
    refine h.sending (wait := attemptLeft) (act := succeed) he (fun d hd => ?_) outsideAs_succeed
    obtain ⟨a, ha, -⟩ := Option.map_eq_some_iff.mp hd
    exact h.station_of_attempt ha
  | attemptAbort dt =>
    change execAttemptAbort dt s = _ at he
    rcases execAttemptAbort_cases dt s with ⟨e, -⟩ | ⟨a, d, ha, -, e⟩ <;> rw [e] at he <;>
      obtain rfl := Host.Outcome.next.inj he
    · exact h.advance dt
    · exact of_station (h.station_of_attempt ha)
        ((onlyReports_abortAttempt _).outsideAs.loader.trans (s.advance_loader d))
  | muteTimerExpiry =>
    refine h.sending (wait := muteWait) (act := leaveMuted) he (fun d hd => ?_)
      fun u => (onlyReports_leaveMuted u).outsideAs
    obtain ⟨cause, hm, -⟩ := Option.map_eq_some_iff.mp hd
    exact h.station_of_muted hm
  | patternPhaseEnd u =>
    exact h.settling (wait := patternWait u) (act := endPatternPhase u) he fun _ => Settles.refl.endPatternPhase u
  | delayEnd r =>
    exact h.settling (wait := delayWait r) (act := fun s => settle s [.moveOn r]) he fun _ => Settles.refl.settle _
  | lampPhaseEnd u => exact h.settling (wait := lampWait u) (act := endLampPhase u) he fun _ => Settles.refl.setPulse _
  | beaconLevelChange dt p active =>
    exact h.timed (act := Machine.changeLevel p active) he fun _ hu => hu.changeLevel p active
  | beaconWindowOverrun p => exact h.expiry (wait := overrunWait p) (act := overrun p) he fun _ hu => hu.setPort p _
  | nonSyncCharacter dt line =>
    change execNonSyncCharacter dt line s = _ at he
    rcases execNonSyncCharacter_cases dt line s with ⟨e, -⟩ | ⟨heard, -, -, e⟩ <;> rw [e] at he <;>
      obtain rfl := Host.Outcome.next.inj he
    · exact h.advance dt
    · exact (h.advance _).hear heard
  | receiverReturnToHunt =>
    exact h.expiry (wait := huntWait) (act := returnToHunt) he fun _ hu => hu.setLine rfl rfl rfl

/-- The commands of a reset and a load, which leave nothing to send but what the first samples bring. -/
theorem exec_reconfigures {c : Instr} (hc : c.reconfigures = true) (he : Machine.exec c s = .next t) :
    StationZeroSilent t := by
  cases c with
  | reset straps => obtain rfl := Host.Outcome.next.inj he; exact of_start rfl rfl rfl rfl
  | resetAsserted => obtain rfl := Host.Outcome.next.inj he; exact of_start rfl rfl rfl rfl
  | loadEnd miso pins =>
    change execLoadEnd miso pins s = _ at he
    unfold execLoadEnd at he
    split at he
    · split at he <;> obtain rfl := Host.Outcome.next.inj he
      · rename_i records _
        have configured : StationZeroSilent (State.configure s (readScript records) pins.dominant) :=
          of_start rfl rfl rfl rfl
        have shown := configured.of_same (showIndicators_loader _) (showIndicators_line _) (showIndicators_picture _)
        exact (shown.sampleRecords pins.inputs _).raiseChange.takeLatches
      · exact of_start rfl rfl rfl rfl
    · obtain rfl := Host.Outcome.next.inj he; exact h
  | _ => cases hc

end

end StationZeroSilent

/-- Settles O13: station 0 has nothing to send as it starts, and no command gives it anything. -/
theorem stationZeroStaysSilent : Obligations.StationZeroStaysSilent := by
  unfold Obligations.StationZeroStaysSilent
  intro s t h hstep
  unfold step at hstep
  split at hstep
  · obtain rfl := Host.Outcome.next.inj hstep; exact h.advance 1
  · rename_i c rest _
    have popped : StationZeroSilent { s with pending := rest } := h
    cases hc : c.reconfigures with
    | false => exact popped.exec hc hstep
    | true => exact popped.exec_reconfigures hc hstep

end Sys2Proof.Machine
end

section
/-! Proofs for 07_sensor_inputs.md: O35 settled. The twelve inputs are sampled at once (`sampleRecords`); what the taking of
the latches does to the input block is said once (`Takes`), and a latch that stands alone is all that `takeLatches` takes. -/

namespace Sys2Proof.Machine

/-! ## A fixture that is not DEAD stays so within one occurrence (R192) -/

/-- No fixture has become DEAD. -/
def KeepsAlive (s t : State) : Prop := ∀ f, (s.fixture f).state ≠ .dead → (t.fixture f).state ≠ .dead

namespace KeepsAlive
variable {s t u : State}

theorem of_state (h : ∀ f, (t.fixture f).state = (s.fixture f).state) : KeepsAlive s t := fun f halive => by rwa [h]

theorem refl (s : State) : KeepsAlive s s := .of_state fun _ => rfl

theorem trans (h : KeepsAlive s t) (k : KeepsAlive t u) : KeepsAlive s u := fun f halive => k f (h f halive)

end KeepsAlive

section
variable (s : State) (f : FixtureNo)

/-- An update of fixture f that leaves or sets its state as a living one. -/
theorem keepsAlive_setFixture {x : Fixture} (h : x.state = (s.fixture f).state ∨ x.state ≠ .dead) :
    KeepsAlive s (s.setFixture f x) := by
  intro g halive
  rw [State.setFixture_fixture]
  split
  · rename_i e
    subst e
    exact h.elim (fun same => by rwa [same]) id
  · exact halive

theorem keepsAlive_setClaims (c : Claims) : KeepsAlive s (s.setClaims f c) := keepsAlive_setFixture s f (.inl rfl)

theorem keepsAlive_raiseChange : KeepsAlive s s.raiseChange := .of_state fun g => by simp

theorem keepsAlive_createEvent (k : EventKind) (g : Option FixtureNo) (r : Robot) (side : Side) (v : Nat) :
    KeepsAlive s (s.createEvent k g r side v) := .of_state fun g => by simp

theorem keepsAlive_makeHoldOff (r : Robot) : KeepsAlive s (s.makeHoldOff r f) := .of_state fun g => by simp

theorem keepsAlive_refreshIndicator : KeepsAlive s (s.refreshIndicator f) := .of_state fun g => by
  rw [State.refreshIndicator_fixture]
  split
  · rename_i e
    subst e; rfl
  · rfl

theorem keepsAlive_startTransient (x : Transient) : KeepsAlive s (s.startTransient f x) :=
  (keepsAlive_setFixture s f (by exact .inl rfl)).trans (keepsAlive_refreshIndicator _ f)

theorem keepsAlive_performReport (r : Report) : KeepsAlive s (performReport s f r).1 := by
  have ends (cause : ReleaseCause) : KeepsAlive s (endDispense s f cause).1 := by
    unfold endDispense
    dsimp only
    split <;> exact keepsAlive_setClaims s f _
  unfold performReport
  dsimp only
  split
  · exact .refl s
  · cases r with
    | accepted => exact keepsAlive_setClaims s f _
    | dropped => exact .refl s
    | completed => exact ends _
    | aborted => exact ends _
    | abortedByHalt => exact ends _
    | flushed => exact ends _

theorem keepsAlive_performRelease (cause : ReleaseCause) : KeepsAlive s (performRelease s f cause).1 := by
  unfold performRelease
  dsimp only
  split
  · exact keepsAlive_setFixture s f (.inr nofun)
  · exact .refl s

theorem keepsAlive_performReleaseTail (robot : Robot) (side : Side) (cause : ReleaseCause) :
    KeepsAlive s (performReleaseTail s f robot side cause).1 := by
  have told := (keepsAlive_createEvent s (.release cause) (some f) robot side ((s.fixture f).eventValue side)).trans
    (keepsAlive_raiseChange _)
  unfold performReleaseTail
  dsimp only
  split
  · exact told.trans (keepsAlive_makeHoldOff _ f robot)
  · exact told

theorem keepsAlive_performPromote : KeepsAlive s (performPromote s f).1 := by
  unfold performPromote
  dsimp only
  split
  · exact .refl s
  · split
    · exact (keepsAlive_setFixture s f (by exact .inr nofun)).trans (keepsAlive_refreshIndicator _ f)
    · split
      · exact (keepsAlive_setClaims s f _).trans (keepsAlive_makeHoldOff _ f _)
      · exact keepsAlive_setClaims s f _

theorem keepsAlive_performGrant (robot : Robot) (side : Side) (seen age : Nat) :
    KeepsAlive s (performGrant s f robot side seen age).1 := by
  unfold performGrant
  dsimp only
  split
  · exact .refl s
  · exact (((keepsAlive_setFixture s f (by exact .inr nofun)).trans (keepsAlive_createEvent _ _ _ _ _ _)).trans
      (keepsAlive_raiseChange _)).trans (keepsAlive_refreshIndicator _ f)

theorem keepsAlive_performPhaseRelease : KeepsAlive s (performPhaseRelease s f).1 := by
  unfold performPhaseRelease
  dsimp only
  split
  · exact keepsAlive_setFixture s f (.inr nofun)
  · exact .refl s

theorem keepsAlive_performPhaseTail (robot : Robot) (side : Side) :
    KeepsAlive s (performPhaseTail s f robot side).1 :=
  (((keepsAlive_createEvent s _ _ _ _ _).trans (keepsAlive_setClaims _ f _)).trans (keepsAlive_raiseChange _)).trans
    (keepsAlive_refreshIndicator _ f)

theorem keepsAlive_perform (t : Task) : KeepsAlive s (perform s t).1 := by
  rcases perform_cases s t with ⟨-, plays⟩ | ⟨f, r, rfl⟩ | ⟨f, hold, -⟩
  · exact .of_state fun f => by rw [plays.fixture]
  · exact keepsAlive_performReport s f r
  · cases t with
    | release g cause => exact keepsAlive_performRelease s g cause
    | releaseTail g robot side cause => exact keepsAlive_performReleaseTail s g robot side cause
    | promote g => exact keepsAlive_performPromote s g
    | grant g robot side seen age => exact keepsAlive_performGrant s g robot side seen age
    | phaseRelease g => exact keepsAlive_performPhaseRelease s g
    | phaseTail g robot side => exact keepsAlive_performPhaseTail s g robot side
    | _ => cases hold

theorem keepsAlive_settle (ts : List Task) : KeepsAlive s (settle s ts) :=
  settle_keeps (KeepsAlive s) (fun u t h => h.trans (keepsAlive_perform u t)) s ts (.refl s)

theorem keepsAlive_countPiece (c : FixtureConfig) (rule : Option CreditRule) (values : PerPhase) (phase : Phase) :
    KeepsAlive s (countPiece s f c rule values phase) :=
  have scored (side : Side) (points : Nat) : KeepsAlive s (s.scored f side points) := keepsAlive_setFixture s f (.inl rfl)
  ((((scored _ _).trans (keepsAlive_createEvent _ _ _ _ _ _)).trans (keepsAlive_raiseChange _)).trans
    (keepsAlive_startTransient _ f .scored)).trans (keepsAlive_settle _ _)

theorem keepsAlive_takePiece : KeepsAlive s (takePiece s f) := by
  unfold takePiece
  dsimp only
  split
  · exact .refl s
  · split
    · split
      · exact .refl s
      · split
        · exact keepsAlive_countPiece s f _ _ _ _
        · split
          · exact keepsAlive_countPiece s f _ _ _ _
          · exact .refl s
        all_goals exact .refl s
    all_goals exact .refl s

theorem keepsAlive_haltRunner (r : RunnerId) : KeepsAlive s (haltRunner s r) := by
  rw [haltRunner_eq]
  exact .trans (.of_state fun g => by rw [State.stopped_fixture]) (keepsAlive_settle _ _)

theorem keepsAlive_applyHalt : KeepsAlive s (applyHalt s) := by
  have halting : KeepsAlive s s.halting := .of_state fun g => by rw [halting_fixture]
  have stopped := (halting.trans (keepsAlive_haltRunner _ .A)).trans (keepsAlive_haltRunner _ .B)
  exact stopped.trans (.of_state fun g => by rw [applyHalt_fixture]; rfl)

theorem keepsAlive_queueCommand (c : Command) : KeepsAlive s (s.queueCommand c) := .of_state fun g => by simp

theorem keepsAlive_localCommand (c : Command) (mode : InputMode) : KeepsAlive s (localCommand s c mode) := by
  unfold localCommand
  split
  · unfold localHalt
    split
    · cases mode with
      | edge => exact keepsAlive_queueCommand s .halt
      | level => exact .refl s
    · exact (keepsAlive_applyHalt s).trans (keepsAlive_queueCommand _ .halt)
  · split
    · exact keepsAlive_queueCommand s _
    · split
      · exact .refl s
      · exact keepsAlive_queueCommand s _
  all_goals
    split
    · exact .refl s
    · exact keepsAlive_queueCommand s _

end

/-! ## One input at a sample instant (R126–R130) -/

namespace Input
variable {x : Input}

theorem sees_eq (x : Input) (high : Bool) : x.sees high = (high != (x.polarity == .activeLow)) := by
  unfold sees
  cases x.polarity <;> cases high <;> rfl

theorem sample_unrouted (h : x.route = .none) (high : Bool) : x.sample high = x := by
  unfold sample routed
  rw [h]
  rfl

theorem sample_routed (h : x.route ≠ .none) (high : Bool) : x.sample high = latched x (x.qualify (x.sees high)) := by
  unfold sample routed
  rw [if_pos (bne_iff_ne.mpr h)]

/-- R128: the level changes at the second disagreeing sample, of which the first is counted. -/
theorem qualify_eq (x : Input) (active : Bool) : x.qualify active = { x with
    qualified := if active ≠ x.qualified ∧ x.disagreeing ≠ 0 then active else x.qualified
    disagreeing := if active ≠ x.qualified ∧ x.disagreeing = 0 then 1 else 0 } := by
  unfold qualify
  by_cases same : active = x.qualified
  · simp [same]
  · by_cases first : x.disagreeing = 0 <;> simp [same, first]

theorem sample_qualified (h : x.route ≠ .none) (high : Bool) :
    (x.sample high).qualified =
      (if (high != (x.polarity == .activeLow)) ≠ x.qualified ∧ x.disagreeing ≠ 0 then high != (x.polarity == .activeLow)
        else x.qualified) := by
  rw [sample_routed h, sees_eq, qualify_eq]; rfl

theorem sample_disagreeing (h : x.route ≠ .none) (high : Bool) :
    (x.sample high).disagreeing =
      (if (high != (x.polarity == .activeLow)) ≠ x.qualified ∧ x.disagreeing = 0 then 1 else 0) := by
  rw [sample_routed h, sees_eq, qualify_eq]; rfl

/-- R129, R130: a latch is set at a rise of the qualified level or, in LEVEL mode, where it is active. -/
theorem sample_latch (h : x.route ≠ .none) (high : Bool) : (x.sample high).latch = (x.latch ||
    match x.mode with
    | .edge => !x.qualified && (x.sample high).qualified
    | .level => (x.sample high).qualified) := by
  rw [sample_routed h, qualify_eq]; rfl

end Input

/-! ## All inputs at a sample instant (R127, R66, R102) -/

section
variable (s : State) (pins : BitVec 12) (sample : Input → Bool → Input)

theorem sampleRecords_inputs : (sampleRecords s pins sample).inputs =
    ⟨Vector.ofFn fun i => sample s.inputs.records[i] (pins.getLsbD i.val), 0, pins⟩ := by
  unfold sampleRecords
  dsimp only
  split
  · rfl
  · rw [State.raiseChange_inputs]

theorem sampleRecords_record (i : InputNo) :
    (sampleRecords s pins sample).inputs.records[i] = sample s.inputs.records[i] (pins.getLsbD i.val) := by
  rw [sampleRecords_inputs]
  simp

theorem sampleRecords_now : (sampleRecords s pins sample).now = s.now := by
  unfold sampleRecords
  dsimp only
  split
  · rfl
  · rw [State.raiseChange_now]

theorem sampleRecords_line : (sampleRecords s pins sample).line = s.line := by
  unfold sampleRecords
  dsimp only
  split
  · rfl
  · rw [State.raiseChange_line]

theorem sampleRecords_fixture_state (f : FixtureNo) :
    ((sampleRecords s pins sample).fixture f).state = (s.fixture f).state := by
  have judged (x : Fixture) (changed : Bool) : (x.inputChanged changed).state = x.state :=
    (Fixture.SameClaim.inputChanged x changed).state
  unfold sampleRecords
  dsimp only
  split
  · simp [State.fixture, judged]
  · rw [State.raiseChange_fixture]
    simp [State.fixture, judged]

end

/-! ## What the taking of latches does to the input block (R131) -/

/-- A latch of this input has a taker: a route, and no DEAD fixture at it (R57). -/
structure State.HasTaker (s : State) (i : InputNo) : Prop where
  routed : (s.inputs.records[i]).route ≠ .none
  alive : ∀ f, (s.inputs.records[i]).route = .piece f → (s.fixture f).state ≠ .dead

/-- One input's latch cleared. -/
def State.latchTaken (s : State) (i : InputNo) : State := s.setInput i { s.inputs.records[i] with latch := false }

/-- No time has passed, and of the input block latches alone have changed: set ones of routed inputs, now clear. -/
structure Takes (s t : State) : Prop where
  now : t.now = s.now
  sampleTimer : t.inputs.sampleTimer = s.inputs.sampleTimer
  pins : t.inputs.pins = s.inputs.pins
  record : ∀ i : InputNo, t.inputs.records[i] = s.inputs.records[i] ∨
    ((s.inputs.records[i]).route ≠ .none ∧ t.inputs.records[i] = { s.inputs.records[i] with latch := false })
  alive : KeepsAlive s t

namespace Takes
variable {s t u : State} {i : InputNo}

theorem refl (s : State) : Takes s s := ⟨rfl, rfl, rfl, fun _ => .inl rfl, .refl s⟩

theorem record_but_latch (h : Takes s t) (i : InputNo) :
    t.inputs.records[i] = { s.inputs.records[i] with latch := (t.inputs.records[i]).latch } := by
  rcases h.record i with e | ⟨-, e⟩ <;> rw [e]

theorem route (h : Takes s t) (i : InputNo) : (t.inputs.records[i]).route = (s.inputs.records[i]).route := by
  rw [h.record_but_latch]

theorem latch_clear (h : Takes s t) (hi : (s.inputs.records[i]).latch = false) :
    (t.inputs.records[i]).latch = false := by
  rcases h.record i with e | ⟨-, e⟩ <;> rw [e]
  exact hi

theorem record_unrouted (h : Takes s t) (hi : (s.inputs.records[i]).route = .none) :
    t.inputs.records[i] = s.inputs.records[i] :=
  (h.record i).resolve_right fun ⟨routed, _⟩ => routed hi

theorem hasTaker (h : Takes s t) (hi : s.HasTaker i) : t.HasTaker i := by
  obtain ⟨routed, alive⟩ := hi
  exact ⟨by rwa [h.route], fun f hf => h.alive f (alive f (by rwa [h.route] at hf))⟩

theorem trans (h : Takes s t) (k : Takes t u) : Takes s u where
  now := k.now.trans h.now
  sampleTimer := k.sampleTimer.trans h.sampleTimer
  pins := k.pins.trans h.pins
  record i := by
    rcases k.record i with e | ⟨routed, e⟩
    · rw [e]; exact h.record i
    · rw [h.route] at routed
      exact .inr ⟨routed, by rw [e, h.record_but_latch]⟩
  alive := h.alive.trans k.alive

/-- A latch is cleared, and its taker leaves the inputs. -/
theorem of_latchTaken (routed : (s.inputs.records[i]).route ≠ .none) (h : OutsideAs (s.latchTaken i) t)
    (alive : KeepsAlive (s.latchTaken i) t) : Takes s t := by
  obtain ⟨-, -, now, -, inputs, -, -⟩ := h
  refine ⟨now, by rw [inputs]; rfl, by rw [inputs]; rfl, fun j => ?_, alive⟩
  rw [inputs, State.latchTaken, State.setInput_records]
  split
  · rename_i e
    exact e ▸ .inr ⟨routed, rfl⟩
  · exact .inl rfl

end Takes

/-! ## The taker of one latch (R57, R98, R99, R131) -/

section
variable {s : State} {i : InputNo}

theorem takeLatch_of_clear (h : (s.inputs.records[i]).latch = false) : takeLatch s i = s := by
  simp only [takeLatch, h]
  rfl

theorem takeLatch_unrouted (h : (s.inputs.records[i]).route = .none) : takeLatch s i = s := by
  simp only [takeLatch, h, ite_self]

theorem takeLatch_piece {f : FixtureNo} (hset : (s.inputs.records[i]).latch = true)
    (h : (s.inputs.records[i]).route = .piece f) :
    takeLatch s i = if (s.fixture f).state = .dead then s else takePiece (s.latchTaken i) f := by
  unfold takeLatch
  dsimp only
  rw [if_neg (by rw [hset]; nofun)]
  split
  · rename_i e; cases h.symm.trans e
  · rename_i e; cases h.symm.trans e; rfl
  · rename_i e; cases h.symm.trans e

theorem takeLatch_command {c : Command} (hset : (s.inputs.records[i]).latch = true)
    (h : (s.inputs.records[i]).route = .command c) :
    takeLatch s i = localCommand (s.latchTaken i) c (s.inputs.records[i]).mode := by
  unfold takeLatch
  dsimp only
  rw [if_neg (by rw [hset]; nofun)]
  split
  · rename_i e; cases h.symm.trans e
  · rename_i e; cases h.symm.trans e
  · rename_i e; cases h.symm.trans e; rfl

/-- A set latch that has a taker is cleared for it, and the taker leaves the inputs. -/
theorem takeLatch_hasTaker (hset : (s.inputs.records[i]).latch = true) (hi : s.HasTaker i) :
    OutsideAs (s.latchTaken i) (takeLatch s i) ∧ KeepsAlive (s.latchTaken i) (takeLatch s i) := by
  obtain ⟨routed, alive⟩ := hi
  cases hr : (s.inputs.records[i]).route with
  | none => exact absurd hr routed
  | piece f =>
    rw [takeLatch_piece hset hr, if_neg (alive f hr)]
    exact ⟨outsideAs_takePiece _ f, keepsAlive_takePiece _ f⟩
  | command c =>
    rw [takeLatch_command hset hr]
    exact ⟨outsideAs_localCommand _ c _, keepsAlive_localCommand _ c _⟩

/-- A latch without a taker stays as it is. -/
theorem takeLatch_of_not_hasTaker (hi : ¬s.HasTaker i) : takeLatch s i = s := by
  cases hset : (s.inputs.records[i]).latch with
  | false => exact takeLatch_of_clear hset
  | true =>
    cases hr : (s.inputs.records[i]).route with
    | none => exact takeLatch_unrouted hr
    | piece f =>
      rw [takeLatch_piece hset hr]
      refine if_pos (not_not.mp fun alive => hi ⟨by rw [hr]; nofun, fun g hg => ?_⟩)
      rw [hr] at hg
      exact Route.piece.inj hg ▸ alive
    | command c => exact absurd ⟨by rw [hr]; nofun, fun f hf => by rw [hr] at hf; cases hf⟩ hi

theorem takes_takeLatch (s : State) (i : InputNo) : Takes s (takeLatch s i) := by
  cases hset : (s.inputs.records[i]).latch with
  | false => rw [takeLatch_of_clear hset]; exact .refl s
  | true =>
    by_cases hi : s.HasTaker i
    · obtain ⟨outside, alive⟩ := takeLatch_hasTaker hset hi
      exact .of_latchTaken hi.routed outside alive
    · rw [takeLatch_of_not_hasTaker hi]; exact .refl s

theorem takeLatch_latch (hi : s.HasTaker i) : ((takeLatch s i).inputs.records[i]).latch = false := by
  cases hset : (s.inputs.records[i]).latch with
  | false => rwa [takeLatch_of_clear hset]
  | true =>
    obtain ⟨⟨-, -, -, -, inputs, -, -⟩, -⟩ := takeLatch_hasTaker hset hi
    rw [inputs, State.latchTaken, State.setInput_records, if_pos rfl]

/-! ## All latches in turn (R131) -/

theorem takes_foldl_takeLatch (l : List InputNo) (s : State) : Takes s (l.foldl takeLatch s) :=
  List.foldlRecOn l takeLatch (motive := Takes s) (.refl s) fun u hu j _ => hu.trans (takes_takeLatch u j)

/-- Every latch of the list that has a taker is clear in the end. -/
theorem foldl_takeLatch_latch {l : List InputNo} (hmem : i ∈ l) : ∀ {s : State}, s.HasTaker i →
    ((l.foldl takeLatch s).inputs.records[i]).latch = false := by
  induction l with
  | nil => cases hmem
  | cons j l ih =>
    intro s hi
    rcases List.mem_cons.mp hmem with rfl | hmem
    · exact (takes_foldl_takeLatch l _).latch_clear (takeLatch_latch hi)
    · exact ih hmem ((takes_takeLatch s j).hasTaker hi)

/-- Where no latch of the list is set there is nothing to take. -/
theorem foldl_takeLatch_clear {l : List InputNo} (h : ∀ j ∈ l, (s.inputs.records[j]).latch = false) :
    l.foldl takeLatch s = s := by
  induction l with
  | nil => rfl
  | cons j l ih =>
    rw [List.foldl_cons, takeLatch_of_clear (h j (List.mem_cons_self ..))]
    exact ih fun k hk => h k (List.mem_cons_of_mem _ hk)

theorem mem_inputNumbers : ∀ i : InputNo, i ∈ inputNumbers := by decide

theorem inputNumbers_nodup : inputNumbers.Nodup := by decide

theorem takes_takeLatches (s : State) : Takes s (takeLatches s) := takes_foldl_takeLatch inputNumbers s

theorem takeLatches_latch (hi : s.HasTaker i) : ((takeLatches s).inputs.records[i]).latch = false := by
  unfold takeLatches
  exact foldl_takeLatch_latch (mem_inputNumbers i) hi

/-- A latch that is the only one set is all there is to take. -/
theorem takeLatches_single (h : ∀ j, j ≠ i → (s.inputs.records[j]).latch = false) : takeLatches s = takeLatch s i := by
  obtain ⟨before, after, split⟩ := List.append_of_mem (mem_inputNumbers i)
  have nodup := inputNumbers_nodup
  rw [split, List.nodup_middle, List.nodup_cons, List.mem_append, not_or] at nodup
  obtain ⟨⟨hbefore, hafter⟩, -⟩ := nodup
  have clear {l : List InputNo} (hl : i ∉ l) : ∀ j ∈ l, (s.inputs.records[j]).latch = false :=
    fun j hj => h j fun e => hl (e ▸ hj)
  unfold takeLatches
  rw [split, List.foldl_append, List.foldl_cons, foldl_takeLatch_clear (clear hbefore),
    foldl_takeLatch_clear fun j hj => (takes_takeLatch s i).latch_clear (clear hafter j hj)]

end

/-! ## The taker of a command (R98, R99) -/

theorem State.latchTaken_haltInput (s : State) (i : InputNo) : (s.latchTaken i).haltInput = s.haltInput := by
  have same (j : InputNo) : ((s.latchTaken i).inputs.records[j]).holdsHalt = (s.inputs.records[j]).holdsHalt := by
    rw [State.latchTaken, State.setInput_records]
    split
    · rename_i e
      rw [← e]; rfl
    · rfl
  exact congrArg (List.any inputNumbers) (funext same)

theorem localHalt_halted {s : State} (h : s.clock.phase = .halted) (mode : InputMode) :
    localHalt s mode = if mode = .edge then s.queueCommand .halt else s := by
  unfold localHalt
  rw [if_pos h]
  cases mode <;> rfl

theorem localHalt_unhalted {s : State} (h : s.clock.phase ≠ .halted) (mode : InputMode) :
    (localHalt s mode).clock.phase = .halted ∧ (localHalt s mode).clock.resume = s.clock.phase ∧
      localHalt s mode = (applyHalt s).queueCommand .halt := by
  have applied : localHalt s mode = (applyHalt s).queueCommand .halt := if_neg h
  rw [applied, State.queueCommand_clock, applyHalt_clock]
  exact ⟨rfl, rfl, rfl⟩

/-! ## The sample instant (R127) -/

/-- The state at the next sample instant, its inputs sampled and no latch taken. -/
def State.sampled (s : State) (pins : BitVec 12) : State :=
  sampleRecords (s.advance (1000 - s.inputs.sampleTimer)) pins Input.sample

theorem exec_inputSample {s : State} (hready : s.ready = true) (pins : BitVec 12) :
    exec (.inputSample pins) s = .next (takeLatches (s.sampled pins)) := by
  have wait : sampleWait s = some (1000 - s.inputs.sampleTimer) := by unfold sampleWait; rw [hready]; rfl
  exact onExpiry_some (act := fun s => takeLatches (sampleRecords s pins Input.sample)) wait

section
variable (s : State) (pins : BitVec 12)

theorem State.sampled_record (i : InputNo) :
    (s.sampled pins).inputs.records[i] = (s.inputs.records[i]).sample (pins.getLsbD i.val) := by
  rw [State.sampled, sampleRecords_record, State.advance_records]

theorem State.sampled_mode (i : InputNo) : ((s.sampled pins).inputs.records[i]).mode = (s.inputs.records[i]).mode := by
  obtain ⟨-, mode, -⟩ := Input.sample_setAs s.inputs.records[i] (pins.getLsbD i.val)
  rw [State.sampled_record, mode]

theorem State.sampled_route (i : InputNo) : ((s.sampled pins).inputs.records[i]).route = (s.inputs.records[i]).route := by
  obtain ⟨-, -, route⟩ := Input.sample_setAs s.inputs.records[i] (pins.getLsbD i.val)
  rw [State.sampled_record, route]

theorem State.sampled_fixture_state (f : FixtureNo) : ((s.sampled pins).fixture f).state = (s.fixture f).state := by
  rw [State.sampled, sampleRecords_fixture_state, State.advance_fixture_state]

theorem State.sampled_phase : (s.sampled pins).clock.phase = s.clock.phase := by
  rw [State.sampled, sampleRecords_clock, State.advance_phase]

theorem State.sampled_commandQueued (c : Command) : (s.sampled pins).commandQueued c = s.commandQueued c := by
  rw [State.commandQueued, State.sampled, sampleRecords_line, State.advance_queue]; rfl

end

/-- Settles O35. -/
theorem sampleQualifiesEveryInput : Obligations.SampleQualifiesEveryInput := by
  unfold Obligations.SampleQualifiesEveryInput
  intro s pins hready
  refine ⟨_, exec_inputSample hready pins, ?_⟩
  have takes := takes_takeLatches (s.sampled pins)
  have record (i : InputNo) := s.sampled_record pins i
  have route (i : InputNo) := s.sampled_route pins i
  have qualified (i : InputNo) : ((takeLatches (s.sampled pins)).inputs.records[i]).qualified =
      ((s.inputs.records[i]).sample (pins.getLsbD i.val)).qualified := by
    rw [takes.record_but_latch, record]
  dsimp only
  rw [← State.sampled]
  refine ⟨?_, ?_, ?_, fun i => ⟨fun hi => ?_, fun hi => ⟨⟨?_, ?_⟩, fun halive => ?_⟩⟩, fun i hi => ?_,
    fun i hset hsingle => ?_⟩
  · rw [takes.now, State.sampled, sampleRecords_now, State.advance_now s _ (State.ready_running hready)]
  · rw [takes.sampleTimer, State.sampled, sampleRecords_inputs]
  · rw [takes.pins, State.sampled, sampleRecords_inputs]
  · rw [takes.record_unrouted (by rwa [route]), record, Input.sample_unrouted hi]
  · rw [qualified, Input.sample_qualified hi]
  · rw [takes.record_but_latch, record, Input.sample_disagreeing hi]
  · refine takeLatches_latch ⟨by rwa [route], fun f hf => ?_⟩
    rw [State.sampled_fixture_state]
    exact halive f (by rwa [route] at hf)
  · rw [qualified, record]
    exact Input.sample_latch hi _
  · have phase : ((s.sampled pins).latchTaken i).clock.phase = s.clock.phase := s.sampled_phase pins
    have queued (c : Command) : ((s.sampled pins).latchTaken i).commandQueued c = s.commandQueued c :=
      s.sampled_commandQueued pins c
    have commanded {c : Command} (hr : (s.inputs.records[i]).route = .command c) :
        takeLatch (s.sampled pins) i = localCommand ((s.sampled pins).latchTaken i) c (s.inputs.records[i]).mode := by
      rw [← s.sampled_mode pins]
      exact takeLatch_command hset (by rw [route, hr])
    rw [takeLatches_single hsingle]
    split
    · rename_i hr
      exact takeLatch_unrouted (by rw [route, hr])
    · rename_i f hr
      rw [← s.sampled_fixture_state pins]
      exact takeLatch_piece hset (by rw [route, hr])
    · rename_i hr
      rw [commanded hr]
      split
      · rename_i halted
        exact localHalt_halted (phase.trans halted) _
      · rename_i unhalted
        obtain ⟨halted, resume, applied⟩ := localHalt_unhalted (phase ▸ unhalted) (s.inputs.records[i]).mode
        exact ⟨halted, resume.trans phase, applied⟩
    · rename_i hr
      rw [commanded hr, ← queued, ← State.latchTaken_haltInput _ i]
      rfl
    · rename_i hr
      rw [commanded hr, ← queued]
      rfl
    · rename_i hr
      rw [commanded hr, ← queued]
      rfl

end Sys2Proof.Machine
end

section
/-! Proofs for 08_action_runners.md, part 1: what every task and every operation behind the commands leaves of a HALTED
station (R150, R162, R163): a runner that has stopped stays so while HALTED, and a unit has a pattern exactly while it has
a driver (`HaltKept`). -/

namespace Sys2Proof.Machine

/-! ## Stopped runners and driven units -/

/-- R150: the runner is IDLE with nothing waiting, and no unit is driven by it. -/
def State.IsStopped (s : State) (r : RunnerId) : Prop :=
  s.runner r = Runner.start ∧ ∀ u : UnitNo, s.pulse.units[u].driver ≠ some r

/-- R147, R156: a unit has a pattern exactly when it has a driver. -/
def Pulse.PatternsDriven (p : Pulse) : Prop := ∀ u : UnitNo, p.units[u].pattern.isSome = p.units[u].driver.isSome

/-- A station is sound at HALT by its phase, by each of its runners, and by its units. -/
theorem haltSound_iff (s : State) : HaltSound s ↔ (s.pulse.safe = true ↔ s.clock.phase = .halted) ∧
    (s.clock.phase = .halted → ∀ r, s.IsStopped r) ∧ s.pulse.PatternsDriven := by
  have undriven (driven : s.pulse.PatternsDriven) (u : UnitNo) :
      s.pulse.units[u].pattern = none ↔ ∀ r, s.pulse.units[u].driver ≠ some r := by
    rw [← Option.eq_none_iff_forall_ne_some, ← Option.not_isSome_iff_eq_none, ← Option.not_isSome_iff_eq_none, driven u]
  refine ⟨fun ⟨safe, stopped, driven⟩ => ⟨safe, fun hh r => ?_, driven⟩,
    fun ⟨safe, stopped, driven⟩ => ⟨safe, fun hh => ?_, driven⟩⟩
  · obtain ⟨a, b, patterns⟩ := stopped hh
    refine ⟨?_, fun u => (undriven driven u).mp (patterns u) r⟩
    cases r
    · exact a
    · exact b
  · have idle (r : RunnerId) : s.runner r = Runner.start := (stopped hh r).1
    exact ⟨idle .A, idle .B, fun u => (undriven driven u).mpr fun r => (stopped hh r).2 u⟩

/-! ## The pulse units' own operations (R147, R149, R156, R162, R163) -/

/-- Every unit has the pattern and the driver it had. -/
def Pulse.PatternsAs (p q : Pulse) : Prop :=
  ∀ u : UnitNo, q.units[u].pattern = p.units[u].pattern ∧ q.units[u].driver = p.units[u].driver

theorem Pulse.PatternsAs.driven {p q : Pulse} (h : p.PatternsAs q) (driven : p.PatternsDriven) : q.PatternsDriven :=
  fun u => by
    obtain ⟨pattern, driver⟩ := h u
    rw [pattern, driver]; exact driven u

theorem Pulse.retarget_patternsAs (p : Pulse) (began : Bool) : p.PatternsAs (p.retarget began) := fun u => by
  simp only [Pulse.retarget, Fin.getElem_fin, Vector.getElem_ofFn]
  split <;> exact ⟨rfl, rfl⟩

theorem Pulse.enterSafe_patternsAs (p : Pulse) : p.PatternsAs p.enterSafe := by
  unfold Pulse.enterSafe
  split
  · exact fun _ => ⟨rfl, rfl⟩
  · exact Pulse.retarget_patternsAs { p with safe := true } true

theorem Pulse.leaveSafe_patternsAs (p : Pulse) : p.PatternsAs p.leaveSafe := by
  unfold Pulse.leaveSafe
  split
  · exact Pulse.retarget_patternsAs { p with safe := false } false
  · exact fun _ => ⟨rfl, rfl⟩

/-- A change of one unit, its pattern and its driver again there together or gone together. -/
theorem Pulse.PatternsDriven.setUnit {p : Pulse} (driven : p.PatternsDriven) (u : UnitNo) {x : PulseUnit}
    (hx : x.pattern.isSome = x.driver.isSome) : Pulse.PatternsDriven { p with units := put p.units u x } := fun v => by
  show (put p.units u x)[v].pattern.isSome = (put p.units u x)[v].driver.isSome
  rw [put_get]
  split
  · exact hx
  · exact driven v

/-- R147: the unit that a runner takes is that runner's. -/
theorem Pulse.drive_driver (p : Pulse) (u v : UnitNo) (r : RunnerId) (t : Step) :
    (p.drive u r t).units[v].driver = if u = v then some r else p.units[v].driver := by
  show (put p.units u _)[v].driver = _
  rw [put_get]
  split <;> rfl

theorem Pulse.PatternsDriven.drive {p : Pulse} (driven : p.PatternsDriven) (u : UnitNo) (r : RunnerId) (t : Step) :
    (p.drive u r t).PatternsDriven := driven.setUnit u rfl

/-- R149, R150: the units that a runner drove have no driver once it has stopped. -/
theorem Pulse.stop_driver (p : Pulse) (r : RunnerId) (u : UnitNo) :
    (p.stop r).units[u].driver = if p.units[u].driver = some r then none else p.units[u].driver := by
  simp only [Pulse.stop, Fin.getElem_fin, Vector.getElem_ofFn]
  split <;> rfl

theorem Pulse.PatternsDriven.stop {p : Pulse} (driven : p.PatternsDriven) (r : RunnerId) : (p.stop r).PatternsDriven :=
  fun u => by
    simp only [Pulse.stop, Fin.getElem_fin, Vector.getElem_ofFn]
    split
    · rfl
    · exact driven u

/-! ## What keeps a HALTED station stopped -/

/-- A runner that plays a list has not stopped. -/
theorem Runner.ne_start {x : Runner} {c : Current} (hc : x.current = some c) : x ≠ Runner.start := fun e => by
  rw [e] at hc; cases hc

/-- Phase and safe state stand, units still have their patterns exactly while they are driven, and a runner stopped while
HALTED has stayed so. -/
structure HaltKept (s t : State) : Prop where
  phase : t.clock.phase = s.clock.phase
  safe : t.pulse.safe = s.pulse.safe
  driven : s.pulse.PatternsDriven → t.pulse.PatternsDriven
  stopped : ∀ r, s.clock.phase = .halted → s.IsStopped r → t.IsStopped r

theorem HaltSound.kept {s t : State} (h : HaltSound s) (k : HaltKept s t) : HaltSound t := by
  obtain ⟨safe, stopped, driven⟩ := (haltSound_iff s).mp h
  obtain ⟨phase', safe', driven', stopped'⟩ := k
  refine (haltSound_iff t).mpr ⟨by rw [safe', phase']; exact safe, fun hh r => ?_, driven' driven⟩
  rw [phase'] at hh
  exact stopped' r hh (stopped hh r)

namespace HaltKept

theorem refl (s : State) : HaltKept s s := ⟨rfl, rfl, id, fun _ _ => id⟩

section
variable {s t u : State} (h : HaltKept s t)
include h

theorem trans (k : HaltKept t u) : HaltKept s u :=
  ⟨k.phase.trans h.phase, k.safe.trans h.safe, fun d => k.driven (h.driven d),
    fun r hh hr => k.stopped r (h.phase.trans hh) (h.stopped r hh hr)⟩

/-- An update that leaves the phase, the runners, and the pulse units but for their lamps. -/
theorem same (phase : u.clock.phase = t.clock.phase) (runner : ∀ r, u.runner r = t.runner r)
    (safe : u.pulse.safe = t.pulse.safe) (patterns : t.pulse.PatternsAs u.pulse) : HaltKept s u :=
  h.trans ⟨phase, safe, patterns.driven, fun r _ ⟨idle, drives⟩ =>
    ⟨(runner r).trans idle, fun n => by rw [(patterns n).2]; exact drives n⟩⟩

/-- Clock and engine, line and picture do not bear on it but for the phase. -/
theorem of_pulse (phase : u.clock.phase = t.clock.phase) (runners : u.runners = t.runners) (pulse : u.pulse = t.pulse) :
    HaltKept s u :=
  h.same phase (fun r => by unfold State.runner; rw [runners]) (by rw [pulse]) fun _ => by rw [pulse]; exact ⟨rfl, rfl⟩

theorem reports (k : OnlyReports t u) : HaltKept s u := h.of_pulse (by rw [k]) (by rw [k]) (by rw [k])

theorem raiseChange : HaltKept s t.raiseChange := h.reports (onlyReports_raiseChange t)

theorem createEvent (k : EventKind) (f : Option FixtureNo) (r : Robot) (side : Side) (v : Nat) :
    HaltKept s (t.createEvent k f r side v) := h.reports (onlyReports_createEvent t k f r side v)

theorem setFixture (f : FixtureNo) (x : Fixture) : HaltKept s (t.setFixture f x) := h.of_pulse rfl rfl rfl

theorem setClaims (f : FixtureNo) (c : Claims) : HaltKept s (t.setClaims f c) := h.setFixture f _

theorem setFixtureState (f : FixtureNo) (st : FixtureState) : HaltKept s (t.setFixtureState f st) := h.setFixture f _

theorem makeHoldOff (r : Robot) (f : FixtureNo) : HaltKept s (t.makeHoldOff r f) :=
  h.of_pulse (by simp) (by simp) (by simp)

theorem handOver (f : FixtureNo) (i : Indicator) : HaltKept s (t.handOver f i) :=
  h.same (by simp) (fun _ => by simp [State.runner]) (by simp)
    fun n => ⟨t.handOver_pattern f i n, t.handOver_driver f i n⟩

theorem refreshIndicator (f : FixtureNo) : HaltKept s (t.refreshIndicator f) :=
  h.same (by simp) (fun _ => by simp [State.runner]) (by simp)
    fun n => ⟨t.refreshIndicator_pattern f n, t.refreshIndicator_driver f n⟩

theorem startTransient (f : FixtureNo) (x : Transient) : HaltKept s (t.startTransient f x) :=
  (h.setFixture f _).refreshIndicator f

theorem setRunnerFault : HaltKept s t.setRunnerFault := by
  have set : HaltKept s { t with runners := { t.runners with fault := true } } :=
    h.same rfl (fun r => by cases r <;> rfl) rfl fun _ => ⟨rfl, rfl⟩
  unfold State.setRunnerFault
  dsimp only
  split
  · exact set
  · exact set.raiseChange

/-- A runner goes on, but not one that is to stay stopped. -/
theorem setRunner (q : RunnerId) {x : Runner}
    (stays : t.clock.phase = .halted → t.runner q = Runner.start → x = Runner.start) : HaltKept s (t.setRunner q x) := by
  refine h.trans ⟨by simp, by simp, by simp, fun r hh ⟨idle, drives⟩ => ⟨?_, by simpa using drives⟩⟩
  rw [State.setRunner_runner]
  split
  · rename_i e; subst e; exact stays hh idle
  · exact idle

/-- The pulse units change, but no unit comes to a runner that is to stay stopped. -/
theorem setPulse {p : Pulse} (safe : p.safe = t.pulse.safe) (driven : t.pulse.PatternsDriven → p.PatternsDriven)
    (drivers : ∀ r, t.runner r = Runner.start → ∀ n : UnitNo, p.units[n].driver = some r →
      t.pulse.units[n].driver = some r) : HaltKept s { t with pulse := p } :=
  h.trans ⟨rfl, safe, driven, fun r _ ⟨idle, drives⟩ => ⟨idle, fun n e => drives n (drivers r idle n e)⟩⟩

theorem stop (r : RunnerId) : HaltKept s { t with pulse := t.pulse.stop r } :=
  h.setPulse rfl (·.stop r) fun q _ n e => by
    rw [Pulse.stop_driver] at e
    split at e
    · cases e
    · exact e

/-! ### The runners' tasks (R141–R149) -/

theorem issue {r : RunnerId} (busy : t.runner r ≠ Runner.start) (n : UnitNo) (x : Step) :
    HaltKept s (issue t r n x).1 := by
  have driven : HaltKept s { t with pulse := t.pulse.drive n r x } :=
    h.setPulse rfl (·.drive n r x) fun q idle m e => by
      rw [Pulse.drive_driver] at e
      split at e
      · cases e; exact absurd idle busy
      · exact e
  unfold Machine.issue
  dsimp only
  split <;> exact driven.setRunner r fun _ idle => absurd idle busy

theorem abortAt {r : RunnerId} (busy : t.runner r ≠ Runner.start) (i : StepNo) : HaltKept s (abortAt t r i).1 :=
  (h.stop r).setRunner r fun _ idle => absurd idle busy

theorem performStart (r : RunnerId) (x : Start) : HaltKept s (performStart t r x).1 := by
  unfold Machine.performStart
  dsimp only
  split
  · exact h
  · rename_i unhalted
    split
    · exact h.setRunner r fun halted => absurd halted unhalted
    all_goals
      split
      · exact h.setRunner r fun halted => absurd halted unhalted
      · exact h.createEvent _ _ _ _ _

theorem performArrive (r : RunnerId) : HaltKept s (performArrive t r).1 := by
  unfold Machine.performArrive
  dsimp only
  split
  · exact h
  · rename_i hc
    have busy := Runner.ne_start hc
    split
    · exact h.abortAt busy _
    · split
      · exact h.setRunner r fun _ idle => absurd idle busy
      · split
        · exact h.issue busy _ _
        · exact h.setRunner r fun _ idle => absurd idle busy

theorem performMoveOn (r : RunnerId) : HaltKept s (performMoveOn t r).1 := by
  unfold Machine.performMoveOn
  dsimp only
  split
  · exact h
  · rename_i hc
    have busy := Runner.ne_start hc
    split
    · split <;> exact h.setRunner r fun _ idle => absurd idle busy
    · split
      · exact h.setRunner r fun _ idle => absurd idle busy
      · exact h.abortAt busy _

theorem performUnitFreed (n : UnitNo) : HaltKept s (performUnitFreed t n).1 := by
  unfold Machine.performUnitFreed
  split
  · exact h
  · split
    · exact h
    · split
      · exact h
      · rename_i hc
        exact h.issue (Runner.ne_start hc) n _

theorem performAbortTail (r : RunnerId) (i : StepNo) : HaltKept s (performAbortTail t r i).1 := by
  unfold Machine.performAbortTail
  split
  · exact h
  · exact (h.createEvent _ _ _ _ _).setRunnerFault

theorem performNextList (r : RunnerId) : HaltKept s (performNextList t r).1 := by
  unfold Machine.performNextList
  dsimp only
  split
  · exact h.setRunner r fun _ idle => by rw [idle]; rfl
  · rename_i hq
    exact h.setRunner r fun _ idle => by rw [idle] at hq; cases hq

/-! ### The tasks at a hold (R27, R34–R36, R40–R42) -/

theorem performReport (f : FixtureNo) (r : Report) : HaltKept s (performReport t f r).1 := by
  have ends (cause : ReleaseCause) : HaltKept s (endDispense t f cause).1 := by
    unfold endDispense
    dsimp only
    split <;> exact h.setClaims f _
  unfold Machine.performReport
  dsimp only
  split
  · exact h
  · split
    · exact h.setClaims f _
    · exact h
    all_goals exact ends _

theorem performRelease (f : FixtureNo) (cause : ReleaseCause) : HaltKept s (performRelease t f cause).1 := by
  unfold Machine.performRelease
  dsimp only
  split
  · exact h.setFixture f _
  · exact h

theorem performReleaseTail (f : FixtureNo) (robot : Robot) (side : Side) (cause : ReleaseCause) :
    HaltKept s (performReleaseTail t f robot side cause).1 := by
  have sent := (h.createEvent (.release cause) (some f) robot side ((t.fixture f).eventValue side)).raiseChange
  unfold Machine.performReleaseTail
  dsimp only
  split
  · exact sent.makeHoldOff robot f
  · exact sent

theorem performPromote (f : FixtureNo) : HaltKept s (performPromote t f).1 := by
  unfold Machine.performPromote
  dsimp only
  split
  · exact h
  · split
    · exact (h.setFixtureState f _).refreshIndicator f
    · split
      · exact (h.setClaims f _).makeHoldOff _ f
      · exact h.setClaims f _

theorem performGrant (f : FixtureNo) (robot : Robot) (side : Side) (seen age : Nat) :
    HaltKept s (performGrant t f robot side seen age).1 := by
  unfold Machine.performGrant
  dsimp only
  split
  · exact h
  · exact ((h.setFixture f _).createEvent _ _ _ _ _).raiseChange.refreshIndicator f

theorem performPhaseRelease (f : FixtureNo) : HaltKept s (performPhaseRelease t f).1 := by
  unfold Machine.performPhaseRelease
  dsimp only
  split
  · exact h.setFixture f _
  · exact h

theorem performPhaseTail (f : FixtureNo) (robot : Robot) (side : Side) :
    HaltKept s (performPhaseTail t f robot side).1 :=
  ((h.createEvent _ _ _ _ _).setClaims f _).raiseChange.refreshIndicator f

theorem perform (x : Task) : HaltKept s (perform t x).1 := by
  cases x with
  | arrive r => exact h.performArrive r
  | moveOn r => exact h.performMoveOn r
  | unitFreed n => exact h.performUnitFreed n
  | abortTail r i => exact h.performAbortTail r i
  | nextList r => exact h.performNextList r
  | start r x => exact h.performStart r x
  | report f r => exact h.performReport f r
  | release f cause => exact h.performRelease f cause
  | releaseTail f robot side cause => exact h.performReleaseTail f robot side cause
  | promote f => exact h.performPromote f
  | grant f robot side seen age => exact h.performGrant f robot side seen age
  | phaseRelease f => exact h.performPhaseRelease f
  | phaseTail f robot side => exact h.performPhaseTail f robot side

theorem settle (ts : List Task) : HaltKept s (settle t ts) := settle_keeps (HaltKept s) (fun _ x hu => hu.perform x) t ts h

end

end HaltKept

end Sys2Proof.Machine
end

section
/-! Proofs for 08_action_runners.md, part 2: O11 settled. Between the changes of phase every operation behind the commands
keeps a HALTED station stopped (`HaltKept`); a change of phase stops both runners where it leads to HALTED, and lets the
safe state stand exactly there. -/

namespace Sys2Proof.Machine

namespace HaltKept

section
variable {s t : State} (h : HaltKept s t)
include h

/-- R29, R144, R157: time stands still for a stopped runner, and ends no pattern. -/
theorem advance (d : Nat) : HaltKept s (t.advance d) := by
  cases hrun : t.running with
  | false => rw [t.advance_stopped d hrun]; exact h
  | true =>
    have pulse : (t.advance d).pulse = t.pulse.advance d := by rw [t.advance_running d hrun]
    refine h.trans ⟨by simp, by simp, fun driven u => ?_, fun r _ ⟨idle, drives⟩ => ⟨?_, fun u => ?_⟩⟩
    · simpa [pulse, Pulse.advance, PulseUnit.advance] using driven u
    · rw [State.advance_runner t d hrun, idle]; rfl
    · simpa [pulse, Pulse.advance, PulseUnit.advance] using drives u

/-! ### Notices to the fixtures (R5–R7) -/

theorem claimNotice (f : FixtureNo) (c : FixtureConfig) (new : Phase) : HaltKept s (claimNotice t f c new) := by
  unfold Machine.claimNotice
  split
  · exact (h.setFixtureState f _).raiseChange
  · exact (h.setFixtureState f _).raiseChange
  · exact h.settle _
  · exact h

theorem zoneNotice (f : FixtureNo) (c : FixtureConfig) (new : Phase) : HaltKept s (zoneNotice t f c new) := by
  unfold Machine.zoneNotice
  dsimp only
  split
  · exact (h.setFixture f _).raiseChange
  · exact (h.setFixture f _).raiseChange
  · exact h

theorem goalNotice (f : FixtureNo) (c : FixtureConfig) (grace : Nat) (old new : Phase) :
    HaltKept s (goalNotice t f c grace old new) := by
  unfold Machine.goalNotice
  dsimp only
  split
  · exact (h.setFixtureState f _).raiseChange
  · split
    · exact (h.setFixtureState f _).raiseChange
    · exact (h.setFixture f _).raiseChange
  · exact h

theorem fixtureNotice (old new : Phase) (f : FixtureNo) : HaltKept s (fixtureNotice old new t f) := by
  refine HaltKept.refreshIndicator ?_ f
  split
  · exact h
  · split
    · exact h
    · split
      · exact h.claimNotice f _ new
      · exact h.claimNotice f _ new
      · exact h.zoneNotice f _ new
      · exact h.goalNotice f _ _ old new

/-! ### Ticks and refills (R30, R39, R48, R54) -/

theorem zoneTick (f : FixtureNo) (c : FixtureConfig) (cmax rateCap : Nat) :
    HaltKept s (zoneTick t f c cmax rateCap) := by
  have handed (z w : Control) {v : State} (hv : HaltKept s v) : HaltKept s (zoneHandsOn v f z w) := by
    unfold zoneHandsOn
    split
    · exact (hv.createEvent _ _ _ _ _).raiseChange
    · split
      · exact hv.raiseChange
      · exact hv
  rw [zoneTick_eq]
  exact ((handed _ _ (h.setFixture f _)).refreshIndicator f).settle _

theorem fixtureTick (f : FixtureNo) : HaltKept s (fixtureTick t f) := by
  unfold Machine.fixtureTick
  dsimp only
  split
  · exact h
  · split
    · exact h
    · split
      · unfold gateTick
        dsimp only
        split
        · exact h.setClaims f _
        · exact h
      · unfold dispenserTick
        dsimp only
        split
        · exact h.setClaims f _
        · exact h
      · split
        · exact h.zoneTick f _ _ _
        · exact h
      · exact h

theorem refill (f : FixtureNo) : HaltKept s (refillFixture f t) := by
  unfold refillFixture
  dsimp only
  split
  · exact h
  · split
    · exact h.setClaims f _
    all_goals exact h

/-! ### Goals and inputs (R57–R69, R127) -/

theorem endGrace (f : FixtureNo) : HaltKept s (endGrace f t) := by
  unfold Machine.endGrace
  dsimp only
  split
  · exact h
  · split
    · exact h.setFixture f _
    · exact (h.setFixture f _).raiseChange.refreshIndicator f

theorem jam (f : FixtureNo) : HaltKept s (jamGoal f t) :=
  ((h.setFixture f _).createEvent _ _ _ _ _).raiseChange.refreshIndicator f

theorem unjam (f : FixtureNo) : HaltKept s (unjamGoal f t) := by
  unfold unjamGoal
  dsimp only
  split
  · exact h
  · exact ((h.setFixture f _).createEvent _ _ _ _ _).raiseChange.refreshIndicator f

theorem takePiece (f : FixtureNo) : HaltKept s (takePiece t f) := by
  have counted (c : FixtureConfig) (rule : Option CreditRule) (values : PerPhase) (phase : Phase) :
      HaltKept s (countPiece t f c rule values phase) := by
    have scored : HaltKept s (t.scored f (t.creditSide c rule) (values.get phase)) := h.of_pulse rfl rfl rfl
    exact ((scored.createEvent _ _ _ _ _).raiseChange.startTransient f _).settle _
  unfold Machine.takePiece
  dsimp only
  split
  · exact h
  · split
    · split
      · exact h
      · split
        · exact counted _ _ _ _
        · split
          · exact counted _ _ _ _
          · exact h
        all_goals exact h
    all_goals exact h

theorem sampleRecords (pins : BitVec 12) (sample : Input → Bool → Input) :
    HaltKept s (sampleRecords t pins sample) := by
  unfold Machine.sampleRecords
  dsimp only
  split
  · exact h.of_pulse rfl rfl rfl
  · exact HaltKept.raiseChange (by exact h.of_pulse rfl rfl rfl)

/-! ### Sightings (R23, R24, R33, R78) -/

theorem dropQueued (f : FixtureNo) (r : Robot) : HaltKept s (dropQueued t f r) := (h.setClaims f _).makeHoldOff r f

theorem takeRequest (f : FixtureNo) (c : FixtureConfig) (r : Robot) : HaltKept s (takeRequest t f c r) := by
  unfold Machine.takeRequest
  split
  · exact h
  · exact h
  · exact (h.makeHoldOff r f).startTransient f _
  · exact h.settle _
  · exact h.setClaims f _

theorem takeRelease (f : FixtureNo) (c : FixtureConfig) (r : Robot) : HaltKept s (takeRelease t f c r) := by
  unfold Machine.takeRelease
  dsimp only
  split
  · split
    · exact h.settle _
    all_goals exact h
  · split
    · exact h.dropQueued f r
    · exact h

theorem sighting (p : PortNo) (r : Robot) (i : Intent) : HaltKept s (sightingAtFixture t p r i) := by
  unfold sightingAtFixture
  split
  · exact h
  · split
    · exact h
    · split
      · exact h
      · have seen := h.setClaims ‹FixtureNo› ((t.fixture ‹FixtureNo›).claims.refresh r t.nowMs)
        cases i with
        | present => exact seen
        | request => exact seen.takeRequest _ _ r
        | release => exact seen.takeRelease _ _ r

/-! ### Patterns and lamps (R145, R157, R166) -/

/-- A unit changes, its pattern and its driver again there together or gone together, and not taken by another runner. -/
theorem setUnit (n : UnitNo) {x : PulseUnit}
    (driven : t.pulse.units[n].pattern.isSome = t.pulse.units[n].driver.isSome → x.pattern.isSome = x.driver.isSome)
    (driver : ∀ r, x.driver = some r → t.pulse.units[n].driver = some r) : HaltKept s (t.setUnit n x) := by
  refine h.setPulse rfl (fun hd => hd.setUnit n (driven (hd n))) fun r _ m e => ?_
  rw [put_get] at e
  split at e
  · rename_i same; subst same; exact driver r e
  · exact e

theorem endPattern (n : UnitNo) : HaltKept s (endPatternPhase n t) := by
  unfold endPatternPhase
  split
  · exact h
  · rename_i p hp
    split
    · exact h.setUnit n (fun hd => by rw [← hd, hp]; rfl) fun _ e => e
    · have freed : HaltKept s (t.setUnit n t.pulse.units[n].released) :=
        h.setUnit n (fun _ => rfl) fun _ e => nomatch e
      unfold Machine.endPattern
      dsimp only
      split
      · exact freed
      · exact freed.settle _

theorem endLamp (n : UnitNo) : HaltKept s (endLampPhase n t) := h.setUnit n id fun _ e => e

end

end HaltKept

/-! ## The runners' stop (R150, R151) -/

theorem HaltKept.haltRunner {s t : State} (h : HaltKept s t) (r : RunnerId) : HaltKept s (haltRunner t r) :=
  ((h.stop r).setRunner r fun _ _ => rfl).settle _

/-- R150: a runner stopped while HALTED plays no list and drives no unit. -/
theorem isStopped_haltRunner {s : State} (hh : s.clock.phase = .halted) (r : RunnerId) :
    (haltRunner s r).IsStopped r := by
  have stopped : (s.stopped r).IsStopped r := by
    refine ⟨by rw [State.stopped_runner, if_pos rfl], fun u => ?_⟩
    unfold State.stopped
    rw [State.setRunner_pulse, Pulse.stop_driver]
    split
    · nofun
    · assumption
  rw [haltRunner_eq]
  exact ((HaltKept.refl (s.stopped r)).settle (s.stopReports r)).stopped r (by rwa [State.stopped_clock]) stopped

theorem isStopped_haltRunners {s : State} (hh : s.clock.phase = .halted) (r : RunnerId) :
    (haltRunners s).IsStopped r := by
  have hA : (Machine.haltRunner s .A).clock.phase = .halted := by rwa [haltRunner_clock]
  unfold haltRunners
  cases r with
  | A => exact ((HaltKept.refl _).haltRunner .B).stopped .A hA (isStopped_haltRunner hh .A)
  | B => exact isStopped_haltRunner hA .B

/-! ## Changes of phase (R92–R96, R104) -/

/-- R162, R163: with a notice the safe state comes to stand exactly where the phase is HALTED, whatever stood before. -/
theorem haltSound_announce {s : State} (driven : s.pulse.PatternsDriven) (old : Phase) : HaltSound (announce s old) := by
  have noticed : HaltKept s (fixtureNumbers.foldl (fixtureNotice old s.clock.phase) s) :=
    List.foldlRecOn fixtureNumbers _ (motive := HaltKept s) (.refl s) fun _ hu f _ => hu.fixtureNotice _ _ f
  unfold announce
  dsimp only
  generalize fixtureNumbers.foldl (fixtureNotice old s.clock.phase) s = u at noticed ⊢
  refine HaltSound.kept ((haltSound_iff _).mpr ?_) (HaltKept.refl _).raiseChange
  by_cases hh : s.clock.phase = .halted
  · have stopped := isStopped_haltRunners (noticed.phase.trans hh)
    have kept : HaltKept s (haltRunners u) := (noticed.haltRunner .A).haltRunner .B
    simp only [if_pos hh]
    generalize haltRunners u = v at stopped kept ⊢
    have safe := v.pulse.enterSafe_patternsAs
    refine ⟨?_, fun _ r => ⟨(stopped r).1, fun n => ?_⟩, safe.driven (kept.driven driven)⟩
    · simp [kept.phase, hh]
    · rw [(safe n).2]; exact (stopped r).2 n
  · simp only [if_neg hh]
    exact ⟨by simp [noticed.phase, hh], fun e => absurd (noticed.phase.symm.trans e) hh,
      u.pulse.leaveSafe_patternsAs.driven (noticed.driven driven)⟩

theorem haltSound_changePhase {s : State} (driven : s.pulse.PatternsDriven) (new : Phase) :
    HaltSound (changePhase s new) := haltSound_announce (s := { s with clock := { s.clock with phase := new } }) driven _

theorem HaltSound.driven {s : State} (h : HaltSound s) : s.pulse.PatternsDriven :=
  have ⟨_, _, driven⟩ := h
  driven

theorem haltSound_lateJoin {s : State} (h : HaltSound s) (row : PeerRow) : HaltSound (lateJoin s row) := by
  have joined (c : Clock) : HaltSound (changePhase { s with clock := c } row.phase) :=
    haltSound_changePhase (s := { s with clock := c }) h.driven _
  unfold lateJoin
  split
  · exact joined _
  · exact h

/-- R95, R163: CLEAR ends in IDLE, the safe state gone. -/
theorem haltSound_applyClear {s : State} (h : HaltSound s) : HaltSound (applyClear s) := by
  have cleared : HaltKept s.fixturesCleared (haltRunners (fixtureNumbers.foldl State.refreshIndicator s.fixturesCleared)) :=
    ((List.foldlRecOn fixtureNumbers _ (motive := HaltKept s.fixturesCleared) (.refl _)
      fun _ hu f _ => hu.refreshIndicator f).haltRunner .A).haltRunner .B
  rw [applyClear_eq]
  generalize haltRunners _ = u at cleared ⊢
  have idle : u.clearEnded.clock.phase = .idle := by rw [State.clearEnded_clock, cleared.phase]; rfl
  have pulse : u.clearEnded.pulse = u.pulse.leaveSafe := by unfold State.clearEnded; rw [State.raiseChange_pulse]
  refine (haltSound_iff _).mpr ⟨by rw [idle, pulse]; simp, fun e => ?_, ?_⟩
  · rw [idle] at e; cases e
  · rw [pulse]; exact u.pulse.leaveSafe_patternsAs.driven (cleared.driven h.driven)

/-! ## Every step (O11) -/

theorem kept_haltSound : Kept HaltSound where
  pending _ h := h
  advance d h := h.kept ((HaltKept.refl _).advance d)
  reporting _ _ h := h
  setPort _ _ h := h
  clock _ phase _ _ _ h := h.kept ((HaltKept.refl _).of_pulse phase rfl rfl)
  sighting p r i h := h.kept ((HaltKept.refl _).sighting p r i)
  dropHoldOff _ _ h := h
  dropQueued f r h := h.kept ((HaltKept.refl _).dropQueued f r)
  release _ _ h := h.kept ((HaltKept.refl _).settle _)
  moveOn _ h := h.kept ((HaltKept.refl _).settle _)
  fixtureTick f h := h.kept ((HaltKept.refl _).fixtureTick f)
  refill f h := h.kept ((HaltKept.refl _).refill f)
  endGrace f _ h := h.kept ((HaltKept.refl _).endGrace f)
  jam f _ h := h.kept ((HaltKept.refl _).jam f)
  unjam f _ h := h.kept ((HaltKept.refl _).unjam f)
  endTransient f h := h.kept (((HaltKept.refl _).setFixture f _).refreshIndicator f)
  sample pins h := h.kept ((HaltKept.refl _).sampleRecords pins _)
  latch _ h := h
  piece f h := h.kept ((HaltKept.refl _).takePiece f)
  start {s} _ h := haltSound_changePhase (s := s.startBegun) h.driven _
  halt {s} _ h := haltSound_changePhase (s := { s with clock := { s.clock with resume := s.clock.phase } }) h.driven _
  resume _ h := haltSound_changePhase h.driven _
  clear _ h := haltSound_applyClear h
  nextPhase h := haltSound_changePhase h.driven _
  join row h := haltSound_lateJoin h row
  endPattern u h := h.kept ((HaltKept.refl _).endPattern u)
  endLamp u h := h.kept ((HaltKept.refl _).endLamp u)

/-- R167, R187: a station that starts is not HALTED, and its units have neither pattern nor driver. -/
theorem haltSound_of_start {s : State} (phase : s.clock.phase = .idle) (safe : s.pulse.safe = false)
    (units : ∀ u : UnitNo, s.pulse.units[u].pattern = none ∧ s.pulse.units[u].driver = none) : HaltSound s := by
  refine (haltSound_iff s).mpr ⟨by simp [phase, safe], fun e => ?_, fun u => ?_⟩
  · rw [phase] at e; cases e
  · obtain ⟨pattern, driver⟩ := units u
    rw [pattern, driver]; rfl

theorem haltSound_restart (s : State) (l : Loader) : HaltSound (State.restart s l) :=
  haltSound_of_start rfl rfl fun u => by
    simp [State.restart, State.reset, Pulse.start, PulseUnit.start]

/-- R167: the script gives no unit a pattern. -/
theorem readUnits_undriven (body : Option (List Byte)) (pairs : Vector Pair 4) (u : UnitNo) :
    ((readUnits body pairs)[u]).pattern = none ∧ ((readUnits body pairs)[u]).driver = none := by
  simp only [readUnits, Fin.getElem_fin, Vector.getElem_ofFn]
  cases body <;> exact ⟨rfl, rfl⟩

/-- R194: nor has one that has just been configured. -/
theorem haltSound_configured (s : State) (records : List Record) (dominant : Nat) :
    HaltSound (showIndicators (State.configure s (readScript records) dominant)) := by
  have configured : HaltSound (State.configure s (readScript records) dominant) :=
    haltSound_of_start rfl rfl (readUnits_undriven _ _)
  exact configured.kept (List.foldlRecOn fixtureNumbers _ (motive := HaltKept _) (.refl _)
    fun _ hu f _ => hu.handOver f _)

/-- Settles O11: a change of phase makes the station sound (`haltSound_announce`), CLEAR ends in IDLE, and everything else
keeps what HALT has stopped (`HaltKept`). -/
theorem haltStaysSafe : Obligations.HaltStaysSafe := by
  unfold Obligations.HaltStaysSafe
  intro s t
  exact kept_haltSound.step haltSound_restart fun s records dominant pins =>
    (haltSound_configured s records dominant).kept ((HaltKept.refl _).sampleRecords pins _)

end Sys2Proof.Machine
end

section
/-! Proofs for 08_action_runners.md, part 3: O52 settled. A runner whose delay is over ends its list, or arrives at the next
step; the end of a DISPENSER's grant list is a release with cause DONE (`holdEnded_done`). -/

namespace Sys2Proof.Machine

/-! ## A delay step after another (R142–R144) -/

/-- R144: a runner that arrives at a delay step times it. -/
theorem performArrive_delay {s : State} {r : RunnerId} {x : Current} (hcur : (s.runner r).current = some x)
    (hunit : (s.runners.store[x.index]).unit = none) :
    performArrive s r = (s.setRunner r { s.runner r with mode := .delay (s.runners.store[x.index]).delayTime }, []) := by
  simp only [performArrive, hcur, Pulse.stepError, hunit, Bool.false_eq_true, if_false]

/-- R143, R144: a runner moves on to a delay step. -/
theorem settle_moveOn_delay {u : State} {r : RunnerId} {x : Current} {i : StepNo}
    (hcur : (u.runner r).current = some x) (hlast : (u.runners.store[x.index]).last = false)
    (hi : i.val = x.index.val + 1) (hunit : (u.runners.store[i]).unit = none) : settle u [.moveOn r] =
      u.setRunner r ⟨.delay (u.runners.store[i]).delayTime, some ⟨x.start, i⟩, (u.runner r).queue⟩ := by
  let v := u.setRunner r ⟨.draining, some ⟨x.start, i⟩, (u.runner r).queue⟩
  have moved : perform u (.moveOn r) = (v, [.arrive r]) := performMoveOn_next hcur hlast hi
  have arrived : perform v (.arrive r) = (u.setRunner r
      ⟨.delay (u.runners.store[i]).delayTime, some ⟨x.start, i⟩, (u.runner r).queue⟩, []) := by
    have := performArrive_delay (s := v) (r := r) (x := ⟨x.start, i⟩) (by simp [v]) (by simpa [v] using hunit)
    simpa [perform, v] using this
  calc settle u [.moveOn r]
      = settle v [.arrive r] := settle_step moved []
    _ = settle _ [] := settle_step arrived []
    _ = _ := settle_nil _

/-! ## The end of a list without a hold (R143, R146, R152) -/

/-- R146, R152: the end of a release or change list is reported to nobody; with nothing queued the runner is IDLE. -/
theorem settle_moveOn_ended {u : State} {r : RunnerId} {x : Current} (hcur : (u.runner r).current = some x)
    (hlast : (u.runners.store[x.index]).last = true) (hdriven : u.pulse.drivenBy r = [])
    (hqueue : (u.runner r).queue = []) (hpurpose : x.start.purpose ≠ .grant) :
    settle u [.moveOn r] = u.setRunner r Runner.start := by
  have unreported : completeTasks r x = [.nextList r] := by
    cases hp : x.start.purpose with
    | grant => exact absurd hp hpurpose
    | release => simp [completeTasks, Start.reportTask, hp]
    | change => simp [completeTasks, Start.reportTask, hp]
  have moved := settle_step (t := .moveOn r) (performMoveOn_last hcur hlast hdriven) []
  rw [moved, unreported]
  refine (settle_nextList ?_ []).trans (settle_nil _)
  simp [nextTaken, hqueue]

/-! ## The end of a DISPENSER's grant list (R34, R35, R41) -/

/-- R42: only an ABORTED dispense is refunded. -/
theorem refunded_done (params : KindParams) (a : PerSide) (side : Side) : refunded params a side .done = a := by
  cases params <;> rfl

/-- R34, R35, R41: a DISPENSER's hold that ends with DONE, with nobody waiting and no on-release list: FREE without a
refund, RELEASE and then the CHANGE request, and the hold-off entry. -/
theorem holdEnded_done {c : FixtureConfig} (hk : c.kind = .dispenser) (hlist : c.secondList = none) {v : State}
    {f : FixtureNo} (h : Holder) (hqueue : (v.fixture f).claims.queue = []) :
    ∃ e, holdEnded v f c h .done = some e ∧ (e.fixture f).state = .free ∧
      (e.fixture f).claims = { (v.fixture f).claims with holder := none } ∧
      e.engine.holdOff = (v.makeHoldOff h.robot f).engine.holdOff ∧
      ReportsAs (v.createEvent (.release .done) (some f) h.robot h.side
        ((v.fixture f).claims.allowance.get h.side)).raiseChange e ∧ RestAs v e f := by
  obtain ⟨e, he, state, claims, -, reports, rest, holdOff⟩ := promoted_free (v.released f c h .done) f c
  have value : releaseValue v f c h.side .done = (v.fixture f).claims.allowance.get h.side := by
    rw [releaseValue, if_pos hk, refunded_done]
  have sent := v.released_reportsAs f c h .done
  rw [value] at sent
  refine ⟨e, by rw [holdEnded_noList hlist, hqueue]; exact he, state, ?_,
    holdOff.trans (v.released_holdsOffAs f c h .done).holdOff, sent.trans reports,
    (v.released_restAs f c h .done).trans rest⟩
  rw [claims, State.released_fixture, refunded_done, ← hqueue]

/-- R41, R146: a runner moves on from the last step of a DISPENSER's one grant list. -/
theorem settle_moveOn_dispensed {u : State} {r : RunnerId} {x : Current} {f : FixtureNo} {c : FixtureConfig} {h : Holder}
    (hcur : (u.runner r).current = some x) (hlast : (u.runners.store[x.index]).last = true)
    (hdriven : u.pulse.drivenBy r = []) (hqueue : (u.runner r).queue = []) (hpurpose : x.start.purpose = .grant)
    (hf : x.start.fixture = f) (hc : (u.fixture f).config = some c) (hk : c.kind = .dispenser)
    (hsecond : c.secondList = none) (hheld : (u.fixture f).state = .held) (hh : (u.fixture f).claims.holder = some h)
    (hwaiting : (u.fixture f).claims.queue = []) (hone : (u.fixture f).claims.inFlight = 1) :
    let t := settle u [.moveOn r]
    let told := (u.createEvent (.release .done) (some f) h.robot h.side
      ((u.fixture f).claims.allowance.get h.side)).raiseChange
    (t.fixture f).state = .free ∧ (t.fixture f).claims = { (u.fixture f).claims with holder := none, inFlight := 0 } ∧
      t.engine.holdOff = (u.makeHoldOff h.robot f).engine.holdOff ∧ t.line = told.line ∧ t.picture = told.picture ∧
      t.runner r = Runner.start ∧ (∀ q, q ≠ r → t.runner q = u.runner q) ∧ (∀ g, g ≠ f → t.fixture g = u.fixture g) ∧
      t.clock = u.clock ∧ t.engine.points = u.engine.points := by
  intro t told
  let m := u.setRunner r ⟨.draining, some x, (u.runner r).queue⟩
  let v := m.setClaims f { (u.fixture f).claims with inFlight := 0 }
  have vclaims : (v.fixture f).claims = { (u.fixture f).claims with inFlight := 0 } := by simp [v]
  have vreports : ReportsAs u v := (reportsAs_setRunner u r _).trans (reportsAs_setFixture m f _)
  have vholdOff : HoldsOffAs u v := ⟨by simp [v, m], by simp [v, m], by simp [v, m]⟩
  obtain ⟨e, hend, state, claims, holdOff, reports, others, points, -, -, -, -, clock, -, runners, -⟩ :=
    holdEnded_done hk hsecond h (v := v) (by rw [vclaims]; exact hwaiting)
  rw [vclaims] at claims reports
  have sent := ((vreports.createEvent (.release .done) (some f) h.robot h.side
    ((u.fixture f).claims.allowance.get h.side)).raiseChange).trans reports
  have erunner (q : RunnerId) : e.runner q = m.runner q := by unfold State.runner; rw [runners]; rfl
  have next : nextTaken e r = some (e.setRunner r Runner.start) := by
    simp [nextTaken, erunner, m, hqueue]
  have ended : t = e.setRunner r Runner.start :=
    settle_moveOn_done hcur hdriven hpurpose hf hc hk hheld hh rfl rfl hone hlast hend next
  rw [ended]
  refine ⟨by simpa using state, by simpa using claims, ?_, (State.setRunner_line e r _).trans sent.line,
    (State.setRunner_picture e r _).trans sent.picture,
    State.setRunner_runner_same _ r _, fun q hq => ?_, fun g hg => ?_, ?_, ?_⟩
  · rw [State.setRunner_engine, holdOff, (vholdOff.makeHoldOff h.robot f).holdOff]
  · rw [State.setRunner_runner, if_neg (Ne.symm hq), erunner, State.setRunner_runner, if_neg (Ne.symm hq)]
  · rw [State.setRunner_fixture, others g hg]
    simp [v, m, Ne.symm hg]
  · rw [State.setRunner_clock, clock]
    simp [v, m]
  · rw [State.setRunner_engine, points]
    simp [v, m]

/-! ## The statement -/

/-- Settles O52, by the three ways in which a runner moves on from a delay step. -/
theorem delayEndMovesOn : Obligations.DelayEndMovesOn := by
  unfold Obligations.DelayEndMovesOn
  intro s r left x hrun hmode hcur
  have exec_eq := exec_delayEnd hmode
  have now := s.advance_now left hrun
  have runner := s.advance_runner left hrun r
  have queue : ((s.advance left).runner r).queue = (s.runner r).queue := by rw [runner, Runner.advance_queue]
  have current : ((s.advance left).runner r).current = some x := by rw [runner, Runner.advance_current, hcur]
  have store : (s.advance left).runners.store = s.runners.store := s.advance_store left
  have driven := s.advance_drivenBy left r
  refine ⟨fun hlast hdriven hqueue hpurpose => ?_, fun i hlast hi hunit => ?_,
    fun f c h hlast hdriven hqueue hpurpose hf hc hk hsecond hheld hh hwaiting hone => ?_⟩
  · have ended := settle_moveOn_ended current (by rwa [store]) (driven.trans hdriven) (queue.trans hqueue) hpurpose
    exact ⟨_, exec_eq.trans (congrArg _ ended), by rw [State.setRunner_now, now], by simp, by simp⟩
  · have timed := settle_moveOn_delay current (by rwa [store]) hi (by rwa [store])
    rw [store, queue] at timed
    exact ⟨_, exec_eq.trans (congrArg _ timed), by rw [State.setRunner_now, now],
      State.setRunner_runner_same _ r _, by rw [State.setRunner_runner_same]⟩
  · have fixture := s.advance_fixture left f hrun
    have allowance : ((s.advance left).fixture f).claims.allowance = (s.fixture f).claims.allowance := by
      rw [fixture]; rfl
    obtain ⟨state, claims, holdOff, line, picture, idle, runners, others, clock, points⟩ :=
      settle_moveOn_dispensed current (by rwa [store]) (driven.trans hdriven) (queue.trans hqueue) hpurpose hf
        (by rw [fixture]; exact hc) hk hsecond (by rw [fixture]; exact hheld) (State.advance_holder hrun left hh)
        (by rw [fixture]; simp [Fixture.advance, Claims.advance, hwaiting]) (by rw [fixture]; exact hone)
    rw [allowance] at line picture
    exact ⟨_, exec_eq, state, claims, holdOff, line.trans (State.raiseChange_line _), picture, idle, runners, others,
      clock, points.trans (s.advance_points left), outsideAs_settle _ _⟩

end Sys2Proof.Machine
end

section
/-! Proofs for 09_pulse_units.md: O51 settled. A phase that is not a pattern's last is followed by the next phase of its
unit; a pattern that ends frees its unit, which goes to a runner waiting for it (R147), and its own runner then ends its
list or moves on (R145, `settle_moveOn_ended`, `settle_moveOn_delay`). -/

namespace Sys2Proof.Machine

/-! ## Units and runners over time (R157, R162, R166) -/

theorem State.advance_unit (s : State) (d : Nat) (h : s.running = true) (u : UnitNo) :
    (s.advance d).pulse.units[u] = s.pulse.units[u].advance s.pulse.safe d := by
  simp [State.advance_running s d h, Pulse.advance]

theorem State.advance_driver (s : State) (d : Nat) (u : UnitNo) :
    (s.advance d).pulse.units[u].driver = s.pulse.units[u].driver := by
  cases h : s.running with
  | true => rw [s.advance_unit d h u]; rfl
  | false => rw [s.advance_stopped d h]

theorem State.advance_lastDriver (s : State) (d : Nat) (u : UnitNo) :
    (s.advance d).pulse.units[u].lastDriver = s.pulse.units[u].lastDriver := by
  cases h : s.running with
  | true => rw [s.advance_unit d h u]; rfl
  | false => rw [s.advance_stopped d h]

/-- R166: time alone changes neither what a lamp shows nor what it is to show next. -/
theorem State.advance_lamp (s : State) (d : Nat) (u : UnitNo) :
    (s.advance d).pulse.units[u].lamp.running = s.pulse.units[u].lamp.running ∧
      (s.advance d).pulse.units[u].lamp.isHigh = s.pulse.units[u].lamp.isHigh ∧
      (s.advance d).pulse.units[u].lamp.pending = s.pulse.units[u].lamp.pending := by
  cases h : s.running with
  | true => rw [s.advance_unit d h u]; exact ⟨rfl, rfl, rfl⟩
  | false => rw [s.advance_stopped d h]; exact ⟨rfl, rfl, rfl⟩

/-- R157: outside the safe state a pattern's phase is over once the time left in it has passed. -/
theorem State.advance_pattern_over {s : State} {u : UnitNo} {x : Pattern} (hrun : s.running = true)
    (hsafe : s.pulse.safe = false) (hx : s.pulse.units[u].pattern = some x) :
    (s.advance x.left).pulse.units[u].pattern = some { x with left := 0 } := by
  rw [s.advance_unit x.left hrun u]
  simp only [PulseUnit.advance, hx, hsafe, Option.map_some, Bool.false_eq_true, if_false, Nat.sub_self]

/-- R156: the pattern that a step begins depends on how its pair is set, not on where the prescaler stands. -/
theorem Pair.SetAs.pattern {p q : Pair} (h : p.SetAs q) (t : Step) : q.pattern t = p.pattern t := by
  obtain ⟨mode, high, low, clock⟩ := h
  simp only [Pair.pattern, Pair.effective, Pair.period, mode, high, low, clock]

theorem State.advance_pairPattern (s : State) (d : Nat) (i : PairNo) (t : Step) :
    (s.advance d).pulse.pairs[i].pattern t = s.pulse.pairs[i].pattern t := by
  cases h : s.running with
  | true => rw [State.advance_running s d h]; exact ((s.pulse.advance_setAs d).pairs i).pattern t
  | false => rw [s.advance_stopped d h]

theorem Runner.advance_zero (x : Runner) : x.advance 0 = x := by
  unfold Runner.advance
  split
  · rename_i left h; rw [Nat.sub_zero, ← h]
  all_goals rfl

theorem Runner.advance_mode_delay {x : Runner} {left : Nat} (h : x.mode = .delay left) (d : Nat) :
    (x.advance d).mode = .delay (left - d) := by simp only [Runner.advance, h]

/-- R144: time alone ends no delay, and changes no other mode. -/
theorem Runner.advance_mode_iff {m : RunnerMode} (hm : ∀ left, m ≠ .delay left) (x : Runner) (d : Nat) :
    (x.advance d).mode = m ↔ x.mode = m := by
  unfold Runner.advance
  split
  · rename_i left h
    exact iff_of_false (hm (left - d)).symm (h ▸ (hm left).symm)
  all_goals rfl

/-- R77: a runner takes part in the time that counts, which is none while the station does not run. -/
theorem State.advance_runner_aged (s : State) (d : Nat) (r : RunnerId) :
    ∃ e, (s.advance d).runner r = (s.runner r).advance e := by
  cases h : s.running with
  | true => exact ⟨d, s.advance_runner d h r⟩
  | false => exact ⟨0, by rw [s.advance_stopped d h, Runner.advance_zero]⟩

@[simp] theorem State.advance_runner_current (s : State) (d : Nat) (r : RunnerId) :
    ((s.advance d).runner r).current = (s.runner r).current := by
  obtain ⟨e, aged⟩ := s.advance_runner_aged d r
  rw [aged, Runner.advance_current]

@[simp] theorem State.advance_runner_queue (s : State) (d : Nat) (r : RunnerId) :
    ((s.advance d).runner r).queue = (s.runner r).queue := by
  obtain ⟨e, aged⟩ := s.advance_runner_aged d r
  rw [aged, Runner.advance_queue]

@[simp] theorem State.advance_runner_mode_iff {m : RunnerMode} (hm : ∀ left, m ≠ .delay left) (s : State) (d : Nat)
    (r : RunnerId) : ((s.advance d).runner r).mode = m ↔ (s.runner r).mode = m := by
  obtain ⟨e, aged⟩ := s.advance_runner_aged d r
  rw [aged, Runner.advance_mode_iff hm]

theorem State.advance_runner_delay {s : State} {r : RunnerId} {left : Nat} (h : (s.runner r).mode = .delay left)
    (d : Nat) : ∃ rest, ((s.advance d).runner r).mode = .delay rest := by
  obtain ⟨e, aged⟩ := s.advance_runner_aged d r
  exact ⟨left - e, by rw [aged, Runner.advance_mode_delay h]⟩

/-! ## The arbiter (R147) -/

/-- A unit whose pattern has ended, before the arbiter looks at the runners waiting for it. -/
def State.freeUnit (s : State) (u : UnitNo) : State := s.setUnit u s.pulse.units[u].released

@[simp] theorem State.freeUnit_runner (s : State) (u : UnitNo) (r : RunnerId) :
    (s.freeUnit u).runner r = s.runner r := by cases r <;> rfl

@[simp] theorem State.freeUnit_store (s : State) (u : UnitNo) : (s.freeUnit u).runners.store = s.runners.store := rfl

theorem State.freeUnit_unit (s : State) (u : UnitNo) :
    (s.freeUnit u).pulse.units[u] = s.pulse.units[u].released := by simp [State.freeUnit]

theorem State.freeUnit_driver (s : State) (u : UnitNo) : (s.freeUnit u).pulse.units[u].driver = none := by
  rw [State.freeUnit_unit]; rfl

theorem State.freeUnit_lastDriver (s : State) (u : UnitNo) :
    (s.freeUnit u).pulse.units[u].lastDriver = s.pulse.units[u].lastDriver := by
  rw [State.freeUnit_unit]; rfl

/-- R147: a runner drives the units it drove, but for the one that is freed. -/
theorem State.freeUnit_drivenBy (s : State) (u : UnitNo) (r : RunnerId) :
    (s.freeUnit u).pulse.drivenBy r = (s.pulse.drivenBy r).filter fun v => v ≠ u := by
  unfold Pulse.drivenBy
  rw [List.filter_filter]
  refine List.filter_congr fun v _ => ?_
  show (((s.setUnit u s.pulse.units[u].released).pulse.units[v]).driver == some r) = _
  rw [State.setUnit_units]
  by_cases e : u = v
  · subst e; simp [PulseUnit.released]
  · simp [e, Ne.symm e]

theorem State.nextDriver_none {s : State} {u : UnitNo} (h : ∀ q, (s.runner q).mode ≠ .waitingUnit u) :
    s.nextDriver u = none := by
  cases hn : s.nextDriver u with
  | none => rfl
  | some q => exact absurd (s.nextDriver_waits u q hn) (h q)

/-- R147: the unit goes to a runner waiting for it, of two such runners to the one that did not drive it last. -/
theorem State.nextDriver_some {s : State} {u : UnitNo} {w other : RunnerId} (hne : w ≠ other)
    (hw : (s.runner w).mode = .waitingUnit u)
    (hother : (s.runner other).mode ≠ .waitingUnit u ∨ s.pulse.units[u].lastDriver = some other) :
    s.nextDriver u = some w := by
  have waits : (s.runner w).waitsFor u = true := by simp [Runner.waitsFor, hw]
  have alone_or_last : (s.runner other).waitsFor u = false ∨ s.pulse.units[u].lastDriver = some other :=
    hother.imp_left fun h => by simpa [Runner.waitsFor] using h
  match w, other, hne, waits, alone_or_last with
  | .A, .B, _, (a : s.runners.a.waitsFor u = true), .inl (b : s.runners.b.waitsFor u = false) =>
    simp only [State.nextDriver, a, b]
  | .B, .A, _, (b : s.runners.b.waitsFor u = true), .inl (a : s.runners.a.waitsFor u = false) =>
    simp only [State.nextDriver, a, b]
  | .A, .B, _, (a : s.runners.a.waitsFor u = true), .inr last =>
    cases b : s.runners.b.waitsFor u with
    | false => simp only [State.nextDriver, a, b]
    | true => simp only [State.nextDriver, a, b]; rw [last]; rfl
  | .B, .A, _, (b : s.runners.b.waitsFor u = true), .inr last =>
    cases a : s.runners.a.waitsFor u with
    | false => simp only [State.nextDriver, a, b]
    | true => simp only [State.nextDriver, a, b]; rw [last]; rfl

theorem performUnitFreed_unawaited {s : State} {u : UnitNo} (hfree : s.pulse.units[u].driver = none)
    (h : ∀ q, (s.runner q).mode ≠ .waitingUnit u) : performUnitFreed s u = (s, []) := by
  simp only [performUnitFreed, hfree, State.nextDriver_none h]

/-- R147, R142: the runner that a freed unit goes to issues its step there, and holds it. -/
theorem performUnitFreed_issued {s : State} {u : UnitNo} {w : RunnerId} {c : Current}
    (hfree : s.pulse.units[u].driver = none) (hnext : s.nextDriver u = some w) (hcur : (s.runner w).current = some c)
    (hwait : (s.runners.store[c.index]).goOn = false) : performUnitFreed s u =
      (State.setRunner { s with pulse := s.pulse.drive u w s.runners.store[c.index] } w
        ⟨.holding u, some c, (s.runner w).queue⟩, []) := by
  simp only [performUnitFreed, hfree, hnext, hcur, issue, hwait, Bool.false_eq_true, if_false]
  rw [← hcur]
  cases w <;> rfl

theorem Pulse.drive_unit (p : Pulse) (u : UnitNo) (r : RunnerId) (t : Step) : (p.drive u r t).units[u] =
    { p.units[u] with pattern := some (p.pairs[pairOf u].pattern t), driver := some r, lastDriver := some r } := by
  show (put p.units u _)[u] = _
  rw [put_get, if_pos rfl]

/-! ## What a runner does at the end of a pattern of its own (R145) -/

theorem afterPattern_delay {s : State} {u : UnitNo} {r : RunnerId} {left : Nat} (h : (s.runner r).mode = .delay left) :
    afterPattern s u r = [] := by simp only [afterPattern, h]

theorem afterPattern_waiting {s : State} {u v : UnitNo} {r : RunnerId} (h : (s.runner r).mode = .waitingUnit v) :
    afterPattern s u r = [] := by simp only [afterPattern, h]

theorem afterPattern_holding {s : State} {u : UnitNo} {r : RunnerId} (h : (s.runner r).mode = .holding u) :
    afterPattern s u r = [.moveOn r] := by simp only [afterPattern, h, if_true]

/-- R145, R146: the list of a draining runner completes with the end of its one pattern. -/
theorem afterPattern_draining {s : State} {u : UnitNo} {r : RunnerId} {c : Current}
    (h : (s.runner r).mode = .draining) (hcur : (s.runner r).current = some c) (hdriven : s.pulse.drivenBy r = [u]) :
    afterPattern s u r = completeTasks r c := by
  simp only [afterPattern, h, hcur, hdriven, List.all_cons, List.all_nil, beq_self_eq_true, Bool.and_true, if_true]

/-- R146, R152: a release or change list that completes is reported to nobody; with nothing queued its runner is
IDLE. -/
theorem settle_completeTasks {s : State} {r : RunnerId} {c : Current} (hpurpose : c.start.purpose ≠ .grant)
    (hqueue : (s.runner r).queue = []) : settle s (completeTasks r c) = s.setRunner r Runner.start := by
  have next : nextTaken s r = some (s.setRunner r Runner.start) := by simp [nextTaken, hqueue]
  calc settle s (completeTasks r c)
      = settle s [.nextList r] := settle_reportTask (fun hgrant => absurd hgrant hpurpose) _ _
    _ = settle (s.setRunner r Runner.start) [] := settle_nextList next []
    _ = s.setRunner r Runner.start := settle_nil _

/-! ## The end of a pattern (R145, R147) -/

section
variable {s : State} {u : UnitNo} {r : RunnerId}

theorem endPattern_eq (hr : s.pulse.units[u].driver = some r) :
    endPattern s u = settle (s.freeUnit u) (.unitFreed u :: afterPattern s u r) := by
  simp only [endPattern, hr]
  rfl

theorem endPattern_now (hr : s.pulse.units[u].driver = some r) : (endPattern s u).now = s.now := by
  obtain ⟨-, -, now, -⟩ := outsideAs_settle (s := s.freeUnit u) (.unitFreed u :: afterPattern s u r)
  rw [endPattern_eq hr, now]
  rfl

/-- R145: with no runner waiting for the unit, its own runner acts. -/
theorem endPattern_unawaited (hr : s.pulse.units[u].driver = some r) (h : ∀ q, (s.runner q).mode ≠ .waitingUnit u) :
    endPattern s u = settle (s.freeUnit u) (afterPattern s u r) := by
  exact (endPattern_eq hr).trans
    (settle_step (t := .unitFreed u) (performUnitFreed_unawaited (s.freeUnit_driver u) (by simpa using h)) _)

/-- R145, R146: a release or change list at its end completes with its one pattern, and with nothing queued its runner
is IDLE. -/
theorem endPattern_ended {c : Current} (hr : s.pulse.units[u].driver = some r)
    (h : ∀ q, (s.runner q).mode ≠ .waitingUnit u) (hcur : (s.runner r).current = some c)
    (hpurpose : c.start.purpose ≠ .grant) (hdriven : s.pulse.drivenBy r = [u]) (hqueue : (s.runner r).queue = [])
    (hmode : (s.runner r).mode = .draining ∨
      ((s.runner r).mode = .holding u ∧ (s.runners.store[c.index]).last = true)) :
    endPattern s u = (s.freeUnit u).setRunner r Runner.start := by
  rw [endPattern_unawaited hr h]
  rcases hmode with draining | ⟨holding, last⟩
  · rw [afterPattern_draining draining hcur hdriven]
    exact settle_completeTasks hpurpose (by simpa using hqueue)
  · have driven : (s.freeUnit u).pulse.drivenBy r = [] := by simp [State.freeUnit_drivenBy, hdriven]
    rw [afterPattern_holding holding]
    exact settle_moveOn_ended (by simpa using hcur) last driven (by simpa using hqueue) hpurpose

/-- R143–R145: a runner that held the pattern moves on to a delay step. -/
theorem endPattern_delay {c : Current} {i : StepNo} (hr : s.pulse.units[u].driver = some r)
    (h : ∀ q, (s.runner q).mode ≠ .waitingUnit u) (hcur : (s.runner r).current = some c)
    (holding : (s.runner r).mode = .holding u) (hlast : (s.runners.store[c.index]).last = false)
    (hi : i.val = c.index.val + 1) (hunit : (s.runners.store[i]).unit = none) : endPattern s u =
      (s.freeUnit u).setRunner r ⟨.delay (s.runners.store[i]).delayTime, some ⟨c.start, i⟩, (s.runner r).queue⟩ := by
  rw [endPattern_unawaited hr h, afterPattern_holding holding,
    settle_moveOn_delay (u := s.freeUnit u) (by simpa using hcur) hlast hi hunit, State.freeUnit_runner]
  rfl

/-- R147: the runner that the unit goes to begins its own pattern there, where the driver before it has nothing
to do. -/
theorem endPattern_issued {w other : RunnerId} {c : Current} (hr : s.pulse.units[u].driver = some r)
    (hafter : afterPattern s u r = []) (hne : w ≠ other) (hw : (s.runner w).mode = .waitingUnit u)
    (hcur : (s.runner w).current = some c) (hwait : (s.runners.store[c.index]).goOn = false)
    (hother : (s.runner other).mode ≠ .waitingUnit u ∨ s.pulse.units[u].lastDriver = some other) : endPattern s u =
      State.setRunner { s.freeUnit u with pulse := (s.freeUnit u).pulse.drive u w s.runners.store[c.index] } w
        ⟨.holding u, some c, (s.runner w).queue⟩ := by
  have next : (s.freeUnit u).nextDriver u = some w :=
    State.nextDriver_some hne (by simpa using hw) (by rwa [State.freeUnit_runner, s.freeUnit_lastDriver])
  have issued := performUnitFreed_issued (s.freeUnit_driver u) next (by simpa using hcur) hwait
  rw [State.freeUnit_runner] at issued
  rw [endPattern_eq hr, hafter]
  exact (settle_step (t := .unitFreed u) issued []).trans (settle_nil _)

end

/-! ## The ends of phases (R157, R166) -/

/-- R157: what follows a phase of a pattern that is not its last. -/
theorem Pattern.next_some {x : Pattern} (h : x.isHigh = true ∨ 1 < x.repeats) : x.next =
    some (if x.isHigh then ⟨x.high, x.low, x.tick, x.repeats, false, (x.low + 1) * x.tick⟩
      else ⟨x.high, x.low, x.tick, x.repeats - 1, true, (x.high + 1) * x.tick⟩) := by
  unfold Pattern.next
  cases hx : x.isHigh with
  | true => rfl
  | false => rw [if_neg (by simp), if_pos (h.resolve_left (by simp [hx]))]; rfl

theorem Pattern.next_none {x : Pattern} (hlow : x.isHigh = false) (hlast : x.repeats ≤ 1) : x.next = none := by
  simp only [Pattern.next, hlow, Bool.false_eq_true, if_false, if_neg (Nat.not_lt.mpr hlast)]

theorem patternWait_some {s : State} {u : UnitNo} {x : Pattern} (hsafe : s.pulse.safe = false)
    (hx : s.pulse.units[u].pattern = some x) : patternWait u s = some x.left := by
  simp only [patternWait, hsafe, hx, Bool.false_eq_true, if_false, Option.map_some]

section
variable {s : State} {u : UnitNo} {x : Pattern} (hrun : s.running = true) (hsafe : s.pulse.safe = false)
  (hx : s.pulse.units[u].pattern = some x)
include hrun hsafe hx

theorem exec_patternPhaseEnd_next (hnext : x.isHigh = true ∨ 1 < x.repeats) : exec (.patternPhaseEnd u) s =
    .next ((s.advance x.left).setUnit u { (s.advance x.left).pulse.units[u] with
      pattern := some (if x.isHigh then ⟨x.high, x.low, x.tick, x.repeats, false, (x.low + 1) * x.tick⟩
        else ⟨x.high, x.low, x.tick, x.repeats - 1, true, (x.high + 1) * x.tick⟩) }) := by
  refine (onExpiry_some (act := endPatternPhase u) (patternWait_some hsafe hx)).trans ?_
  simp only [endPatternPhase, State.advance_pattern_over hrun hsafe hx]
  rw [Pattern.next_some (x := { x with left := 0 }) hnext]

theorem exec_patternPhaseEnd_last (hlow : x.isHigh = false) (hlast : x.repeats ≤ 1) :
    exec (.patternPhaseEnd u) s = .next (endPattern (s.advance x.left) u) := by
  refine (onExpiry_some (act := endPatternPhase u) (patternWait_some hsafe hx)).trans ?_
  simp only [endPatternPhase, State.advance_pattern_over hrun hsafe hx]
  rw [Pattern.next_none (x := { x with left := 0 }) hlow hlast]

end

/-- R166: the phase of a BLINK is over once the time left in it has passed. -/
theorem exec_lampPhaseEnd {s : State} {u : UnitNo} {i : PatternNo} {high low : Nat} {clock : TickClock}
    (hbinding : s.pulse.units[u].binding = .lamp) (hrunning : s.pulse.units[u].lamp.running = some (.index i))
    (hblink : s.pulse.patterns[i] = .blink high low clock) :
    exec (.lampPhaseEnd u) s = .next (endLampPhase u (s.advance s.pulse.units[u].lamp.left)) := by
  have waits : s.pulse.units[u].lamp.waits s.pulse = true := by
    simp only [Lamp.waits, hrunning, Pulse.lampPattern, hblink, LampPattern.blinks]
  exact onExpiry_some (act := endLampPhase u) (if_pos ⟨hbinding, waits⟩)

@[simp] theorem Lamp.phaseEnd_pending (l : Lamp) (p : Pulse) : (l.phaseEnd p).pending = none := by
  unfold Lamp.phaseEnd
  split
  · rfl
  all_goals assumption

theorem Lamp.phaseEnd_change {l : Lamp} {t : LampTarget} (h : l.pending = some t) (p : Pulse) :
    l.phaseEnd p = l.run p t := by simp only [Lamp.phaseEnd, h]

theorem Lamp.phaseEnd_blink {l : Lamp} {p : Pulse} {i : PatternNo} {high low : Nat} {clock : TickClock}
    (hnone : l.pending = none) (hrunning : l.running = some (.index i))
    (hblink : p.patterns[i] = .blink high low clock) :
    l.phaseEnd p =
      { l with isHigh := !l.isHigh, left := (if l.isHigh then low + 1 else high + 1) * clock.time } := by
  simp only [Lamp.phaseEnd, hnone, hrunning, Pulse.lampPattern, hblink, LampPattern.phaseTime]
  cases l.isHigh <;> rfl

/-! ## The statement -/

/-- Settles O51, by the next phase of a pattern, the end of a pattern with its unit awaited or not, and the end of a
lamp's phase. -/
theorem phasesOfPatternsAndLamps : Obligations.PhasesOfPatternsAndLamps := by
  unfold Obligations.PhasesOfPatternsAndLamps
  refine ⟨fun s u x hrun hsafe hx hnext => ?_, fun s u x r hrun hsafe hx hlow hlast hr => ?_,
    fun s u i high low clock hrun hbinding hrunning hblink => ?_⟩
  · refine ⟨_, exec_patternPhaseEnd_next hrun hsafe hx hnext, s.advance_now x.left hrun, ?_⟩
    simp only [State.setUnit_units, if_true, State.advance_driver, and_self]
  · have driver : (s.advance x.left).pulse.units[u].driver = some r := (s.advance_driver x.left u).trans hr
    have freed : ((s.advance x.left).freeUnit u).pulse.units[u] = (s.advance x.left).pulse.units[u].released :=
      State.freeUnit_unit _ _
    refine ⟨_, exec_patternPhaseEnd_last hrun hsafe hx hlow hlast,
      (endPattern_now driver).trans (s.advance_now x.left hrun), fun free => ⟨?_, ?_, ?_⟩, ?_⟩
    · intro left hdelay
      obtain ⟨rest, delay⟩ := State.advance_runner_delay hdelay x.left
      have ended : endPattern (s.advance x.left) u = (s.advance x.left).freeUnit u := by
        rw [endPattern_unawaited driver (by simpa using free), afterPattern_delay delay, settle_nil]
      rw [ended, freed]
      exact ⟨rfl, rfl, s.advance_lastDriver x.left u, rfl⟩
    · intro c hcur hpurpose hdriven hqueue hmode
      have ended := endPattern_ended driver (by simpa using free) (by simpa using hcur) hpurpose
        (by simpa using hdriven) (by simpa using hqueue) (by simpa using hmode)
      rw [ended, State.setRunner_pulse, freed, State.setRunner_runner_same]
      exact ⟨rfl, rfl, rfl, rfl⟩
    · intro c i hcur holding hlast hi hunit
      have moved := endPattern_delay driver (by simpa using free) (by simpa using hcur) (by simpa using holding)
        (by simpa using hlast) hi (by simpa using hunit)
      rw [moved, State.setRunner_pulse, freed, State.setRunner_runner_same, State.advance_store,
        State.advance_runner_queue]
      exact ⟨rfl, rfl, rfl⟩
    · intro w other c hne hw hcur hwait hother hown
      have after : afterPattern (s.advance x.left) u r = [] := by
        rcases hown with rfl | ⟨left, hdelay⟩ | hwaits
        · exact afterPattern_waiting (by simpa using hw)
        · obtain ⟨rest, delay⟩ := State.advance_runner_delay hdelay x.left
          exact afterPattern_delay delay
        · exact afterPattern_waiting (by simpa using hwaits)
      have issued := endPattern_issued driver after hne (by simpa using hw) (by simpa using hcur)
        (by simpa using hwait) (by rw [s.advance_lastDriver x.left u]; simpa using hother)
      rw [issued, State.setRunner_pulse, State.setRunner_runner_same, State.setRunner_runner, if_neg hne]
      dsimp only
      rw [Pulse.drive_unit, State.advance_store]
      refine ⟨rfl, rfl, congrArg some (s.advance_pairPattern x.left (pairOf u) _), rfl, rfl, ?_⟩
      exact (s.advance x.left).freeUnit_runner u other
  · obtain ⟨running, isHigh, pending⟩ := s.advance_lamp s.pulse.units[u].lamp.left u
    refine ⟨_, exec_lampPhaseEnd hbinding hrunning hblink, s.advance_now _ hrun, ?_⟩
    simp only [endLampPhase, State.setUnit_units, if_true]
    refine ⟨Lamp.phaseEnd_pending _ _, fun hnone => ?_, fun j hj => ?_, trivial⟩
    · rw [Lamp.phaseEnd_blink (pending.trans hnone) (running.trans hrunning) (by simpa using hblink), isHigh]
      exact ⟨running.trans hrunning, rfl, rfl⟩
    · rw [Lamp.phaseEnd_change (pending.trans hj)]
      exact ⟨rfl, rfl⟩

end Sys2Proof.Machine
end

section
/-! Proofs for 10_arena_line.md, part 1: O60, O55 and O56 settled: the hold-offs of Table 10-8, and what the receiver reads
of characters, frames and status payloads. -/

namespace Sys2Proof.Machine

/-! ## Hold-offs (R178, R179) -/

theorem slot_lt (station last : StationNo) : slot station last < 32 := Nat.mod_lt _ (by decide)

/-- R178: after one last sender no two stations share a slot. -/
theorem slot_injective {a b last : StationNo} (h : slot a last = slot b last) : a = b := by
  apply Fin.ext
  simp only [slot] at h
  omega

/-- Settles O60: slots differ, and a class spans fewer bit times than the next one is later. -/
theorem holdOffsNeverMeet : Obligations.HoldOffsNeverMeet := by
  unfold Obligations.HoldOffsNeverMeet
  intro a b last c d hc hd
  have ha := slot_lt a last
  have hb := slot_lt b last
  refine ⟨fun hne heq => hne (slot_injective (last := last) ?_), fun hlt => ?_, ?_⟩
  all_goals
    simp only [holdOffBits] at *
    omega

/-! ## Characters (R169) -/

/-- Bits sent in turn, a bit time each; a 1 is recessive. -/
def bitRuns (bits : List Bool) : List LineRun := bits.map fun bit => ⟨!bit, Config.bitTime⟩

/-- A run in front puts off what is read. -/
theorem dominantAt_cons_add (r : LineRun) (rest : List LineRun) (t : Nat) :
    dominantAt (r :: rest) (r.time + t) = dominantAt rest t := by
  rw [dominantAt, if_neg (by omega), Nat.add_sub_cancel_left]

/-- R169: at its middle each bit reads as it is sent. -/
theorem dominantAt_bitMiddle (bits : List Bool) (k : Nat) (h : k < bits.length) :
    dominantAt (bitRuns bits) (bitMiddle k) = !bits[k] := by
  induction bits generalizing k with
  | nil => exact absurd h (Nat.not_lt_zero k)
  | cons b rest ih =>
    cases k with
    | zero => rfl
    | succ k =>
      have later : bitMiddle (k + 1) = Config.bitTime + bitMiddle k := by
        simp only [bitMiddle, Config.bitTime]; omega
      rw [later]
      exact (dominantAt_cons_add ⟨!b, Config.bitTime⟩ (bitRuns rest) (bitMiddle k)).trans
        (ih k (Nat.lt_of_succ_lt_succ h))

/-- A byte is the sum of its bits. -/
theorem byte_eq_sum_bits (b : Byte) :
    BitVec.ofNat 8 ((b.getLsbD 0).toNat + 2 * (b.getLsbD 1).toNat + 4 * (b.getLsbD 2).toNat + 8 * (b.getLsbD 3).toNat +
      16 * (b.getLsbD 4).toNat + 32 * (b.getLsbD 5).toNat + 64 * (b.getLsbD 6).toNat + 128 * (b.getLsbD 7).toNat) = b := by
  have low (k : Nat) : b.toNat % 2 ^ (k + 1) = b.toNat % 2 ^ k + 2 ^ k * (b.getLsbD k).toNat := by
    rw [Nat.mod_pow_succ, ← Nat.toNat_testBit]; rfl
  have whole : b.toNat % 2 ^ 8 = b.toNat := Nat.mod_eq_of_lt b.isLt
  simp only [low, Nat.pow_zero, Nat.mod_one] at whole
  apply BitVec.eq_of_toNat_eq
  rw [BitVec.toNat_ofNat]
  omega

/-- R169: of a character on the line after any recessive stretch, the data bits and the stop bit at their middles. -/
theorem dominantAt_characterRuns (b : Byte) (quiet k : Nat) (h : k ≤ 8) :
    dominantAt (⟨false, quiet⟩ :: characterRuns b) (quiet + bitMiddle (k + 1)) = (k < 8 && !b.getLsbD k) := by
  have read : dominantAt (⟨false, quiet⟩ :: characterRuns b) (quiet + bitMiddle (k + 1)) =
      !(characterBits b)[k + 1]'(by simp [characterBits]; omega) :=
    (dominantAt_cons_add ⟨false, quiet⟩ (characterRuns b) _).trans (dominantAt_bitMiddle (characterBits b) (k + 1) _)
  rw [read]
  rcases Nat.lt_or_eq_of_le h with data | rfl
  · simp [characterBits, data]
  · rfl

/-- R169: a character on the line after any recessive stretch is read as its byte. -/
theorem readCharacter_characterRuns (b : Byte) (quiet : Nat) :
    readCharacter (⟨false, quiet⟩ :: characterRuns b) = some (.byte b) := by
  have edge : startEdge (⟨false, quiet⟩ :: characterRuns b) = some quiet := congrArg some (Nat.zero_add quiet)
  have data (k : Nat) (h : k < 8) :
      (if dominantAt (⟨false, quiet⟩ :: characterRuns b) (quiet + bitMiddle (k + 1)) then 0 else 2 ^ k) =
        2 ^ k * (b.getLsbD k).toNat := by
    rw [dominantAt_characterRuns b quiet k h.le]
    cases b.getLsbD k <;> simp [h]
  have stop : dominantAt (⟨false, quiet⟩ :: characterRuns b) (quiet + bitMiddle 9) = false :=
    dominantAt_characterRuns b quiet 8 le_rfl
  have spelt := byte_eq_sum_bits b
  simp only [readCharacter, edge, Option.map_some, stop, Bool.false_eq_true, if_false]
  rw [data 0 (by decide), data 1 (by decide), data 2 (by decide), data 3 (by decide), data 4 (by decide),
    data 5 (by decide), data 6 (by decide), data 7 (by decide), Nat.pow_zero, Nat.one_mul]
  exact congrArg (fun x => some (Heard.byte x)) spelt

/-! ## Frames (R170, R171, R175) -/

theorem toNat_byteOf {n : Nat} (h : n < 256) : (byteOf n).toNat = n := Nat.mod_eq_of_lt h

/-- Table 10-6: a payload whose length fits its kind is one that LEN can carry. -/
theorem length_le_of_lengthFits {k : FrameKind} {payload : List Byte} (h : lengthFits k payload = true) :
    payload.length ≤ 54 := by
  cases k with
  | command | event => simp only [lengthFits, beq_iff_eq] at h; omega
  | status => simp only [lengthFits, Bool.and_eq_true, decide_eq_true_eq, beq_iff_eq] at h; omega

theorem FrameKind.ofCode?_code (k : FrameKind) : FrameKind.ofCode? (byteOf k.code).toNat = some k := by
  cases k <;> rfl

/-- R170, R175: a frame that a station builds passes every check. -/
theorem judge_frameBytes {k : FrameKind} {sender : StationNo} {payload : List Byte} (hsender : sender ≠ 0)
    (hfits : lengthFits k payload = true) (seq : Nat) :
    judge (frameBytes k sender.val seq payload) = .valid k sender payload := by
  have short := length_le_of_lengthFits hfits
  have len : (byteOf payload.length).toNat = payload.length := toNat_byteOf (by omega)
  have number : (byteOf sender.val).toNat = sender.val := toNat_byteOf (by omega)
  have known : sender.val ≠ 0 := fun h => hsender (Fin.ext h)
  have crcLength (bytes : List Byte) : (crcBytes bytes).length = 2 := rfl
  have within : ¬payload.length > Config.frameLenMax := by simp only [Config.frameLenMax]; omega
  simp only [frameBytes, frameBody, List.cons_append, judge, len, number, FrameKind.ofCode?_code, List.take_left,
    List.drop_left, List.length_append, crcLength, within, hfits, known, sender.isLt]
  simp

/-- Settles O55. -/
theorem frameRoundTrip : Obligations.FrameRoundTrip := by
  unfold Obligations.FrameRoundTrip
  exact ⟨readCharacter_characterRuns, fun k sender seq payload hsender hfits => judge_frameBytes hsender hfits seq⟩

/-! ## Status payloads (R110, R173) -/

theorem bytes16_eq (n : Nat) : bytes16 n = [byteOf (n / 256), byteOf n] := rfl

/-- 00_scope: a field of two bytes reads back, high byte first. -/
theorem word16_byteOf {n : Nat} (h : n < 65536) : word16 (byteOf (n / 256)) (byteOf n) = n := by
  have low : (byteOf n).toNat = n % 256 := rfl
  rw [word16, toNat_byteOf (by omega), low]
  omega

theorem Phase.ofCode?_code (p : Phase) : Phase.ofCode? (byteOf p.code).toNat = some p := by cases p <;> rfl

theorem Kind.code_lt (k : Kind) : k.code < 16 := by cases k <;> decide

theorem Kind.ofCode?_code (k : Kind) : Kind.ofCode? k.code = some k := by cases k <;> rfl

/-- Table 10-5: every state that a kind publishes has a code of its own. -/
theorem FixtureState.ofCode?_code {k : Kind} {x : FixtureState} (h : k.admits x = true) :
    FixtureState.ofCode? (byteOf x.code).toNat = some x := by
  cases x with
  | dead => cases k <;> cases h
  | _ => rfl

/-- An entry whose fields fit their bytes, in a state of its kind (Table 10-5). -/
abbrev SummaryEntry.Fits (e : SummaryEntry) : Prop := e.kind.admits e.state = true ∧ e.who < 256 ∧ e.stamp < 65536

theorem readEntry_entryBytes {e : SummaryEntry} (h : e.Fits) :
    readEntry (byteOf (e.fixture.val * 16 + e.kind.code)) (byteOf e.state.code) (byteOf e.who)
      (byteOf (e.stamp / 256)) (byteOf e.stamp) = some e := by
  obtain ⟨admits, who, stamp⟩ := h
  have code := e.kind.code_lt
  have head : (byteOf (e.fixture.val * 16 + e.kind.code)).toNat = e.fixture.val * 16 + e.kind.code :=
    toNat_byteOf (by omega)
  have fixture : (e.fixture.val * 16 + e.kind.code) / 16 = e.fixture.val := by omega
  have kind : (e.fixture.val * 16 + e.kind.code) % 16 = e.kind.code := by omega
  simp only [readEntry, head, kind, fixture, Kind.ofCode?_code, FixtureState.ofCode?_code admits, e.fixture.isLt,
    admits, toNat_byteOf who, word16_byteOf stamp]
  rfl

/-- R110: the entries of a status read back in their order. -/
theorem readEntries_flatMap (entries : List SummaryEntry) (h : ∀ e ∈ entries, e.Fits) :
    readEntries (entries.flatMap entryBytes) = some entries := by
  induction entries with
  | nil => rfl
  | cons e rest ih =>
    rw [List.forall_mem_cons] at h
    obtain ⟨fits, others⟩ := h
    simp only [List.flatMap_cons, entryBytes, bytes16_eq, List.cons_append, List.nil_append, readEntries,
      readEntry_entryBytes fits, ih others]

theorem length_flatMap_entryBytes (entries : List SummaryEntry) :
    (entries.flatMap entryBytes).length = 5 * entries.length := by
  have five (e : SummaryEntry) : (entryBytes e).length = 5 := rfl
  simp [List.length_flatMap, five, Nat.mul_comm]

/-- Table 10-5: byte 13 is the number of entries, which stand after it. -/
theorem statusPayload_count (x : Status) : (statusPayload x).getD 13 0 = byteOf x.entries.length := rfl

theorem statusPayload_drop (x : Status) : (statusPayload x).drop 14 = x.entries.flatMap entryBytes := rfl

theorem length_statusPayload (x : Status) : (statusPayload x).length = 14 + 5 * x.entries.length := by
  have pair (n : Nat) : (bytes16 n).length = 2 := rfl
  simp only [statusPayload, List.length_append, List.length_cons, List.length_nil, pair, length_flatMap_entryBytes]

/-- Settles O56: phase, resume phase, tick and count stand at fixed places, and the entries follow. -/
theorem statusPayloadRoundTrip : Obligations.StatusPayloadRoundTrip := by
  unfold Obligations.StatusPayloadRoundTrip
  intro x hresume htick hlen hfits
  have count : (byteOf x.entries.length).toNat = x.entries.length := toNat_byteOf (by omega)
  have phase : Phase.ofCode? ((statusPayload x).getD 0 0).toNat = some x.phase := x.phase.ofCode?_code
  have resume : Phase.ofCode? ((statusPayload x).getD 1 0).toNat = some x.resume := x.resume.ofCode?_code
  have tick : word16 ((statusPayload x).getD 2 0) ((statusPayload x).getD 3 0) = x.tick := word16_byteOf htick
  constructor
  · simp only [lengthFits, statusPayload_count, length_statusPayload, count, hlen, decide_true, beq_self_eq_true,
      Bool.and_self]
  · simp only [readStatus, phase, resume, tick, statusPayload_drop, readEntries_flatMap x.entries hfits, if_neg hresume]

end Sys2Proof.Machine
end

section
/-! Proofs for 10_arena_line.md, part 2: O46 settled. An abandonment and a character come when their times are over; the
receiver then takes its one step (`Line.hear`, `State.abandon`), and nothing but the line changes. -/

namespace Sys2Proof.Machine

/-! ## The line over time -/

theorem State.hears_iff (s : State) : s.hears = true ↔ s.running = true ∧ s.line.attempt = none := by
  simp [State.hears]

theorem State.advance_line (s : State) (d : Nat) (h : s.running = true) : (s.advance d).line = s.line.advance d := by
  rw [s.advance_running d h]

/-- Outside an attempt time leaves the characters of a frame in progress. -/
theorem State.advance_received (s : State) (d : Nat) (h : s.line.attempt = none) :
    (s.advance d).line.received = s.line.received := by
  unfold State.advance
  split
  · simp [s.line.advance_quiet d h]
  · rfl

theorem State.advance_attempt_none (s : State) (d : Nat) (h : s.line.attempt = none) :
    (s.advance d).line.attempt = none := by
  rw [← Option.not_isSome_iff_eq_none, s.advance_attempting, h]
  exact Bool.false_ne_true

/-! ## The times of characters (R169, R174, R180) -/

/-- Each character after the first takes its ten bit times. -/
theorem Line.span_succ (l : Line) (n : Nat) : l.span (n + 1) = l.span 1 + 40 * n := by
  simp only [Line.span, Config.silence, Config.characterTime, Config.bitTime]
  cases l.receiver with
  | skip => dsimp only; omega
  | frame => dsimp only; split <;> omega
  | hunt => cases l.standing <;> dsimp only <;> omega

theorem Line.span_one_skip {l : Line} (h : l.receiver = .skip) : l.span 1 = 65 := by simp only [Line.span, h]; rfl

theorem Line.span_one_frame {l : Line} (h : l.receiver = .frame) : l.span 1 = if l.unheard then 0 else 40 := by
  simp only [Line.span, h]; rfl

theorem Line.span_one_hunt {l : Line} (h : l.receiver = .hunt) :
    l.span 1 = if l.unheard then 0 else if l.standing = .released then 40 else 65 := by
  cases hs : l.standing <;> simp [Line.span, Line.unheard, h, hs, Config.silence, Config.characterTime, Config.bitTime]

/-- R169: in SKIP a character is awaited from the line's return to recessive, elsewhere as the first of a frame. -/
theorem Line.characterWait_eq (l : Line) :
    l.characterWait = l.busy + ((if l.receiver = .skip then 40 else l.span 1) - l.idle) := by
  unfold Line.characterWait
  cases l.receiver <;> rfl

/-! ## Framing errors (R169) -/

theorem dominantFrom_pos {line : List LineRun} {t : Nat} (h : dominantAt line t = true) : 0 < dominantFrom line t := by
  induction line generalizing t with
  | nil => cases h
  | cons r rest ih =>
    unfold dominantAt at h
    unfold dominantFrom
    by_cases within : t < r.time
    · rw [if_pos within] at h
      rw [if_neg (by omega), if_pos h]
      omega
    · rw [if_neg within] at h
      rw [if_pos (by omega)]
      exact ih h

/-- R169: a stop bit that is not recessive leaves the line dominant. -/
theorem framingError_pos {line : List LineRun} {dominant : Nat}
    (h : readCharacter line = some (.framingError dominant)) : 0 < dominant := by
  obtain ⟨edge, -, he⟩ := Option.map_eq_some_iff.mp h
  dsimp only at he
  split at he
  · rename_i read
    obtain rfl := Heard.framingError.inj he
    exact dominantFrom_pos read
  · cases he

/-! ## What the receiver takes in (R174) -/

theorem State.skip_reads (s : State) (dominant idle : Nat) (h : s.line.attempt = none) :
    (s.skip dominant idle).line.reads = some (dominant != 0) := s.line.fallen_reads dominant h

section
variable {l : Line}

theorem Line.hear_skip (h : l.receiver = .skip) (c : Byte) :
    l.hear (.byte c) = { l with received := [], busy := 0, standing := .recessive, idle := 0 } := by
  simp [Line.hear, h, Line.skip, Line.fallen]

theorem Line.hear_frame (h : l.receiver = .frame) (c : Byte) : l.hear (.byte c) = l.append c := by
  simp only [Line.hear, h]

theorem Line.hear_hunt (h : l.receiver = .hunt) (c : Byte) : l.hear (.byte c) =
    { l with
      receiver := if c = 0xC3#8 then .frame else .skip
      received := if c = 0xC3#8 then [c] else []
      busy := 0, standing := .recessive, idle := 0 } := by
  simp only [Line.hear, h]
  by_cases hc : c = 0xC3#8
  · simp [hc, syncByte, Line.fallen]
  · simp [hc, syncByte, Line.skip, Line.fallen]

/-- R174: LEN is the second character. -/
theorem Line.append_len {c : Byte} (hlen : l.received.length = 1) (hc : 64 < c.toNat) : l.append c = l.skip 0 0 := by
  unfold Line.append
  exact if_pos ⟨by simp [hlen], hc⟩

theorem Line.append_incomplete {c : Byte} (h : ¬(l.received.length = 1 ∧ 64 < c.toNat))
    (hjudge : judge (l.received ++ [c]) = .incomplete) :
    l.append c = { l with received := l.received ++ [c], busy := 0, standing := .recessive, idle := 0 } := by
  unfold Line.append
  dsimp only
  rw [if_neg (by simpa [Config.frameLenMax] using h), if_pos hjudge]
  rfl

end

/-- R174: the causes of an abandonment leave the receiver in SKIP, after a gap on a line that has been quiet, after a
framing error on one that stands dominant. -/
theorem State.abandon_eq {cause : AbandonCause} {l : Line} {least : Nat} (h : l.abandonTime cause = some least) (s : State) :
    ∃ dominant idle, State.abandon cause s = s.skip dominant idle ∧
      match cause with
      | .gap => dominant = 0 ∧ idle = 25
      | .lenAbove64 => dominant = 0 ∧ idle = 0
      | .framingError line => readCharacter line = some (.framingError dominant) ∧ 0 < dominant ∧ idle = 0 := by
  cases cause with
  | gap => exact ⟨0, 25, rfl, rfl, rfl⟩
  | lenAbove64 => exact ⟨0, 0, rfl, rfl, rfl⟩
  | framingError line =>
    unfold Line.abandonTime at h
    dsimp only at h
    split at h
    · rename_i dominant read
      exact ⟨dominant, 0, by simp only [State.abandon, read], read, framingError_pos read, rfl⟩
    all_goals cases h

/-! When each cause of an abandonment comes (R174): a gap after a character, a framing error at the middle of a stop bit,
and LEN as the second character. -/

section
variable {l : Line} {least : Nat}

theorem Line.abandonTime_gap (h : l.abandonTime .gap = some least) :
    least = l.busy + ((if l.receiver = .frame then 25 else l.span 1 + 25) - l.idle) := by
  obtain rfl := Option.some.inj h
  by_cases hr : l.receiver = .frame <;> simp [hr, Line.remaining, Config.silence, Config.bitTime]

theorem Line.abandonTime_framingError {line : List LineRun} (h : l.abandonTime (.framingError line) = some least) :
    least = l.busy + ((if l.receiver = .frame then l.span 1 else l.span 1 + 40) - l.idle) - 2 := by
  unfold Line.abandonTime at h
  dsimp only at h
  split at h
  · obtain rfl := Option.some.inj h
    by_cases hr : l.receiver = .frame <;> simp [hr, l.span_succ 1, Line.leastTime, Line.remaining, Config.bitTime]
  all_goals cases h

theorem Line.abandonTime_lenAbove64 (h : l.abandonTime .lenAbove64 = some least) :
    least = l.busy + ((if l.receiver = .frame then l.span 1 else l.span 1 + 40) - l.idle) := by
  unfold Line.abandonTime at h
  by_cases hr : l.receiver = .frame
  · obtain ⟨-, rfl⟩ : l.received.length = 1 ∧ l.leastTime 1 = least := by simpa [hr] using h
    rw [if_pos hr]
    rfl
  · obtain rfl : l.leastTime 2 = least := by simpa [hr] using h
    rw [if_neg hr, ← l.span_succ 1]
    rfl

end

/-! ## The commands -/

theorem exec_frameAbandon {s : State} {cause : AbandonCause} {least : Nat} (hhears : s.hears = true)
    (h : s.line.abandonTime cause = some least) (dt : Nat) :
    exec (.frameAbandon dt cause) s = .next (State.abandon cause (s.advance (max dt least))) := by
  change execFrameAbandon dt cause s = _
  simp only [execFrameAbandon, hhears, h]

theorem exec_nonSyncCharacter {s : State} {line : List LineRun} {heard : Heard} (hhears : s.hears = true)
    (h : readCharacter line = some heard) (dt : Nat) :
    exec (.nonSyncCharacter dt line) s =
      .next ((s.advance (max dt (s.line.characterWait - heard.early))).hear heard) := by
  change execNonSyncCharacter dt line s = _
  simp only [execNonSyncCharacter, hhears, h]

theorem exec_receiverReturnToHunt {s : State} (hhears : s.hears = true) (h : s.line.receiver = .skip) :
    exec .receiverReturnToHunt s = .next (returnToHunt (s.advance (s.line.busy + (25 - s.line.idle)))) := by
  have wait : huntWait s = some (s.line.busy + (25 - s.line.idle)) := by
    simp [huntWait, hhears, h, Line.remaining, Config.silence, Config.bitTime]
  exact onExpiry_some (act := returnToHunt) wait

/-- Settles O46: an abandonment by `State.abandon_eq`, a character by its receiver's state, and the return to HUNT. -/
theorem receiverStatesFollow : Obligations.ReceiverStatesFollow := by
  unfold Obligations.ReceiverStatesFollow
  refine ⟨fun s dt least cause hhears htime => ?_, fun s dt line heard hhears hread => ?_, fun s hhears hskip => ?_⟩
  · obtain ⟨-, quiet⟩ := s.hears_iff.mp hhears
    obtain ⟨dominant, idle, skipped, shown⟩ := State.abandon_eq htime (s.advance (max dt least))
    have reads := (s.advance (max dt least)).skip_reads dominant idle (s.advance_attempt_none _ quiet)
    refine ⟨_, (exec_frameAbandon hhears htime dt).trans (congrArg _ skipped), rfl, rfl, ?_, ?_⟩
    · cases cause with
      | gap =>
        obtain ⟨rfl, rfl⟩ := shown
        exact ⟨rfl, rfl, reads⟩
      | lenAbove64 =>
        obtain ⟨rfl, rfl⟩ := shown
        exact ⟨rfl, rfl, reads⟩
      | framingError line =>
        obtain ⟨read, pos, rfl⟩ := shown
        exact ⟨dominant, read, pos, rfl, rfl, reads.trans (by simp [pos.ne'])⟩
    · intro first second
      have hfirst : first = s.line.span 1 := by
        cases hr : s.line.receiver with
        | frame => simp only [first, hr, Line.span_one_frame hr]
        | hunt => simp only [first, hr, Line.span_one_hunt hr]
        | skip => simp only [first, hr, Line.span_one_skip hr]
      simp only [second, hfirst]
      cases cause with
      | gap => exact Line.abandonTime_gap htime
      | framingError line => exact Line.abandonTime_framingError htime
      | lenAbove64 => exact Line.abandonTime_lenAbove64 htime
  · obtain ⟨-, quiet⟩ := s.hears_iff.mp hhears
    intro ends d fallenQuiet
    have hends : ends = s.line.characterWait := by
      rw [Line.characterWait_eq]
      cases hr : s.line.receiver with
      | frame => simp [ends, hr, Line.span_one_frame hr]
      | hunt => simp [ends, hr, Line.span_one_hunt hr]
      | skip => simp [ends, hr]
    have hd : d = max dt (s.line.characterWait - heard.early) := by
      rw [← hends]
      cases heard <;> rfl
    have received := s.advance_received d quiet
    have receiver := s.advance_receiver d quiet
    refine ⟨(s.advance d).line.hear heard, by rw [exec_nonSyncCharacter hhears hread, ← hd]; rfl, ?_⟩
    cases heard with
    | framingError dominant =>
      simp [Line.hear, Line.skip, Line.fallen, (framingError_pos hread).ne']
    | byte c =>
      dsimp only
      cases hr : s.line.receiver with
      | skip =>
        rw [hr] at receiver
        exact Line.hear_skip receiver c
      | hunt =>
        rw [hr] at receiver
        exact Line.hear_hunt receiver c
      | frame =>
        rw [hr] at receiver
        rw [Line.hear_frame receiver, ← received]
        exact ⟨fun hlen hc => Line.append_len hlen hc, fun h hjudge => Line.append_incomplete h hjudge⟩
  · obtain ⟨running, -⟩ := s.hears_iff.mp hhears
    exact ⟨_, exec_receiverReturnToHunt hhears hskip, rfl, s.advance_now _ running, rfl⟩

end Sys2Proof.Machine
end

section
/-! Proofs for 10_arena_line.md, part 3: O48 settled. The check of the head goes through the queue (`dropRefused`) to the
first MATCH frame that passes; the attempt then marks what it sends (`markSending`). -/

namespace Sys2Proof.Machine

/-! ## The queue at the check of the head (R100, R176, R179) -/

theorem QueuedFrame.command?_eq_some_iff {q : QueuedFrame} {c : Command} : q.command? = some c ↔ q.body = .command c := by
  unfold QueuedFrame.command?
  cases q.body <;> simp

/-- The queue without its MATCH frames. -/
abbrev eventFrames (queue : List QueuedFrame) : List QueuedFrame := queue.filter fun q => q.command?.isNone

/-- The MATCH frames of a queue do not pass the check. -/
abbrev Refused (ok : Command → Bool) (queue : List QueuedFrame) : Prop :=
  ∀ q ∈ queue, ∀ x, q.body = .command x → ok x = false

theorem eventFrames_body_ne (queue : List QueuedFrame) {q : QueuedFrame} (h : q ∈ eventFrames queue) (c : Command) :
    q.body ≠ .command c := by
  intro hq
  have := (List.mem_filter.mp h).2
  rw [QueuedFrame.command?_eq_some_iff.mpr hq] at this
  cases this

theorem findSome?_eventFrames (queue : List QueuedFrame) :
    (eventFrames queue).findSome? QueuedFrame.command? = none := by
  refine List.findSome?_eq_none_iff.mpr fun q hq => ?_
  simpa using (List.mem_filter.mp hq).2

/-- A queue without a MATCH frame is one of events. -/
theorem eventFrames_eq_self {queue : List QueuedFrame} (h : queue.findSome? QueuedFrame.command? = none) :
    eventFrames queue = queue :=
  List.filter_eq_self.mpr fun q hq => by simp [List.findSome?_eq_none_iff.mp h q hq]

theorem Refused.findSome? {ok : Command → Bool} {queue : List QueuedFrame} (h : Refused ok queue) {x : Command}
    (hx : queue.findSome? QueuedFrame.command? = some x) : ok x = false := by
  obtain ⟨q, hq, hqx⟩ := List.exists_of_findSome?_eq_some hx
  exact h q hq x (QueuedFrame.command?_eq_some_iff.mp hqx)

/-- R100: of refused frames only the events stay, in front of what follows. -/
theorem dropRefused_append {ok : Command → Bool} {before : List QueuedFrame} (h : Refused ok before)
    (rest : List QueuedFrame) : dropRefused ok (before ++ rest) = eventFrames before ++ dropRefused ok rest := by
  induction before with
  | nil => rfl
  | cons q before ih =>
    rw [Refused, List.forall_mem_cons] at h
    obtain ⟨hq, others⟩ := h
    cases hbody : q.body with
    | event e =>
      have kept : q.command?.isNone = true := by simp [QueuedFrame.command?, hbody]
      simp only [List.cons_append, dropRefused, hbody, ih others, eventFrames, List.filter_cons, kept, if_true]
    | command x =>
      have removed : q.command?.isNone = false := by simp [QueuedFrame.command?, hbody]
      simp only [List.cons_append, dropRefused, hbody, hq x hbody, ih others, eventFrames, List.filter_cons, removed,
        Bool.false_eq_true, if_false]

theorem dropRefused_refused {ok : Command → Bool} {queue : List QueuedFrame} (h : Refused ok queue) :
    dropRefused ok queue = eventFrames queue := by simpa [dropRefused] using dropRefused_append h []

theorem dropRefused_passing {ok : Command → Bool} {q : QueuedFrame} {c : Command} (hq : q.body = .command c)
    (hc : ok c = true) (rest : List QueuedFrame) : dropRefused ok (q :: rest) = q :: rest := by
  simp only [dropRefused, hq, hc, if_true]

theorem markSending_append {is : FrameBody → Bool} {before : List QueuedFrame} (h : ∀ q ∈ before, is q.body = false)
    {q : QueuedFrame} (hq : is q.body = true) (after : List QueuedFrame) :
    markSending is (before ++ q :: after) = before ++ { q with sending := true } :: after := by
  induction before with
  | nil => exact if_pos hq
  | cons p before ih =>
    rw [List.forall_mem_cons] at h
    obtain ⟨hp, others⟩ := h
    rw [List.cons_append, markSending, hp, ih others]
    rfl

theorem markSending_bodies (is : FrameBody → Bool) (queue : List QueuedFrame) :
    (markSending is queue).map (·.body) = queue.map (·.body) := by
  induction queue with
  | nil => rfl
  | cons q rest ih =>
    unfold markSending
    split
    · rfl
    · exact congrArg (q.body :: ·) ih

/-! ## The head (R177) -/

theorem State.head_command {s : State} {c : Command} (h : s.line.queue.findSome? QueuedFrame.command? = some c) :
    s.head = some (.command c) := by simp only [State.head, h]

/-- Without a MATCH frame the head is an event, the status, or nothing. -/
theorem State.head_ne_command {s : State} (h : s.line.queue.findSome? QueuedFrame.command? = none) (c : Command) :
    s.head ≠ some (.command c) := by
  unfold State.head
  simp only [h]
  split
  · exact nofun
  · exact nofun
  · split <;> exact nofun
  · exact nofun
  · exact nofun

/-! ## The check of a MATCH frame (R100) -/

theorem State.passesHead_iff (s : State) (c : Command) : s.passesHead c = true ↔
    c = .halt ∨ (c.accepted s.clock.phase = true ∧ ¬(c = .resume ∧ s.haltInput = true)) := by
  simp [State.passesHead, imp_iff_not_or]

theorem State.passesHead_eq_false_iff (s : State) (c : Command) : s.passesHead c = false ↔
    c ≠ .halt ∧ (c.accepted s.clock.phase = false ∨ (c = .resume ∧ s.haltInput = true)) := by
  rw [← Bool.not_eq_true, s.passesHead_iff, not_or, not_and_or, not_not, Bool.not_eq_true]

theorem State.advance_passesHead (s : State) (d : Nat) : (s.advance d).passesHead = s.passesHead := by
  funext c
  simp only [State.passesHead, State.advance_phase, s.advance_haltInput]

/-- R100, R179: with no MATCH frame that passes, all are removed and nothing is sent at this moment. -/
theorem checkHead_refused {s : State} (hsome : ∃ q ∈ s.line.queue, q.command?.isSome = true)
    (h : Refused s.passesHead s.line.queue) :
    checkHead s = { s with line := { s.line with queue := eventFrames s.line.queue } } := by
  obtain ⟨x, hx⟩ := Option.isSome_iff_exists.mp (List.findSome?_isSome_iff.mpr hsome)
  have unsent : ∀ c, State.head { s with line := { s.line with queue := eventFrames s.line.queue } } ≠ some (.command c) :=
    State.head_ne_command (findSome?_eventFrames _)
  simp only [checkHead, State.head_command hx, h.findSome? hx, Bool.false_eq_true, if_false, dropRefused_refused h]
  split
  · rename_i c hc
    exact absurd hc (unsent c)
  all_goals rfl

/-- R100, R179: the first MATCH frame that passes is sent, the ones before it being removed. -/
theorem checkHead_passing {s : State} {before after : List QueuedFrame} {q : QueuedFrame} {c : Command}
    (hqueue : s.line.queue = before ++ q :: after) (hq : q.body = .command c) (h : Refused s.passesHead before)
    (hc : s.passesHead c = true) :
    checkHead s =
      beginCommand { s with line := { s.line with queue := eventFrames before ++ q :: after } } c := by
  have dropped : dropRefused s.passesHead s.line.queue = eventFrames before ++ q :: after := by
    rw [hqueue, dropRefused_append h, dropRefused_passing hq hc]
  have first : (q :: after).findSome? QueuedFrame.command? = some c := by
    rw [List.findSome?_cons, QueuedFrame.command?_eq_some_iff.mpr hq]
  cases hx : before.findSome? QueuedFrame.command? with
  | none =>
    have head : s.head = some (.command c) := State.head_command (by rw [hqueue, List.findSome?_append, hx, first]; rfl)
    simp only [checkHead, head, hc, if_true, eventFrames_eq_self hx, ← hqueue]
  | some x =>
    have head : s.head = some (.command x) := State.head_command (by rw [hqueue, List.findSome?_append, hx]; rfl)
    have next : State.head { s with line := { s.line with queue := eventFrames before ++ q :: after } } =
        some (.command c) :=
      State.head_command (by dsimp only; rw [List.findSome?_append, findSome?_eventFrames, first]; rfl)
    simp only [checkHead, head, h.findSome? hx, Bool.false_eq_true, if_false, dropped, next]

theorem checkHead_event {s : State} {e : Event} (h : s.head = some (.event e)) : checkHead s = beginEvent s e := by
  simp only [checkHead, h, beginHead]

theorem checkHead_status {s : State} {r : Request} (h : s.head = some .status) (hr : s.picture.request = some r) :
    checkHead s = beginStatus s r := by
  simp only [checkHead, h, beginHead, hr]

/-! ## The attempt (R179) -/

/-- R179, R184, R185: when an attempt can begin. -/
theorem attemptWait_some {s : State} {d : Nat} (h : attemptWait s = some d) :
    s.running = true ∧ s.line.attempt = none := by
  unfold attemptWait at h
  split at h
  · rename_i guard
    simp only [Bool.and_eq_true, Line.isIdle, Option.isNone_iff_eq_none] at guard
    obtain ⟨⟨⟨running, -⟩, -⟩, -, quiet⟩ := guard
    exact ⟨running, quiet⟩
  · cases h

theorem exec_attemptBegin {s : State} {d : Nat} (h : attemptWait s = some d) :
    exec .attemptBegin s = .next (checkHead (s.advance d)) := onExpiry_some (act := checkHead) h

/-- Settles O48: status and event as the head gives them, and the MATCH frames by what the check leaves of the queue. -/
theorem attemptSendsTheHead : Obligations.AttemptSendsTheHead := by
  unfold Obligations.AttemptSendsTheHead
  intro s d hwait
  have began := exec_attemptBegin hwait
  obtain ⟨running, quiet⟩ := attemptWait_some hwait
  have passes := s.advance_passesHead d
  have refused {queue : List QueuedFrame} (h : ∀ q ∈ queue, ∀ x, q.body = .command x →
      x ≠ .halt ∧ (x.accepted s.clock.phase = false ∨ (x = .resume ∧ s.haltInput = true))) :
      Refused (s.advance d).passesHead queue := fun q hq x hx => by
    rw [passes]
    exact (s.passesHead_eq_false_iff x).mpr (h q hq x hx)
  refine ⟨fun r hhead hr => ?_, fun e hhead => ?_, fun c before after age sending hqueue hbefore hc => ?_,
    fun hsome hall => ?_⟩
  · rw [checkHead_status hhead (by simpa using hr)] at began
    refine ⟨_, began, rfl, rfl, ?_, rfl, ?_, rfl, ?_, s.advance_queue d, rfl⟩
    · rw [← s.advance_loader d]; rfl
    · rw [← s.advance_eventsLost d]; rfl
    · rw [← s.advance_now d running]; rfl
  · rw [checkHead_event hhead] at began
    refine ⟨_, began, rfl, ?_, ?_, rfl⟩
    · rw [← s.advance_loader d]; rfl
    · exact (markSending_bodies _ _).trans (by rw [s.advance_queue])
  · rw [checkHead_passing (c := c) ((s.advance_queue d).trans hqueue) rfl (refused hbefore)
      (by rw [passes]; exact (s.passesHead_iff c).mpr hc)] at began
    refine ⟨_, began, rfl, ?_, ?_, rfl⟩
    · rw [← s.advance_loader d, ← s.advance_tick d]; rfl
    · refine markSending_append (fun q hq => ?_) (by simp) after
      simpa using eventFrames_body_ne before hq c
  · rw [checkHead_refused (by simpa using hsome) (by simpa using refused hall)] at began
    refine ⟨_, began, s.advance_attempt_none d quiet, ?_, rfl⟩
    rw [← s.advance_queue d]

end Sys2Proof.Machine
end

section
/-! Proofs for 10_arena_line.md, part 4: the end of an attempt (R180, R181). A success is answered by what was sent; an
abort comes at a read-back, and what it leaves on the line depends on the bit alone in which it comes
(`Line.leaveAttempt`). -/

namespace Sys2Proof.Machine

/-! ## Success (R101, R181) -/

section
variable {s : State} {a : Attempt} (ha : s.line.attempt = some a)
include ha

theorem exec_attemptSuccess : exec .attemptSuccess s = .next (succeed (s.advance a.left)) := by
  have wait : attemptLeft s = some a.left := by simp [attemptLeft, ha]
  exact onExpiry_some (act := succeed) wait

/-- Over time an attempt goes on to send the same. -/
theorem State.advance_attempt_sending (d : Nat) : ∃ b, (s.advance d).line.attempt = some b ∧ b.item = a.item := by
  have same := s.advance_attempt_item d
  rw [ha] at same
  exact Option.map_eq_some_iff.mp same

theorem succeed_event (hitem : a.item = .event) : succeed (s.advance a.left) = sentFrame s a := by
  obtain ⟨b, hb, sending⟩ := State.advance_attempt_sending ha a.left
  have other : Item.event ≠ .status := nofun
  simp only [succeed, hb, sending.trans hitem, if_neg other, sentFrame, State.advance_queue, State.advance_loader]

theorem succeed_status (hitem : a.item = .status) : succeed (s.advance a.left) =
    { sentFrame s a with picture := (sentFrame s a).picture.statusSent } := by
  obtain ⟨b, hb, sending⟩ := State.advance_attempt_sending ha a.left
  simp only [succeed, hb, sending.trans hitem, if_true, sentFrame, State.advance_queue, State.advance_loader]

theorem succeed_command {c : Command} (hitem : a.item = .command c) :
    succeed (s.advance a.left) = takeCommand (sentFrame s a) c := by
  obtain ⟨b, hb, sending⟩ := State.advance_attempt_sending ha a.left
  have other : Item.command c ≠ .status := nofun
  simp only [succeed, hb, sending.trans hitem, if_neg other, sentFrame, State.advance_queue, State.advance_loader]

end

/-- R117, R122: a status sent ends its request, and EVENTS_LOST where its snapshot carried it and it was not set again. -/
theorem Picture.statusSent_eq {p : Picture} {x : InFlight} (h : p.inFlight = some x) :
    p.statusSent =
      { p with inFlight := none, eventsLost := p.eventsLost && !(x.carriedLost && !x.lostAgain) } := by
  simp only [Picture.statusSent, h]

/-! ## The attempt over time (R174, R180) -/

/-- The attempt after a time, `m` from its beginning; none of its bits is over twice. -/
theorem Attempt.elapsed_after {a : Attempt} {m : Nat} (hleft : a.left ≤ 40 * a.bytes.length)
    (hm : m < 40 * a.bytes.length) (hnow : 40 * a.bytes.length - a.left ≤ m) :
    ({ a with left := a.left - (m - (40 * a.bytes.length - a.left)) } : Attempt).elapsed = m := by
  simp only [Attempt.elapsed, Config.characterTime, Config.bitTime]
  omega

theorem Attempt.sent_eq (a : Attempt) : a.sent = a.elapsed / 40 := rfl

theorem Attempt.sent_eq_zero_iff (a : Attempt) : a.sent = 0 ↔ a.elapsed < 40 := by rw [a.sent_eq]; omega

section
variable {s : State} {a : Attempt} (hrun : s.running = true) (ha : s.line.attempt = some a) (d : Nat)
include hrun ha

theorem State.advance_attempt : (s.advance d).line.attempt = some { a with left := a.left - d } := by
  rw [s.advance_line d hrun]
  simp [Line.advance, ha]

/-- R174: until SYNC is out the receiver stays as it was. -/
theorem State.advance_hearing_before (h : ({ a with left := a.left - d } : Attempt).elapsed < 40) :
    (s.advance d).line.receiver = s.line.receiver ∧ (s.advance d).line.received = s.line.received := by
  rw [s.advance_line d hrun]
  simp [Line.advance, Line.hearOwn, ha, (Attempt.sent_eq_zero_iff _).mpr h]

/-- R174: once SYNC is out the receiver is within the station's own frame. -/
theorem State.advance_hearing_after (h : 40 ≤ ({ a with left := a.left - d } : Attempt).elapsed) :
    (s.advance d).line.receiver = .frame ∧
      (s.advance d).line.received = a.bytes.take (({ a with left := a.left - d } : Attempt).elapsed / 40) := by
  rw [s.advance_line d hrun]
  simp [Line.advance, Line.hearOwn, ha, Attempt.sent_eq, Nat.not_lt.mpr h]

end

/-! ## Read-backs (R180) -/

section
variable {a : Attempt} {dt m : Nat} (hread : ReadBackAt a dt m)
include hread

theorem Attempt.readBack_eq (hm : m < 40 * a.bytes.length) :
    a.readBack dt = some (m - (40 * a.bytes.length - a.left)) := by
  obtain ⟨low, high, middle⟩ := hread
  have elapsed : a.elapsed = 40 * a.bytes.length - a.left := rfl
  rw [← elapsed] at low high ⊢
  have wait : (if (a.elapsed + dt + Config.bitTime / 2) % Config.bitTime = 0 then dt
      else dt + (Config.bitTime - (a.elapsed + dt + Config.bitTime / 2) % Config.bitTime)) = m - a.elapsed := by
    split <;> simp only [Config.bitTime] at * <;> omega
  unfold Attempt.readBack
  dsimp only
  rw [wait, if_pos]
  simp only [Config.characterTime, Config.bitTime]
  omega

/-- Past the last stop bit's middle nothing is read back. -/
theorem Attempt.readBack_over (hm : 40 * a.bytes.length ≤ m) : a.readBack dt = none := by
  refine Option.eq_none_iff_forall_ne_some.mpr fun d hd => ?_
  obtain ⟨late, soon, middle, within⟩ := Attempt.readBack_some hd
  obtain ⟨low, high, middle'⟩ := hread
  have elapsed : a.elapsed = 40 * a.bytes.length - a.left := rfl
  omega

end

theorem exec_attemptAbort_readBack {s : State} {a : Attempt} {dt d : Nat} (ha : s.line.attempt = some a)
    (h : a.readBack dt = some d) : exec (.attemptAbort dt) s = .next (abortAttempt (s.advance d)) := by
  change execAttemptAbort dt s = _
  simp only [execAttemptAbort, ha, Option.bind_some, h]

theorem exec_attemptAbort_none {s : State} {dt : Nat} (h : ∀ a, s.line.attempt = some a → a.readBack dt = none) :
    exec (.attemptAbort dt) s = .next (s.advance dt) := by
  rcases execAttemptAbort_cases dt s with ⟨e, -⟩ | ⟨a, d, ha, hd, -⟩
  · exact e
  · rw [h a ha] at hd
    cases hd

/-! ## What an abort leaves (R117, R180) -/

/-- The station after an abort that does not mute it. -/
def State.aborted (s : State) (a : Attempt) : State :=
  { s with
    line := { s.line.leaveAttempt a with
      queue := s.line.queue.map fun q => { q with sending := false }
      aborts := s.line.aborts + 1 }
    picture := if a.item = .status then s.picture.putBack s.now else s.picture }

section
variable {s : State} {a : Attempt} (ha : s.line.attempt = some a)
include ha

theorem abortAttempt_few (h : s.line.aborts < 15) : abortAttempt s = s.aborted a := by
  have few : ¬Config.abortLimit ≤ s.line.aborts + 1 := by simp only [Config.abortLimit]; omega
  simp only [abortAttempt, ha, if_neg few]
  rfl

/-- R183: the 16th consecutive abort. -/
theorem abortAttempt_sixteenth (h : s.line.aborts = 15) : abortAttempt s = enterMuted (s.aborted a) .collisions := by
  simp only [abortAttempt, ha, h]
  rfl

end

/-- R117: a request put back, merged with one raised since: CHANGE if either was. -/
theorem Picture.putBack_eq {p : Picture} {x : InFlight} (h : p.inFlight = some x) (now : Nat) :
    p.putBack now =
      { p with
        inFlight := none
        request := some (if x.request.cls == .change || p.request.any (fun y => y.cls == .change) then
            ⟨.change, max now p.spacingEnd⟩
          else ⟨.periodic, x.request.time⟩) } := by
  simp only [Picture.putBack, h]
  cases p.request with
  | none => cases x.request.cls <;> rfl
  | some y => cases x.request.cls <;> cases hy : y.cls <;> simp [hy, RequestClass.merge]

@[simp] theorem State.advance_lastStatus (s : State) (d : Nat) :
    (s.advance d).picture.lastStatus = s.picture.lastStatus := by
  unfold State.advance; split <;> simp [Picture.advance]

theorem State.advance_spacingEnd (s : State) (d : Nat) :
    (s.advance d).picture.spacingEnd = s.picture.spacingEnd := by
  simp only [Picture.spacingEnd, State.advance_lastStatus]

section
variable (l : Line) {a : Attempt}

/-- R169, R180: in a start bit no character has begun, and the line is quiet; in SYNC's the next idle time begins. -/
theorem Line.leaveAttempt_startBit (h : a.elapsed % 40 < 4) :
    l.leaveAttempt a = { l with
      attempt := none
      busy := 0
      standing := if a.elapsed < 40 then .released else .recessive
      idle := if a.elapsed < 40 then 0 else a.elapsed % 40 } := by
  simp only [Line.leaveAttempt, a.sent_eq_zero_iff]
  exact if_pos h

/-- R169, R180: in any other bit the character goes on, driven where the station's own bit was recessive. -/
theorem Line.leaveAttempt_laterBit (h : 4 ≤ a.elapsed % 40) :
    l.leaveAttempt a = { l with
      attempt := none
      busy := 40 - a.elapsed % 40
      standing := if a.bit then .character (4 - a.elapsed % 4) else .undriven
      idle := 0 } := if_neg (Nat.not_lt.mpr h)

end

/-! ## Waiting after an abort (R178, R179, log entries 4 and 33) -/

/-- What is left of the time to the end of some characters goes down with the time that passes. -/
theorem Line.leastTime_advance (l : Line) (h : l.attempt = none) (n d : Nat) :
    (l.advance d).leastTime n = l.leastTime n - d := by
  have span : (l.advance d).span n = l.span n := by
    simp only [Line.span, l.advance_unheard d h]
    rw [l.advance_quiet d h]
    cases l.standing <;> rfl
  rw [Line.leastTime, span, l.remaining_advance _ d h, Line.leastTime]

theorem Line.missing_advance (l : Line) (h : l.attempt = none) (frame : List Byte) (d : Nat) :
    (l.advance d).missing frame = l.missing frame := by
  rw [l.advance_quiet d h]
  rfl

/-- The end of a frame of another device, as time passes. -/
theorem State.leastTime_missing_advance {s : State} (hrun : s.running = true) (h : s.line.attempt = none)
    (frame : List Byte) (d : Nat) :
    (s.advance d).line.leastTime ((s.advance d).line.missing frame) =
      s.line.leastTime (s.line.missing frame) - d := by
  rw [s.advance_line d hrun, s.line.missing_advance h, s.line.leastTime_advance h]

/-- After an abort in SYNC's start bit no silence is waited for. -/
theorem Line.leastTime_released {l : Line} (hr : l.receiver = .hunt) (hs : l.standing = .released) (hb : l.busy = 0)
    (hi : l.idle = 0) (frame : List Byte) : l.leastTime (l.missing frame) = 40 * frame.length := by
  simp [Line.leastTime, Line.remaining, Line.span, Line.missing, hr, hs, hb, hi, Config.characterTime, Config.bitTime]

/-- A character that is still to be heard is the first of those to come. -/
theorem Line.span_unheard {l : Line} (hu : l.unheard = true) (hr : l.receiver ≠ .skip) (n : Nat) :
    l.span n = 40 * (n - 1) := by
  cases hr' : l.receiver with
  | skip => exact absurd hr' hr
  | frame => simp only [Line.span, hr', hu, if_true]; rfl
  | hunt =>
    cases hs : l.standing with
    | character left => simp only [Line.span, hr', hs]; rfl
    | undriven => simp only [Line.span, hr', hs]; rfl
    | _ => simp [Line.unheard, hs] at hu

theorem Line.leastTime_unheard {l : Line} (hu : l.unheard = true) (hr : l.receiver ≠ .skip) (hi : l.idle = 0) (n : Nat) :
    l.leastTime n = l.busy + 40 * (n - 1) := by
  rw [Line.leastTime, Line.span_unheard hu hr, Line.remaining, hi, Nat.sub_zero]

/-- R179: from the beginning of an idle time a whole hold-off is waited. -/
theorem momentWait_zero (bits : Nat) : momentWait 0 bits = 4 * bits := by
  simp [momentWait, Config.bitTime, Nat.mul_comm]

end Sys2Proof.Machine
end

section
/-! Proofs for 10_arena_line.md, part 5: O49 and O50 settled: the station after an abort that does not mute it, by the bit in
which the abort came; and the mute timer, from the 16th abort to its expiry. -/

namespace Sys2Proof.Machine

/-! ## The line after an abort (R169, R178, R180) -/

@[simp] theorem Line.leaveAttempt_attempt (l : Line) (a : Attempt) : (l.leaveAttempt a).attempt = none := by
  obtain ⟨busy, standing, idle, left⟩ := l.leaveAttempt_cases a; rw [left]

@[simp] theorem Line.leaveAttempt_receiver (l : Line) (a : Attempt) : (l.leaveAttempt a).receiver = l.receiver := by
  obtain ⟨busy, standing, idle, left⟩ := l.leaveAttempt_cases a; rw [left]

@[simp] theorem Line.leaveAttempt_received (l : Line) (a : Attempt) : (l.leaveAttempt a).received = l.received := by
  obtain ⟨busy, standing, idle, left⟩ := l.leaveAttempt_cases a; rw [left]

@[simp] theorem Line.leaveAttempt_lastSender (l : Line) (a : Attempt) :
    (l.leaveAttempt a).lastSender = l.lastSender := by
  obtain ⟨busy, standing, idle, left⟩ := l.leaveAttempt_cases a; rw [left]

@[simp] theorem Line.leaveAttempt_muted (l : Line) (a : Attempt) : (l.leaveAttempt a).muted = l.muted := by
  obtain ⟨busy, standing, idle, left⟩ := l.leaveAttempt_cases a; rw [left]

section
variable (s : State) (a : Attempt)

@[simp] theorem State.aborted_loader : (s.aborted a).loader = s.loader := rfl
@[simp] theorem State.aborted_now : (s.aborted a).now = s.now := rfl
@[simp] theorem State.aborted_ready : (s.aborted a).ready = s.ready := rfl
@[simp] theorem State.aborted_running : (s.aborted a).running = s.running := rfl
@[simp] theorem State.aborted_attempt : (s.aborted a).line.attempt = none := s.line.leaveAttempt_attempt a
@[simp] theorem State.aborted_receiver : (s.aborted a).line.receiver = s.line.receiver := s.line.leaveAttempt_receiver a
@[simp] theorem State.aborted_received : (s.aborted a).line.received = s.line.received := s.line.leaveAttempt_received a
@[simp] theorem State.aborted_lastSender : (s.aborted a).line.lastSender = s.line.lastSender :=
  s.line.leaveAttempt_lastSender a
@[simp] theorem State.aborted_muted : (s.aborted a).line.muted = s.line.muted := s.line.leaveAttempt_muted a

/-- R180: every frame keeps its place, and none is being sent. -/
theorem State.aborted_queue : (s.aborted a).line.queue.map (·.body) = s.line.queue.map (·.body) ∧
    ∀ q ∈ (s.aborted a).line.queue, q.sending = false := by
  simp [State.aborted]

variable {a}

theorem State.aborted_startBit (h : a.elapsed % 40 < 4) :
    (s.aborted a).line.busy = 0 ∧
      (s.aborted a).line.standing = (if a.elapsed < 40 then .released else .recessive) ∧
      (s.aborted a).line.idle = if a.elapsed < 40 then 0 else a.elapsed % 40 := by
  simp only [State.aborted, s.line.leaveAttempt_startBit h, and_self]

theorem State.aborted_laterBit (h : 4 ≤ a.elapsed % 40) :
    (s.aborted a).line.busy = 40 - a.elapsed % 40 ∧
      (s.aborted a).line.standing = (if a.bit then .character (4 - a.elapsed % 4) else .undriven) ∧
      (s.aborted a).line.idle = 0 := by
  simp only [State.aborted, s.line.leaveAttempt_laterBit h, and_self]

theorem State.aborted_reads_startBit (h : a.elapsed % 40 < 4) : (s.aborted a).line.reads = some false := by
  obtain ⟨busy, -, -⟩ := s.aborted_startBit h
  simp [Line.reads, busy]

/-- R180: against the station's own recessive bit the line reads dominant, against a dominant one recessive. -/
theorem State.aborted_reads_laterBit (h : 4 ≤ a.elapsed % 40) : (s.aborted a).line.reads = some a.bit := by
  obtain ⟨busy, standing, -⟩ := s.aborted_laterBit h
  have busy_ne : (s.aborted a).line.busy ≠ 0 := by rw [busy]; omega
  have left_ne : 4 - a.elapsed % 4 ≠ 0 := by omega
  unfold Line.reads
  rw [s.aborted_attempt, if_neg (by simp), if_neg busy_ne, standing]
  cases a.bit with
  | true => exact if_neg left_ne
  | false => rfl

theorem State.aborted_unheard (h : 4 ≤ a.elapsed % 40) : (s.aborted a).line.unheard = true := by
  obtain ⟨-, standing, -⟩ := s.aborted_laterBit h
  unfold Line.unheard
  rw [standing]
  cases a.bit <;> rfl

/-- R180, log entry 33: after an abort in SYNC's start bit the head's moment comes a whole hold-off later. -/
theorem State.aborted_attemptWait (h : a.elapsed < 4) (hrun : s.running = true) (hstation : s.loader.station ≠ 0)
    (hmuted : s.line.muted = none) (hreceiver : s.line.receiver = .hunt) {k : Head} (hk : (s.aborted a).head = some k) :
    attemptWait (s.aborted a) = some (4 * holdOffBits (k.cls (s.aborted a).picture.request)
      (slot s.loader.station s.line.lastSender)) := by
  obtain ⟨busy, -, idle⟩ := s.aborted_startBit (a := a) (by omega)
  rw [if_pos (by omega)] at idle
  simp [attemptWait, Line.isIdle, hrun, hstation, hmuted, hreceiver, hk, busy, idle, momentWait_zero]

/-- A frame begun together with the attempt that was aborted in SYNC's start bit. -/
theorem State.aborted_leastTime_startBit (h : a.elapsed < 4) (hreceiver : s.line.receiver = .hunt)
    (frame : List Byte) :
    (s.aborted a).line.leastTime ((s.aborted a).line.missing frame) = 40 * frame.length := by
  obtain ⟨busy, standing, idle⟩ := s.aborted_startBit (a := a) (by omega)
  rw [if_pos (by omega)] at standing idle
  exact Line.leastTime_released ((s.aborted_receiver a).trans hreceiver) standing busy idle frame

/-- A frame begun together with the attempt that was aborted in a later bit of a character: its characters heard so far
are over. -/
theorem State.aborted_leastTime_laterBit (h : 4 ≤ a.elapsed % 40) {frame : List Byte}
    (hlength : a.elapsed / 40 < frame.length)
    (hearing : (s.line.receiver = .hunt ∧ a.elapsed < 40) ∨
      (s.line.receiver = .frame ∧ s.line.received.length = a.elapsed / 40)) :
    (s.aborted a).line.leastTime ((s.aborted a).line.missing frame) = 40 * frame.length - a.elapsed := by
  obtain ⟨busy, -, idle⟩ := s.aborted_laterBit h
  have missing : (s.aborted a).line.receiver ≠ .skip ∧
      (s.aborted a).line.missing frame = frame.length - a.elapsed / 40 := by
    unfold Line.missing
    rw [s.aborted_receiver, s.aborted_received]
    rcases hearing with ⟨receiver, early⟩ | ⟨receiver, received⟩
    · rw [receiver, Nat.div_eq_of_lt early]
      exact ⟨nofun, rfl⟩
    · rw [receiver, received]
      exact ⟨nofun, rfl⟩
  obtain ⟨receiver, missing⟩ := missing
  rw [Line.leastTime_unheard (s.aborted_unheard h) receiver idle, missing, busy]
  omega

end

/-- Settles O49: success by what was sent; an abort by the bit in which its read-back falls. -/
theorem attemptsEnd : Obligations.AttemptsEnd := by
  unfold Obligations.AttemptsEnd
  refine ⟨fun s a ha => ?_, fun s dt m a hrun ha hfew hleft hread hm => ?_, fun s dt m a hrun ha hleft hread hm => ?_,
    fun s dt ha => exec_attemptAbort_none fun a h => by rw [ha] at h; cases h⟩
  · have done := exec_attemptSuccess ha
    refine ⟨fun hitem => ?_, fun x hitem hx => ?_, fun c hitem hready => ?_⟩
    · rw [done, succeed_event ha hitem]
    · have inFlight : (sentFrame s a).picture.inFlight = some x := (s.advance_inFlight a.left).trans hx
      have lost : (sentFrame s a).picture.eventsLost = s.picture.eventsLost := s.advance_eventsLost a.left
      rw [done, succeed_status ha hitem, Picture.statusSent_eq inFlight, lost]
    · rw [succeed_command ha hitem] at done
      have line := ((QueuesOnly.refl (sentFrame s a)).takeCommand c).line
      have ready : (sentFrame s a).ready = true := by rw [← hready, ← s.advance_ready a.left]; rfl
      refine ⟨_, done, ?_, ?_, ?_, outsideAs_takeCommand _ c, commandAnswered_takeCommand ready c⟩
      all_goals
        rw [line]
        rfl
  · intro d
    obtain ⟨low, -, middle⟩ := id hread
    have abort := exec_attemptAbort_readBack ha (Attempt.readBack_eq hread hm)
    have attempt := State.advance_attempt hrun ha d
    have elapsed := Attempt.elapsed_after hleft hm (by omega)
    have before := State.advance_hearing_before hrun ha d
    have after := State.advance_hearing_after hrun ha d
    have item : ({ a with left := a.left - d } : Attempt).item = a.item := rfl
    rw [abortAttempt_few attempt (by rw [s.advance_aborts]; exact hfew)] at abort
    generalize hb : ({ a with left := a.left - d } : Attempt) = b at *
    change b.elapsed = m at elapsed
    subst elapsed
    have running : ((s.advance d).aborted b).running = true := (s.advance_isRunning d).trans hrun
    obtain ⟨bodies, unsent⟩ := (s.advance d).aborted_queue b
    have noAttempt := (s.advance d).aborted_attempt b
    refine ⟨_, abort, noAttempt, ?_, ?_, unsent, ?_, ?_, ?_, s.advance_now d hrun, rfl, ?_, ?_, ?_, ?_, ?_, ?_, ?_, ?_⟩
    · simp [Line.driverEnabled]
    · rw [bodies, s.advance_queue]
    · exact congrArg (· + 1) (s.advance_aborts d)
    · rw [State.aborted_lastSender, s.advance_lastSender]
    · rw [State.aborted_muted, s.advance_muted]
    · exact fun hitem => if_neg (item ▸ hitem)
    · intro x hitem hx
      have sendingStatus : b.item = .status := item.trans hitem
      rw [← s.advance_inFlight d] at hx
      simp only [State.aborted, if_pos sendingStatus, Picture.putBack_eq hx, s.advance_request, s.advance_spacingEnd,
        s.advance_now d hrun]
      unfold Picture.spacingEnd
      cases s.picture.lastStatus <;> rfl
    · intro h
      rw [State.aborted_receiver, State.aborted_received]
      exact before h
    · intro h
      rw [State.aborted_receiver, State.aborted_received]
      exact after h
    · intro h
      obtain ⟨busy, -, idle⟩ := (s.advance d).aborted_startBit h
      exact ⟨busy, (s.advance d).aborted_reads_startBit h, idle⟩
    · intro h hstation hmuted hreceiver
      obtain ⟨receiver, -⟩ := before (by omega)
      have hunt := receiver.trans hreceiver
      refine ⟨fun k hk => ?_, fun frame e => ?_⟩
      · rw [(s.advance d).aborted_attemptWait h (by simpa using hrun) (by simpa using hstation) (by simpa using hmuted)
          hunt hk, s.advance_loader, s.advance_lastSender]
      · rw [State.leastTime_missing_advance running noAttempt, (s.advance d).aborted_leastTime_startBit h hunt]
    · intro h
      obtain ⟨busy, -, idle⟩ := (s.advance d).aborted_laterBit h
      refine ⟨busy, idle, ?_⟩
      rw [(s.advance d).aborted_reads_laterBit h, attempt, Option.map_some]
    · intro h hhunt frame e hlength
      rw [State.leastTime_missing_advance running noAttempt, (s.advance d).aborted_leastTime_laterBit h hlength]
      rcases Nat.lt_or_ge b.elapsed 40 with early | late
      · obtain ⟨receiver, -⟩ := before early
        exact .inl ⟨receiver.trans (hhunt early), early⟩
      · obtain ⟨receiver, received⟩ := after late
        refine .inr ⟨receiver, ?_⟩
        rw [received, List.length_take]
        omega
  · exact exec_attemptAbort_none fun b hb => by
      obtain rfl := Option.some.inj (ha.symm.trans hb)
      exact Attempt.readBack_over hread hm

/-! ## Muting (R183, R184) -/

/-- R122: EVENTS_LOST is set at a configured station 1–31. -/
theorem State.setEventsLost_eventsLost {s : State} (hready : s.ready = true) (hstation : s.loader.station ≠ 0) :
    s.setEventsLost.picture.eventsLost = true := by
  simp [State.setEventsLost, hready, hstation]

theorem enterMuted_line (s : State) (cause : MuteCause) : (enterMuted s cause).line =
    { s.line with queue := [], aborts := 0, muted := some cause, muteTimer := 10000000 } :=
  State.setEventsLost_line _

theorem enterMuted_eventsLost {s : State} (hready : s.ready = true) (hstation : s.loader.station ≠ 0)
    (cause : MuteCause) : (enterMuted s cause).picture.eventsLost = true :=
  State.setEventsLost_eventsLost (s := { s with line := _ }) hready hstation

/-- R119: an event that finds room joins the queue, and of the field picture only the counter moves on. -/
theorem State.createEvent_joins {s : State} (hready : s.ready = true) (hstation : s.loader.station ≠ 0)
    (hmuted : s.line.muted = none) (hroom : s.line.queue.length < 8) (k : EventKind) (f : Option FixtureNo) (r : Robot)
    (side : Side) (v : Nat) : s.createEvent k f r side v =
      { s with
        picture := { s.picture with eventSeq := s.picture.eventSeq + 1 }
        line := { s.line with queue := s.line.queue ++
          [⟨.event ⟨s.picture.eventSeq, k, f, r.val, side.val, v, s.clock.tick⟩, s.now, false⟩] } } := by
  simp [State.createEvent, hready, hstation, hmuted, hroom, Config.transmitRoom]

/-- The line controller out of MUTED. -/
def State.unmuted (s : State) : State := { s with line := { s.line with muted := none, muteTimer := 0 } }

/-- R184: a configured station raises CHANGE and sends FAULT LINE_MUTED. -/
theorem leaveMuted_eq {s : State} {cause : MuteCause} (hready : s.ready = true) (hmuted : s.line.muted = some cause) :
    leaveMuted s = s.unmuted.raiseChange.createEvent (.fault .lineMuted) none 0 0 cause.value := by
  have configured : s.loader.load ≠ .unconfigured := by
    rw [beq_iff_eq.mp hready]
    exact nofun
  simp only [leaveMuted, hmuted, raiseUnmuted, if_neg configured]
  rfl

theorem exec_muteTimerExpiry {s : State} {cause : MuteCause} (h : s.line.muted = some cause) :
    exec .muteTimerExpiry s = .next (leaveMuted (s.advance s.line.muteTimer)) := by
  have wait : muteWait s = some s.line.muteTimer := by simp [muteWait, h]
  exact onExpiry_some (act := leaveMuted) wait

/-- Settles O50: the 16th abort enters MUTED with the queue emptied, and the event of unmuting is the queue's first. -/
theorem mutingBeginsAndEnds : Obligations.MutingBeginsAndEnds := by
  unfold Obligations.MutingBeginsAndEnds
  refine ⟨fun s dt m a hready hstation ha hcount hleft hread hm => ?_, fun s cause hready hstation hmuted hqueue => ?_⟩
  · intro d
    have hrun := State.ready_running hready
    have abort := exec_attemptAbort_readBack ha (Attempt.readBack_eq hread hm)
    have attempt := State.advance_attempt hrun ha d
    have reports := onlyReports_abortAttempt (s.advance d)
    rw [abortAttempt_sixteenth attempt (by rw [s.advance_aborts]; exact hcount)] at abort reports
    generalize ({ a with left := a.left - d } : Attempt) = b at *
    have line := enterMuted_line ((s.advance d).aborted b) .collisions
    refine ⟨_, abort, ?_, ?_, ?_, ?_, ?_, enterMuted_eventsLost (by simpa using hready) (by simpa using hstation) _, ?_, ?_,
      reports⟩
    · rw [line]
    · rw [line]
    · rw [line]
    · rw [line]
    · rw [line]; exact (s.advance d).aborted_attempt b
    · rw [line]; simp
    · rw [reports]; exact s.advance_now d hrun
  · have hrun := State.ready_running hready
    have expired := exec_muteTimerExpiry hmuted
    have reports := onlyReports_leaveMuted (s.advance s.line.muteTimer)
    rw [leaveMuted_eq (s.advance_ready _ |>.trans hready) (s.advance_muted _ |>.trans hmuted)] at expired reports
    generalize hu : (s.advance s.line.muteTimer).unmuted = u at *
    have ready : u.ready = true := by rw [← hu, ← hready, ← s.advance_ready s.line.muteTimer]; rfl
    have station : u.loader.station ≠ 0 := by rw [← hu]; simpa [State.unmuted] using hstation
    obtain ⟨time, request⟩ := State.raiseChange_request ready station
    have unmuted : u.line.muted = none := by rw [← hu]; rfl
    have queue : u.line.queue = [] := by rw [← hqueue, ← s.advance_queue s.line.muteTimer, ← hu]; rfl
    have seq : u.picture.eventSeq = s.picture.eventSeq := by rw [← s.advance_eventSeq s.line.muteTimer, ← hu]; rfl
    have now : u.now = s.now + s.line.muteTimer := by rw [← s.advance_now _ hrun, ← hu]; rfl
    have tick : u.clock.tick = s.clock.tick := by rw [← s.advance_tick s.line.muteTimer, ← hu]; rfl
    have joined := State.createEvent_joins (s := u.raiseChange) (by simpa [State.ready] using ready) (by simpa using station)
      (by simpa using unmuted) (by simp [queue]) (.fault .lineMuted) none 0 0 cause.value
    refine ⟨_, expired, ?_, ?_, ?_, ?_, ⟨time, ?_⟩, reports⟩
    all_goals rw [joined]
    · exact (u.raiseChange_now).trans now
    · simpa using unmuted
    · simp [queue, seq, now, tick]
    · simp [seq]
    · exact request

end Sys2Proof.Machine
end

section
/-! Proofs for 11_field_script_and_start_up.md, part 1: O2, O18 and O19 settled. RESET, RESET_ASSERTED and an unusable script
all come to `State.restart`, so that what holds of a station at its start-up state is said of that once. -/

namespace Sys2Proof.Machine

/-! ## The start-up state (R187) -/

/-- No unit puts out anything: every pair is SINGLE, and no unit is bound. -/
theorem Pulse.output_dark {p : Pulse} {u : UnitNo} (single : ∀ i : PairNo, p.pairs[i].mode = .single)
    (off : p.units[u].binding = .off) : p.output u = false := by
  simp only [Pulse.output, single, Pulse.ownOutput, off]

section
variable (u : UnitNo)

theorem Pulse.start_unit : Pulse.start.units[u] = PulseUnit.start := by simp [Pulse.start]

theorem Pulse.start_pair (i : PairNo) : Pulse.start.pairs[i] = Pair.start := by simp [Pulse.start]

theorem Pulse.start_output : Pulse.start.output u = false :=
  Pulse.output_dark (fun i => by rw [Pulse.start_pair]; rfl) (by rw [Pulse.start_unit]; rfl)

end

theorem startUp_restart (s : State) (l : Loader) : StartUp (s.restart l) :=
  ⟨rfl, rfl, rfl, fun p => by simp [State.restart], rfl, rfl, rfl, rfl, rfl, rfl, rfl, Pulse.start_output⟩

/-- The state after reset is the start-up state of its own loader: every beacon port reads inactive. -/
theorem reset_eq_restart : State.reset = State.reset.restart State.reset.loader := by
  have ports : State.reset.ports = Vector.ofFn fun i => { Port.start with active := (State.reset.ports[i]).active } := by
    ext p hp; simp [State.reset, Port.start]
  exact congrArg (fun v => { State.reset with ports := v }) ports

/-! ## What a fresh station keeps by having nothing yet -/

theorem Fresh.queuesBounded {s : State} (h : Fresh s) : QueuesBounded s := by
  refine ⟨?_, ?_, ?_, fun f => ?_⟩
  · rw [h.line]; exact Nat.zero_le _
  · exact (congrArg List.length (h.starts .A)).trans_le (Nat.zero_le _)
  · exact (congrArg List.length (h.starts .B)).trans_le (Nat.zero_le _)
  · rw [(h.fixtures f).queue]; exact Nat.zero_le _

theorem Fresh.allowancesSound {s : State} (h : Fresh s) : AllowancesSound s := fun f => (h.fixtures f).allowance

theorem Fresh.singleHold {s : State} (h : Fresh s) : SingleHold s := fun _ f _ _ _ _ k _ hk => by
  rw [(h.fixtures f).holder] at hk
  cases hk

theorem Untallied.zonesSound {s : State} (h : Untallied s) : ZonesSound s := fun f => by
  rw [h.control]
  exact ⟨fun _ _ _ _ _ => Nat.zero_le _, fun _ _ => rfl, fun e => absurd rfl e⟩

theorem Untallied.countsSaturate {s : State} (h : Untallied s) : CountsSaturate s := by
  unfold CountsSaturate
  rw [h.tick, h.points]
  exact ⟨Nat.zero_le _, Nat.zero_le _, Nat.zero_le _, Nat.zero_le _, Nat.zero_le _, fun f => by rw [h.scoring]; exact Nat.zero_le _⟩

/-- Settles O2: the state after reset is one of the start-up states of `State.restart`, and of those each invariant is
known. -/
theorem resetStateIsStartUp : Obligations.ResetStateIsStartUp := by
  unfold Obligations.ResetStateIsStartUp
  have loading : State.reset.loader.load = .loading := rfl
  have fresh : Fresh State.reset := by
    rw [reset_eq_restart]; exact fresh_restart _ _ (m := Line.start) rfl
  have untallied : Untallied State.reset := by
    rw [reset_eq_restart]; exact untallied_restart _ _ Line.start
  refine ⟨loading, ?_, holdOffsBounded_of_nil rfl, ?_, fresh.queuesBounded, untallied.zonesSound, fresh.allowancesSound,
    untallied.countsSaturate, ?_, fresh.singleHold, ?_, nofun, .of_silent rfl rfl (by decide),
    .of_start rfl rfl rfl rfl, fun h => absurd (loading.symm.trans h) nofun⟩
  · rw [reset_eq_restart]; exact startUp_restart _ _
  · rw [reset_eq_restart]; exact sightsBounded_restart _ (by exact nofun) Line.start
  · rw [reset_eq_restart]; exact claimsSound_restart _ _
  · rw [reset_eq_restart]; exact haltSound_restart _ _

/-! ## RESET and RESET_ASSERTED (R187, R188) -/

/-- R188: a loader in LOADING sends 03 00 00 00, each bit over the two halves of a clock. -/
theorem Loader.spiSends_loading {l : Loader} (h : l.load = .loading) : l.spiSends.map (·.2) =
    ([0x03#8, 0x00#8, 0x00#8, 0x00#8].flatMap fun b : Byte =>
      [7, 6, 5, 4, 3, 2, 1, 0].map b.getLsbD).flatMap fun x => [x, x] := by
  unfold Loader.spiSends
  rw [if_pos h]
  decide

theorem Loader.spiSends_idle {l : Loader} (h : l.load ≠ .loading) : l.spiSends = [] := if_neg h

/-- Settles O18: both commands come to `State.restart`, with the loader of each. -/
theorem resetPutsEveryBlockAtStart : Obligations.ResetPutsEveryBlockAtStart := by
  unfold Obligations.ResetPutsEveryBlockAtStart
  refine ⟨fun straps s => ⟨_, rfl, rfl, rfl, rfl, startUp_restart _ _, rfl, rfl, Loader.spiSends_loading rfl⟩,
    fun s => ⟨_, rfl, rfl, rfl, Loader.spiSends_idle (by exact nofun), rfl, rfl, startUp_restart _ _, rfl⟩⟩

/-! ## An unusable script (R190, R195) -/

theorem execLoadEnd_unusable {miso : List Bool} {s : State} {f : ScriptFault} (pins : LoadPins)
    (loading : s.loader.load = .loading) (judged : judgeScript (scriptImage miso) = .unusable f) :
    exec (.loadEnd miso pins) s = .next (loadUnconfigured pins.dominant s) := by
  change execLoadEnd miso pins s = _
  unfold execLoadEnd
  rw [if_pos loading, judged]

theorem execLoadEnd_good {miso : List Bool} {s : State} {records : List Record} (pins : LoadPins)
    (loading : s.loader.load = .loading) (judged : judgeScript (scriptImage miso) = .good records) :
    exec (.loadEnd miso pins) s = .next (loadReady (readScript records) pins s) := by
  change execLoadEnd miso pins s = _
  unfold execLoadEnd
  rw [if_pos loading, judged]

/-- R195: an absent fixture is no part of the summary and no jammed goal. -/
theorem snapshot_start {s : State} (unconfigured : s.loader.load = .unconfigured) (engine : s.engine = Engine.start)
    (clock : s.clock = Clock.start) (inputs : s.inputs = Inputs.start) (runners : s.runners = Runners.start)
    (eventsLost : s.picture.eventsLost = false) :
    s.snapshot = ⟨.idle, .idle, 0, ⟨true, false, false, false, false⟩, PerSide.all 0, []⟩ := by
  have absent (f : FixtureNo) : s.fixture f = Fixture.absent := by simp [State.fixture, engine, Engine.start]
  have inactive : s.haltInput = false := by rw [State.haltInput, inputs]; decide
  have summary : s.summary = [] := by
    unfold State.summary
    exact List.filterMap_eq_nil_iff.mpr fun f _ => by rw [absent]; rfl
  have unjammed : s.jamFlag = false := by
    unfold State.jamFlag
    exact List.any_eq_false.mpr fun f _ => by rw [absent]; decide
  unfold State.snapshot State.statusFlags
  rw [summary, unjammed, inactive, unconfigured, engine, clock, runners, eventsLost]
  rfl

/-- Settles O19. -/
theorem unusableScriptLeavesUnconfigured : Obligations.UnusableScriptLeavesUnconfigured := by
  unfold Obligations.UnusableScriptLeavesUnconfigured
  intro miso pins s f loading judged
  exact ⟨_, execLoadEnd_unusable pins loading judged, rfl, rfl, startUp_restart s _, rfl,
    Line.fallen_reads _ _ rfl, rfl, snapshot_start rfl rfl rfl rfl rfl rfl⟩

end Sys2Proof.Machine
end

section
/-! Proofs for 11_field_script_and_start_up.md, part 2: O14 settled. At an UNCONFIGURED station no fixture, runner, input or
pattern has anything to run out, so that most expiries never come (`Inert.never`); what is left touches the line controller
and the field picture, and there nothing but a PERIODIC request is raised (`Picture.PeriodicOnly`). -/

namespace Sys2Proof.Machine

/-! ## A station that is not configured raises nothing (R106, R195) -/

section
variable {s : State} (h : s.ready = false)
include h

theorem State.setEventsLost_unready : s.setEventsLost = s := by simp [State.setEventsLost, h]

theorem State.createEvent_unready (k : EventKind) (f : Option FixtureNo) (r : Robot) (side : Side) (v : Nat) :
    s.createEvent k f r side v = s := by simp [State.createEvent, h]

theorem takeCommand_unready (c : Command) : takeCommand s c = s := by simp [takeCommand, h]

theorem completeWord_unready (p : PortNo) (r : Robot) (i : BitVec 2) : completeWord p r i s = s := by
  simp [completeWord, h]

end

/-! ## Start-up values over time -/

theorem Fixture.absent_advance (d e : Nat) : Fixture.absent.advance d e = Fixture.absent := by
  have scoring : Fixture.absent.advanceScoring e = Scoring.start := by
    simp [Fixture.advanceScoring, Fixture.graceRuns, Fixture.liveGoal, Fixture.kind?, Fixture.absent]
  have left : Fixture.absent.transientLeft - d = 0 := Nat.zero_sub d
  unfold Fixture.advance
  rw [scoring, left]
  rfl

theorem Engine.start_advance (now d e : Nat) : Engine.start.advance now d e = Engine.start := by
  have fixtures : (Vector.ofFn fun i => (Engine.start.fixtures[i]).advance d e) = Engine.start.fixtures := by
    ext i hi : 1
    simp [Engine.start, Fixture.absent_advance]
  unfold Engine.advance
  rw [fixtures]
  rfl

theorem PulseUnit.advance_pattern_none {x : PulseUnit} (h : x.pattern = none) (safe : Bool) (d : Nat) :
    (x.advance safe d).pattern = none := by simp [PulseUnit.advance, h]

/-! ## What the field picture asks for (R115, R117, R122) -/

/-- No event has been created or lost, and the only requests are PERIODIC ones. -/
structure Picture.PeriodicOnly (p : Picture) : Prop where
  eventSeq : p.eventSeq = 0
  eventsLost : p.eventsLost = false
  request : ∀ r, p.request = some r → r.cls = .periodic
  inFlight : ∀ x, p.inFlight = some x → x.request.cls = .periodic

namespace Picture.PeriodicOnly

theorem start : Picture.start.PeriodicOnly := ⟨rfl, rfl, nofun, nofun⟩

variable {p : Picture} (h : p.PeriodicOnly)
include h

theorem raisePeriodic (now : Nat) : (p.raisePeriodic now).PeriodicOnly := by
  unfold Picture.raisePeriodic
  split
  · exact h
  · exact ⟨h.eventSeq, h.eventsLost, fun r hr => by cases hr; rfl, h.inFlight⟩

theorem statusSent : p.statusSent.PeriodicOnly := by
  cases hx : p.inFlight with
  | none => simpa only [Picture.statusSent, hx] using h
  | some x =>
    rw [Picture.statusSent_eq hx]
    exact ⟨h.eventSeq, by simp [h.eventsLost], h.request, nofun⟩

/-- R117: a PERIODIC request put back meets no CHANGE to be merged with. -/
theorem putBack (now : Nat) : (p.putBack now).PeriodicOnly := by
  cases hx : p.inFlight with
  | none => simpa only [Picture.putBack, hx] using h
  | some x =>
    have pending : p.request.any (fun r => r.cls == .change) = false := by
      cases hr : p.request with
      | none => rfl
      | some r => simp [h.request r hr]
    rw [Picture.putBack_eq hx, h.inFlight x hx, pending]
    exact ⟨h.eventSeq, h.eventsLost, fun r hr => by cases hr; rfl, nofun⟩

end Picture.PeriodicOnly

/-! ## The inert station (R195) -/

/-- An UNCONFIGURED station with what R195 says of it. That its outputs are dark follows from its units and pairs. -/
structure Inert (s : State) : Prop where
  load : s.loader.load = .unconfigured
  engine : s.engine = Engine.start
  clock : s.clock = Clock.start
  sights : ∀ p : PortNo, s.ports[p].sights = []
  inputs : s.inputs = Inputs.start
  runners : s.runners = Runners.start
  safe : s.pulse.safe = false
  units : ∀ u : UnitNo, s.pulse.units[u].binding = .off ∧ s.pulse.units[u].pattern = none
  pairs : ∀ p : PairNo, s.pulse.pairs[p].mode = .single
  queue : s.line.queue = []
  picture : s.picture.PeriodicOnly

theorem unconfiguredInert_iff (s : State) : UnconfiguredInert s ↔ (s.loader.load = .unconfigured → Inert s) := by
  refine forall_congr' fun load => ⟨fun h => ?_, fun h => ?_⟩
  · obtain ⟨engine, clock, sights, inputs, runners, -, safe, units, pairs, queue, eventSeq, eventsLost, request,
      inFlight⟩ := h
    exact ⟨load, engine, clock, sights, inputs, runners, safe, units, pairs, queue,
      ⟨eventSeq, eventsLost, request, inFlight⟩⟩
  · have ⟨eventSeq, eventsLost, request, inFlight⟩ := h.picture
    exact ⟨h.engine, h.clock, h.sights, h.inputs, h.runners, fun u => Pulse.output_dark h.pairs (h.units u).1, h.safe,
      h.units, h.pairs, h.queue, eventSeq, eventsLost, request, inFlight⟩

namespace Inert

variable {s t : State} (h : Inert s)
include h

theorem ready : s.ready = false := by rw [State.ready, h.load]; rfl

theorem running : s.running = true := by rw [State.running, h.load]; rfl

theorem fixture (f : FixtureNo) : s.fixture f = Fixture.absent := by simp [State.fixture, h.engine, Engine.start]

theorem runner (r : RunnerId) : s.runner r = Runner.start := by
  unfold State.runner
  rw [h.runners]
  cases r <;> rfl

theorem setLine {l : Line} (queue : l.queue = []) : Inert { s with line := l } := { h with queue := queue }

theorem setPicture {p : Picture} (periodic : p.PeriodicOnly) : Inert { s with picture := p } := { h with picture := periodic }

theorem pop (l : List Instr) : Inert { s with pending := l } := { h with }

theorem advance (d : Nat) : Inert (s.advance d) := by
  have block := State.advance_running s d h.running
  obtain ⟨units, pairs, -⟩ := s.advance_pulse_setAs d
  refine ⟨?_, ?_, ?_, fun p => ?_, ?_, ?_, ?_, fun u => ⟨?_, ?_⟩, fun p => ?_, ?_, ⟨?_, ?_, ?_, ?_⟩⟩
  · rw [State.advance_loader, h.load]
  · rw [block]
    exact (congrArg (Engine.advance · _ d _) h.engine).trans (Engine.start_advance _ d _)
  · rw [block]
    exact congrArg (Clock.advance · d) h.clock
  · rw [block]
    have none : s.ports[p.val].sights = [] := h.sights p
    simp [Port.advance, none]
  · rw [block]
    show s.inputs.advance s.ready d = _
    rw [h.ready, h.inputs]
    rfl
  · rw [block]
    exact congrArg (Runners.advance · d) h.runners
  · rw [State.advance_safe, h.safe]
  · obtain ⟨binding, -⟩ := units u
    exact binding.trans (h.units u).1
  · rw [block]
    simpa [Pulse.advance] using PulseUnit.advance_pattern_none (h.units u).2 s.pulse.safe d
  · obtain ⟨mode, -⟩ := pairs p
    exact mode.trans (h.pairs p)
  · rw [State.advance_queue, h.queue]
  · rw [State.advance_eventSeq, h.picture.eventSeq]
  · rw [State.advance_eventsLost, h.picture.eventsLost]
  · rw [State.advance_request]; exact h.picture.request
  · rw [State.advance_inFlight]; exact h.picture.inFlight

/-! ### Received characters and frames (R110, R169, R174, R175, R182) -/

theorem skip (d i : Nat) : Inert (s.skip d i) := h.setLine ((Line.skip_queue _ d i).trans h.queue)

theorem hear (heard : Heard) : Inert (s.hear heard) := h.setLine ((Line.hear_queue _ _).trans h.queue)

theorem abandon (cause : AbandonCause) : Inert (State.abandon cause s) := by
  unfold State.abandon
  split
  · exact h.skip _ _
  · exact h.skip _ _
  · split
    · exact h.skip _ _
    all_goals exact h

theorem setPeer (n : StationNo) (row : PeerRow) : Inert (s.setPeer n row) := by
  unfold State.setPeer
  split
  · exact h.setPicture ⟨h.picture.eventSeq, h.picture.eventsLost, h.picture.request, h.picture.inFlight⟩
  · exact h

/-- R183, R195: EVENTS_LOST is not set. -/
theorem enterMuted (cause : MuteCause) : Inert (enterMuted s cause) := by
  have muted : Inert { s with line := { s.line with
      queue := [], aborts := 0, muted := some cause, muteTimer := Config.muteTime } } := h.setLine rfl
  unfold Machine.enterMuted
  rw [State.setEventsLost_unready muted.ready]
  exact muted

theorem meetTwin : Inert (meetTwin s) := by
  unfold Machine.meetTwin
  split
  · exact h.enterMuted .twin
  · exact h.setLine h.queue

/-- R110: the row is replaced, and not handed on. -/
theorem takeStatus (p : StationNo) (payload : List Byte) : Inert (takeStatus s p payload) := by
  unfold Machine.takeStatus
  split
  · exact h
  · split
    · exact h
    · rename_i r _
      have heard := h.setPeer p ⟨true, 0, r.phase, r.resume, r.tick, r.entries⟩
      dsimp only
      rw [if_neg (by rw [h.ready]; nofun)]
      exact heard

theorem takeFrame (kind : FrameKind) (sender : StationNo) (payload : List Byte) :
    Inert (takeFrame s kind sender payload) := by
  have noted : Inert { s with line := { s.line with lastSender := sender } } := h.setLine h.queue
  unfold Machine.takeFrame
  dsimp only
  generalize hu : (if sender = s.loader.station then _ else _ : State) = u
  have met : Inert u := by
    rw [← hu]
    split
    · exact noted.meetTwin
    · exact noted
  split
  · split
    · rw [takeCommand_unready met.ready]; exact met
    · exact met
  · exact met.takeStatus _ _
  · exact met

theorem receiveFrame {wanted : Judgement → Bool} {dt : Nat} {frame : List Byte}
    (hr : receiveFrame wanted dt frame s = .next t) : Inert t := by
  have skipped (d : Nat) : Inert ((s.advance d).skip 0 0) := (h.advance d).skip 0 0
  rcases receiveFrame_cases wanted dt frame s with ⟨e, -⟩ | ⟨-, -, -, e⟩ <;> rw [e] at hr <;>
    obtain rfl := Host.Outcome.next.inj hr
  · exact h.advance dt
  · split
    · exact (skipped _).takeFrame _ _ _
    all_goals exact skipped _

/-! ### Attempts and requests (R115, R117, R179–R181, R184) -/

/-- R177: with an empty queue a status is all there may be to send. -/
theorem head_cases : s.head = none ∨ s.head = some .status := by
  unfold State.head
  rw [h.queue]
  cases s.eligibleRequest with
  | none => exact .inl rfl
  | some r => exact .inr rfl

theorem beginAttempt (item : Item) (bytes : List Byte) : Inert (beginAttempt s item bytes) :=
  h.setLine ((Line.fallen_queue _ 0).trans h.queue)

theorem beginStatus {r : Request} (hr : r.cls = .periodic) : Inert (beginStatus s r) :=
  have asked : Picture.PeriodicOnly { s.picture with
      request := none, inFlight := some ⟨r, s.picture.eventsLost, false⟩, statusTimer := 0, statusRaised := false,
      lastStatus := some s.now } :=
    ⟨h.picture.eventSeq, h.picture.eventsLost, nofun, fun _ hx => Option.some.inj hx ▸ hr⟩
  (h.setPicture asked).beginAttempt _ _

theorem checkHead : Inert (checkHead s) := by
  unfold Machine.checkHead
  rcases h.head_cases with e | e <;> rw [e]
  · exact h
  · unfold beginHead
    dsimp only
    split
    · rename_i r hr
      exact h.beginStatus (h.picture.request r hr)
    · exact h

theorem succeed : Inert (succeed s) := by
  unfold Machine.succeed
  split
  · exact h
  · rename_i a _
    have sent : (if a.item = .status then s.picture.statusSent else s.picture).PeriodicOnly := by
      split
      · exact h.picture.statusSent
      · exact h.picture
    have left : s.line.queue.filter (fun q => !q.sending) = [] := by rw [h.queue]; rfl
    have ended := (h.setLine (l := { s.line with
      queue := s.line.queue.filter fun q => !q.sending, attempt := none, aborts := 0, lastSender := s.loader.station,
      receiver := .skip, received := [], busy := 0, standing := .recessive, idle := 0 }) left).setPicture sent
    dsimp only
    split
    · rw [takeCommand_unready ended.ready]; exact ended
    all_goals exact ended

theorem aborted (a : Attempt) : Inert (s.aborted a) := by
  have back : (if a.item = .status then s.picture.putBack s.now else s.picture).PeriodicOnly := by
    split
    · exact h.picture.putBack s.now
    · exact h.picture
  have sent : s.line.queue.map (fun q => { q with sending := false }) = [] := by rw [h.queue]; rfl
  exact (h.setLine (l := { s.line.leaveAttempt a with
    queue := s.line.queue.map fun q => { q with sending := false }, aborts := s.line.aborts + 1 }) sent).setPicture back

theorem abortAttempt : Inert (abortAttempt s) := by
  unfold Machine.abortAttempt
  split
  · exact h
  · rename_i a _
    dsimp only
    split
    · exact (h.aborted a).enterMuted .collisions
    · exact h.aborted a

/-- R184, R195: what an UNCONFIGURED station raises on leaving MUTED is a PERIODIC request, and the event is none. -/
theorem leaveMuted : Inert (leaveMuted s) := by
  unfold Machine.leaveMuted
  split
  · exact h
  · have unmuted : Inert { s with line := { s.line with muted := none, muteTimer := 0 } } := h.setLine h.queue
    have raised := unmuted.setPicture (unmuted.picture.raisePeriodic s.now)
    unfold raiseUnmuted
    rw [if_pos unmuted.load, State.createEvent_unready raised.ready]
    exact raised

theorem raiseStatus : Inert (raiseStatus s) :=
  have raised := h.picture.raisePeriodic s.now
  h.setPicture ⟨raised.eventSeq, raised.eventsLost, raised.request, raised.inFlight⟩

/-- R86: the level of a beacon pin is followed, and no word is judged. -/
theorem changeLevel (p : PortNo) (active : Bool) : Inert (changeLevel p active s) := by
  have followed : Inert (s.setPort p { s.ports[p] with active := active, elapsed := 0 }) :=
    { h with
      sights := fun q => by
        rw [State.setPort_ports]
        split
        · exact h.sights p
        · exact h.sights q }
  unfold Machine.changeLevel
  dsimp only
  rw [h.ready]
  split
  · exact h
  · exact followed

/-! ### Every command -/

/-- An expiry that cannot come. -/
theorem never {wait : State → Option Nat} {act : State → State} (he : onExpiry wait act s = .next t)
    (hw : wait s = none) : Inert t := by
  rw [onExpiry_none hw] at he
  obtain rfl := Host.Outcome.next.inj he
  exact h

theorem expiry {wait : State → Option Nat} {act : State → State} (he : onExpiry wait act s = .next t)
    (hact : ∀ u, Inert u → Inert (act u)) : Inert t := by
  rcases onExpiry_cases he with rfl | ⟨d, -, rfl⟩
  · exact h
  · exact hact _ (h.advance d)

theorem timed {dt : Nat} {act : State → State} (he : afterTime dt act s = .next t)
    (hact : ∀ u, Inert u → Inert (act u)) : Inert t := by
  obtain rfl := Host.Outcome.next.inj he
  exact hact _ (h.advance dt)

theorem command {dt : Nat} {c : Command} (he : afterTime dt (takeCommand · c) s = .next t) : Inert t :=
  h.timed he fun u hu => by rw [takeCommand_unready hu.ready]; exact hu

/-- An absent fixture is nobody's hold, no goal, and due for nothing. -/
theorem lostWait (f : FixtureNo) : lostWait f s = none := by unfold Machine.lostWait; rw [h.fixture]; rfl
theorem queuedLostWait (f : FixtureNo) (r : Robot) : queuedLostWait f r s = none := by
  unfold Machine.queuedLostWait; rw [h.fixture]; rfl
theorem graceWait (f : FixtureNo) : graceWait f s = none := by unfold Machine.graceWait; rw [h.fixture]; rfl
theorem jamWait (f : FixtureNo) : jamWait f s = none := by unfold Machine.jamWait; rw [h.fixture]; rfl
theorem unjamWait (f : FixtureNo) : unjamWait f s = none := by unfold Machine.unjamWait; rw [h.fixture]; rfl
theorem transientWait (f : FixtureNo) : transientWait f s = none := by unfold Machine.transientWait; rw [h.fixture]; rfl
theorem overstayed (f : FixtureNo) : overstayed f s = false := by unfold Machine.overstayed; rw [h.fixture]; rfl
theorem refillDue (f : FixtureNo) : refillDue f s = false := by unfold Machine.refillDue; rw [h.fixture]; rfl

/-- Every command but those of a reset and a load. -/
theorem exec {c : Instr} (hc : c.reconfigures = false) (he : exec c s = .next t) : Inert t := by
  cases c with
  | reset _ => cases hc
  | loadEnd _ _ => cases hc
  | resetAsserted => cases hc
  | sighting dt p r i =>
    exact h.timed (act := completeWord p r i) he fun u hu => by rw [completeWord_unready hu.ready]; exact hu
  | holdOffExpiry r f =>
    exact h.never (wait := holdOffWait r f) (act := dropHoldOff r f) he (by unfold holdOffWait; rw [h.engine]; rfl)
  | sightExpiry p r =>
    exact h.never (wait := sightWait p r) (act := dropSight p r) he (by unfold sightWait; rw [h.sights]; rfl)
  | lost f => exact h.never (act := fun s => settle s [.release f .lost]) he (h.lostWait f)
  | queuedLost f r => exact h.never (act := fun s => dropQueued s f r) he (h.queuedLostWait f r)
  | overstay f =>
    obtain rfl := Host.Outcome.next.inj he
    rw [h.overstayed f]
    exact h
  | countedTick =>
    exact h.never (wait := tickWait) (act := countTick) he (by unfold tickWait; rw [h.ready]; rfl)
  | refill f =>
    obtain rfl := Host.Outcome.next.inj he
    rw [h.refillDue f]
    exact h
  | periodEnd =>
    obtain rfl := Host.Outcome.next.inj he
    rw [if_neg (by unfold periodOver; rw [h.ready]; nofun)]
    exact h
  | graceEnd f => exact h.never (act := endGrace f) he (h.graceWait f)
  | jam f => exact h.never (act := jamGoal f) he (h.jamWait f)
  | unjam f => exact h.never (act := unjamGoal f) he (h.unjamWait f)
  | transientEnd f => exact h.never (act := endTransient f) he (h.transientWait f)
  | inputSample pins =>
    exact h.never (wait := sampleWait) (act := fun s => takeLatches (sampleRecords s pins Input.sample)) he
      (by unfold sampleWait; rw [h.ready]; rfl)
  | start dt => exact h.command (c := .start) he
  | halt dt => exact h.command (c := .halt) he
  | resume dt => exact h.command (c := .resume) he
  | clear dt => exact h.command (c := .clear) he
  | statusReceived dt frame => exact h.receiveFrame (wanted := Judgement.isValid .status) he
  | eventFrameReceived dt frame => exact h.receiveFrame (wanted := Judgement.isValid .event) he
  | frameDiscard dt frame => exact h.receiveFrame (wanted := (· == .discarded)) he
  | matchFrameReceived dt frame => exact h.receiveFrame (wanted := Judgement.isValid .command) he
  | frameAbandon dt cause =>
    change execFrameAbandon dt cause s = _ at he
    unfold execFrameAbandon at he
    split at he <;> obtain rfl := Host.Outcome.next.inj he
    · exact (h.advance _).abandon cause
    · exact h.advance dt
  | statusTimerExpiry => exact h.expiry (wait := statusWait) (act := Machine.raiseStatus) he fun _ hu => hu.raiseStatus
  | changeEligible => exact h.expiry (wait := changeWait) (act := id) he fun _ hu => hu
  | attemptBegin => exact h.expiry (wait := attemptWait) (act := Machine.checkHead) he fun _ hu => hu.checkHead
  | attemptSuccess => exact h.expiry (wait := attemptLeft) (act := Machine.succeed) he fun _ hu => hu.succeed
  | attemptAbort dt =>
    change execAttemptAbort dt s = _ at he
    rcases execAttemptAbort_cases dt s with ⟨e, -⟩ | ⟨a, d, -, -, e⟩ <;> rw [e] at he <;>
      obtain rfl := Host.Outcome.next.inj he
    · exact h.advance dt
    · exact (h.advance d).abortAttempt
  | muteTimerExpiry => exact h.expiry (wait := muteWait) (act := Machine.leaveMuted) he fun _ hu => hu.leaveMuted
  | patternPhaseEnd u =>
    exact h.never (wait := patternWait u) (act := endPatternPhase u) he
      (by unfold patternWait; rw [(h.units u).2]; exact ite_self _)
  | delayEnd r =>
    exact h.never (wait := delayWait r) (act := fun s => settle s [.moveOn r]) he
      (by unfold delayWait; rw [h.runner]; rfl)
  | lampPhaseEnd u =>
    exact h.never (wait := lampWait u) (act := endLampPhase u) he
      (if_neg fun lit => by rw [(h.units u).1] at lit; cases lit.1)
  | beaconLevelChange dt p active =>
    exact h.timed (act := Machine.changeLevel p active) he fun _ hu => hu.changeLevel p active
  | beaconWindowOverrun p =>
    exact h.never (wait := overrunWait p) (act := overrun p) he (by unfold overrunWait; rw [h.ready]; rfl)
  | nonSyncCharacter dt line =>
    change execNonSyncCharacter dt line s = _ at he
    rcases execNonSyncCharacter_cases dt line s with ⟨e, -⟩ | ⟨heard, -, -, e⟩ <;> rw [e] at he <;>
      obtain rfl := Host.Outcome.next.inj he
    · exact h.advance dt
    · exact (h.advance _).hear heard
  | receiverReturnToHunt =>
    exact h.expiry (wait := huntWait) (act := returnToHunt) he fun _ hu => hu.setLine hu.queue

end Inert

/-! ## Reset and load -/

/-- What the outside gave, but for the input block. -/
def OutsideButInputs (s t : State) : Prop := OutsideAs { s with inputs := t.inputs } t

namespace OutsideButInputs
variable {s t u : State}

theorem refl (s : State) : OutsideButInputs s s := OutsideAs.refl s

theorem trans (h : OutsideButInputs s t) (k : OutsideButInputs t u) : OutsideButInputs s u := by
  obtain ⟨loader, settings, now, ports, -, sides, pending⟩ := h
  obtain ⟨loader', settings', now', ports', -, sides', pending'⟩ := k
  exact ⟨loader'.trans loader, settings'.trans settings, now'.trans now, ports'.trans ports, rfl, sides'.trans sides,
    pending'.trans pending⟩

theorem of_outsideAs (h : OutsideAs s t) : OutsideButInputs s t := by
  obtain ⟨loader, settings, now, ports, -, sides, pending⟩ := h
  exact ⟨loader, settings, now, ports, rfl, sides, pending⟩

theorem raiseChange (h : OutsideButInputs s t) : OutsideButInputs s t.raiseChange :=
  h.trans (.of_outsideAs (outsideAs_raiseChange t))

end OutsideButInputs

theorem outsideButInputs_sampleRecords (s : State) (pins : BitVec 12) (sample : Input → Bool → Input) :
    OutsideButInputs s (sampleRecords s pins sample) := by
  unfold sampleRecords
  dsimp only
  split
  · exact ⟨rfl, rfl, rfl, rfl, rfl, rfl, rfl⟩
  · exact .raiseChange ⟨rfl, rfl, rfl, rfl, rfl, rfl, rfl⟩

theorem outsideButInputs_takeLatch (s : State) (i : InputNo) : OutsideButInputs s (takeLatch s i) := by
  cases hset : (s.inputs.records[i]).latch with
  | false => rw [takeLatch_of_clear hset]; exact .refl s
  | true =>
    by_cases hi : s.HasTaker i
    · obtain ⟨outside, -⟩ := takeLatch_hasTaker hset hi
      exact OutsideButInputs.trans (t := s.latchTaken i) ⟨rfl, rfl, rfl, rfl, rfl, rfl, rfl⟩ (.of_outsideAs outside)
    · rw [takeLatch_of_not_hasTaker hi]; exact .refl s

theorem outsideButInputs_takeLatches (s : State) : OutsideButInputs s (takeLatches s) :=
  List.foldlRecOn inputNumbers takeLatch (motive := OutsideButInputs s) (.refl s)
    fun u hu i _ => hu.trans (outsideButInputs_takeLatch u i)

/-- R194: a good load gives the station its script's values by `State.configure`, and what follows touches neither them nor
what the outside gave, but for the inputs. -/
theorem outsideButInputs_loadReady (script : Script) (pins : LoadPins) (s : State) :
    OutsideButInputs (s.configure script pins.dominant) (loadReady script pins s) :=
  (((OutsideButInputs.of_outsideAs (outsideAs_showIndicators _)).trans
    (outsideButInputs_sampleRecords _ _ _)).raiseChange).trans (outsideButInputs_takeLatches _)

theorem inert_loadUnconfigured (dominant : Nat) (s : State) : Inert (loadUnconfigured dominant s) where
  load := rfl
  engine := rfl
  clock := rfl
  sights p := by simp [loadUnconfigured, State.restart, Port.start]
  inputs := rfl
  runners := rfl
  safe := rfl
  units u := by
    show (Pulse.start.units[u]).binding = _ ∧ (Pulse.start.units[u]).pattern = _
    rw [Pulse.start_unit]
    exact ⟨rfl, rfl⟩
  pairs p := by
    show (Pulse.start.pairs[p]).mode = _
    rw [Pulse.start_pair]
    rfl
  queue := rfl
  picture := .start

/-- The commands of a reset and a load: only an unusable script leaves the station UNCONFIGURED. -/
theorem unconfiguredInert_reconfigures {c : Instr} {s t : State} (hs : UnconfiguredInert s) (hc : c.reconfigures = true)
    (he : exec c s = .next t) : UnconfiguredInert t := by
  cases c with
  | reset straps => obtain rfl := Host.Outcome.next.inj he; exact fun load => nomatch load
  | resetAsserted => obtain rfl := Host.Outcome.next.inj he; exact fun load => nomatch load
  | loadEnd miso pins =>
    change execLoadEnd miso pins s = _ at he
    unfold execLoadEnd at he
    split at he
    · split at he <;> obtain rfl := Host.Outcome.next.inj he
      · intro load
        rw [(outsideButInputs_loadReady _ pins s).loader] at load
        cases load
      · exact (unconfiguredInert_iff _).mpr fun _ => inert_loadUnconfigured _ s
    · obtain rfl := Host.Outcome.next.inj he; exact hs
  | _ => cases hc

/-- What keeps the load state. -/
theorem exec_load {c : Instr} {s t : State} (hc : c.reconfigures = false) (he : exec c s = .next t) :
    t.loader = s.loader := by
  have same := (blockwise_configuration s.configuration).kept.exec hc he rfl
  exact congrArg Configuration.loader same

/-- Settles O14: an UNCONFIGURED station was so before, and no command but a reset or a load moves an inert one. -/
theorem unconfiguredStaysInert : Obligations.UnconfiguredStaysInert := by
  unfold Obligations.UnconfiguredStaysInert
  intro s t hs hstep
  unfold step at hstep
  split at hstep
  · obtain rfl := Host.Outcome.next.inj hstep
    rw [unconfiguredInert_iff] at hs ⊢
    intro load
    exact (hs (by simpa using load)).advance 1
  · rename_i c rest _
    cases hc : c.reconfigures with
    | true => exact unconfiguredInert_reconfigures (s := { s with pending := rest }) hs hc hstep
    | false =>
      rw [unconfiguredInert_iff] at hs ⊢
      intro load
      have before : s.loader.load = .unconfigured := by rw [← load, exec_load hc hstep]
      exact ((hs before).pop rest).exec hc hstep

end Sys2Proof.Machine
end

section
/-! Proofs for 11_field_script_and_start_up.md, part 3: what the lamps show at the end of a load (R20, R165–R167). No two
fixtures keep one lamp unit, so that in a walk through the fixtures each kept unit is handed its own fixture's indicator
state and no other (`Lights.exists_unit_eq`). -/

namespace Sys2Proof.Machine

/-! ## Kept lamp units (R20, R192) -/

/-- The configuration a FIXTURE record gives a fixture number, its lamp unit not yet settled. -/
def scriptConfig (records : List Record) (f : FixtureNo) : Option FixtureConfig :=
  (fixtureRecord records f).map fun x => readFixture x.1 x.2

theorem keptLamp_some {configs : Vector (Option FixtureConfig) 8} {units : Vector PulseUnit 8} {f : FixtureNo}
    {c : FixtureConfig} {u : UnitNo} (h : keptLamp configs units f c = some u) :
    c.lamp = some u ∧ ∀ g : FixtureNo, g < f → configs[g].bind FixtureConfig.lamp ≠ some u := by
  unfold keptLamp at h
  split at h
  · cases h
  · rename_i v hv
    split at h
    · rename_i kept
      obtain rfl := Option.some.inj h
      obtain ⟨-, first⟩ := kept
      refine ⟨hv, fun g hg named => ?_⟩
      have lower : g ∈ below f := List.mem_filter.mpr ⟨mem_fixtureNumbers g, decide_eq_true hg⟩
      simp only [Bool.not_eq_true', List.any_eq_false] at first
      exact first g lower (beq_iff_eq.mpr named)
    · cases h

/-- A lamp unit kept by a fixture is named by its record and by no lower-numbered fixture's. -/
theorem readScript_lamp {records : List Record} {f : FixtureNo} {u : UnitNo}
    (h : ((readScript records).fixtures[f]).lamp? = some u) :
    (scriptConfig records f).bind FixtureConfig.lamp = some u ∧
      ∀ g : FixtureNo, g < f → (scriptConfig records g).bind FixtureConfig.lamp ≠ some u := by
  simp only [readScript, Fin.getElem_fin, Vector.getElem_ofFn] at h
  split at h
  · rename_i hconfig _
    obtain ⟨own, lower⟩ := keptLamp_some h
    refine ⟨?_, fun g hg => ?_⟩
    · rw [show scriptConfig records f = _ from hconfig]
      exact own
    · simpa [scriptConfig] using lower g hg
  · cases h

theorem readScript_lamp_inj {records : List Record} {f g : FixtureNo} {u : UnitNo}
    (hf : ((readScript records).fixtures[f]).lamp? = some u) (hg : ((readScript records).fixtures[g]).lamp? = some u) :
    f = g := by
  obtain ⟨namedF, belowF⟩ := readScript_lamp hf
  obtain ⟨namedG, belowG⟩ := readScript_lamp hg
  rcases lt_trichotomy f g with lt | rfl | gt
  · exact absurd namedF (belowG f lt)
  · rfl
  · exact absurd namedG (belowF g gt)

/-- R167: the units as the script gives them. -/
theorem readUnits_idle (body : Option (List Byte)) (pairs : Vector Pair 4) (u : UnitNo) :
    ((readUnits body pairs)[u]).lastDriver = none ∧ ((readUnits body pairs)[u]).lamp.running = none := by
  simp only [readUnits, Fin.getElem_fin, Vector.getElem_ofFn]
  cases body <;> exact ⟨rfl, rfl⟩

/-! ## Changes of the lamps alone (R165) -/

/-- Of the pulse units only what the lamps show, and the safe state, has changed. -/
structure Pulse.LampsOnly (p q : Pulse) : Prop where
  units : ∀ u : UnitNo, ∃ l : Lamp, q.units[u] = { p.units[u] with lamp := l } ∧ l.map = (p.units[u]).lamp.map
  pairs : q.pairs = p.pairs
  patterns : q.patterns = p.patterns

namespace Pulse.LampsOnly
variable {p q r : Pulse}

theorem of_eq (units : q.units = p.units) (pairs : q.pairs = p.pairs) (patterns : q.patterns = p.patterns) :
    p.LampsOnly q := ⟨fun u => ⟨_, by rw [units], rfl⟩, pairs, patterns⟩

theorem refl (p : Pulse) : p.LampsOnly p := of_eq rfl rfl rfl

theorem trans (h : p.LampsOnly q) (k : q.LampsOnly r) : p.LampsOnly r := by
  refine ⟨fun u => ?_, k.pairs.trans h.pairs, k.patterns.trans h.patterns⟩
  obtain ⟨l, hl, map⟩ := h.units u
  obtain ⟨m, hm, map'⟩ := k.units u
  exact ⟨m, by rw [hm, hl], by rw [map', hl]; exact map⟩

theorem driver (h : p.LampsOnly q) (u : UnitNo) : q.units[u].driver = p.units[u].driver := by
  obtain ⟨l, hl, -⟩ := h.units u
  rw [hl]

theorem enterSafe (p : Pulse) : p.LampsOnly p.enterSafe := by
  refine ⟨fun u => ?_, ?_, p.enterSafe_setAs.patterns⟩
  · unfold Pulse.enterSafe
    split
    · exact ⟨_, rfl, rfl⟩
    · simp only [Pulse.retarget, Fin.getElem_fin, Vector.getElem_ofFn]
      split
      · exact ⟨_, rfl, Lamp.take_map _ _ _ _⟩
      · exact ⟨_, rfl, rfl⟩
  · unfold Pulse.enterSafe
    split <;> rfl

end Pulse.LampsOnly

theorem lampsOnly_handOver (s : State) (f : FixtureNo) (i : Indicator) :
    s.pulse.LampsOnly (s.handOver f i).pulse := by
  unfold State.handOver
  split
  · exact .refl _
  · rename_i u _
    refine ⟨fun v => ?_, rfl, rfl⟩
    rw [State.setUnit_units]
    split
    · rename_i e
      subst e
      exact ⟨_, rfl, PulseUnit.handOver_map _ _ _⟩
    · exact ⟨_, rfl, rfl⟩

theorem lampsOnly_refreshIndicator (s : State) (f : FixtureNo) : s.pulse.LampsOnly (s.refreshIndicator f).pulse := by
  unfold State.refreshIndicator
  dsimp only
  split
  · exact .refl _
  · exact lampsOnly_handOver (s.setFixture f _) f _

/-! ## What a unit shows (R165, R166) -/

/-- The unit runs its state map's pattern for this indicator state. -/
def PulseUnit.Shows (x : PulseUnit) (i : Indicator) : Prop := x.lamp.running = some (.index x.lamp.map[i.index])

theorem PulseUnit.Shows.of_running {x : PulseUnit} {l : Lamp} {i : Indicator}
    (running : l.running = some (.index x.lamp.map[i.index])) (map : l.map = x.lamp.map) :
    PulseUnit.Shows { x with lamp := l } i := by
  unfold PulseUnit.Shows
  rw [map, running]

/-- R166: a target becomes the running pattern where none runs, or at once. -/
theorem Lamp.take_running {l : Lamp} {atOnce : Bool} (h : l.running = none ∨ atOnce = true) (p : Pulse) (t : LampTarget) :
    (l.take p atOnce t).running = some t := by
  unfold Lamp.take
  split
  · assumption
  · have begins : (atOnce || !l.waits p) = true := by
      rcases h with none | once
      · simp [Lamp.waits, none]
      · simp [once]
    rw [if_pos begins]
    rfl

/-- Outside the safe state a unit shows what is handed to it where it shows nothing yet, and HALTED at once. -/
theorem PulseUnit.handOver_shows {x : PulseUnit} {p : Pulse} {i : Indicator} (safe : p.safe = false)
    (now : x.lamp.running = none ∨ i = .halted) : (x.handOver p i).Shows i := by
  have target : Lamp.target { x.lamp with handed := some i } p.safe = .index x.lamp.map[i.index] := by rw [safe]; rfl
  unfold PulseUnit.handOver
  dsimp only at target ⊢
  rw [target]
  have runs := Lamp.take_running (l := { x.lamp with handed := some i }) (atOnce := i == .halted)
    (now.imp_right fun e => by rw [e]; rfl) p (.index x.lamp.map[i.index])
  exact .of_running runs (Lamp.take_map _ _ _ _)

theorem Pulse.retarget_unit (p : Pulse) (began : Bool) (u : UnitNo) : (p.retarget began).units[u] =
    if p.units[u].binding = .lamp then
      { p.units[u] with lamp := p.units[u].lamp.take p began (p.units[u].lamp.target p.safe) }
    else p.units[u] := by
  simp [Pulse.retarget]

/-- R162: the safe state changes nothing where HALTED is shown. -/
theorem PulseUnit.Shows.enterSafe {p : Pulse} {u : UnitNo} (h : p.units[u].Shows .halted) :
    p.enterSafe.units[u].Shows .halted := by
  unfold Pulse.enterSafe
  split
  · exact h
  · rw [Pulse.retarget_unit]
    split
    · exact .of_running (Lamp.take_running (.inr rfl) _ _) (Lamp.take_map _ _ _ _)
    · exact h

theorem State.handOver_eq {s : State} {f : FixtureNo} {u : UnitNo} (h : (s.fixture f).lamp? = some u) (i : Indicator) :
    s.handOver f i = s.setUnit u (s.pulse.units[u].handOver s.pulse i) := by
  unfold State.handOver
  rw [h]

theorem handOver_shows {s : State} {f : FixtureNo} {u : UnitNo} {i : Indicator} (h : (s.fixture f).lamp? = some u)
    (safe : s.pulse.safe = false) (now : s.pulse.units[u].lamp.running = none ∨ i = .halted) :
    (s.handOver f i).pulse.units[u].Shows i := by
  rw [State.handOver_eq h, State.setUnit_units, if_pos rfl]
  exact PulseUnit.handOver_shows safe now

/-! ## A walk through the fixtures (R2, R20) -/

/-- What each fixture in turn does to the lamps: it touches no lamp unit but its own, and no fixture's choice of one. -/
structure Lights (act : State → FixtureNo → State) : Prop where
  lamp : ∀ s g f, ((act s g).fixture f).lamp? = (s.fixture f).lamp?
  other : ∀ s g (u : UnitNo), (s.fixture g).lamp? ≠ some u → (act s g).pulse.units[u] = s.pulse.units[u]

theorem handOver_unit_other {s : State} {g : FixtureNo} {u : UnitNo} (h : (s.fixture g).lamp? ≠ some u) (i : Indicator) :
    (s.handOver g i).pulse.units[u] = s.pulse.units[u] := by
  cases hl : (s.fixture g).lamp? with
  | none => simp only [State.handOver, hl]
  | some v =>
    have apart : v ≠ u := fun e => h (e ▸ hl)
    rw [State.handOver_eq hl, State.setUnit_units, if_neg apart]

theorem lights_handOver : Lights fun s f => s.handOver f (s.fixture f).indicator where
  lamp s g f := by rw [State.handOver_fixture]
  other _ _ _ h := handOver_unit_other h _

theorem lights_refreshIndicator : Lights State.refreshIndicator where
  lamp s g f := by unfold Fixture.lamp?; rw [State.refreshIndicator_config]
  other s g u h := by
    unfold State.refreshIndicator
    dsimp only
    split
    · rfl
    · exact handOver_unit_other (s := s.setFixture g _) (by rwa [State.setFixture_fixture_same]) _

namespace Lights
variable {act : State → FixtureNo → State} (k : Lights act)
include k

theorem foldl_unit {u : UnitNo} (l : List FixtureNo) : ∀ {s : State}, (∀ g ∈ l, (s.fixture g).lamp? ≠ some u) →
    (l.foldl act s).pulse.units[u] = s.pulse.units[u] := by
  induction l with
  | nil => exact fun _ => rfl
  | cons g l ih =>
    intro s h
    rw [List.foldl_cons, ih fun f hf => by rw [k.lamp]; exact h f (List.mem_cons_of_mem g hf)]
    exact k.other s g u (h g (List.mem_cons_self ..))

theorem foldl_lamp (l : List FixtureNo) (s : State) (f : FixtureNo) :
    ((l.foldl act s).fixture f).lamp? = (s.fixture f).lamp? :=
  List.foldlRecOn l act (motive := fun v => (v.fixture f).lamp? = (s.fixture f).lamp?) rfl
    fun v hv g _ => (k.lamp v g f).trans hv

/-- A unit that f alone keeps ends as f leaves it, and f finds it as it stood. -/
theorem exists_unit_eq {s : State} {f : FixtureNo} {u : UnitNo} (alone : ∀ g, (s.fixture g).lamp? = some u → g = f) :
    ∃ before : List FixtureNo, f ∉ before ∧ (before.foldl act s).pulse.units[u] = s.pulse.units[u] ∧
      (fixtureNumbers.foldl act s).pulse.units[u] = (act (before.foldl act s) f).pulse.units[u] := by
  obtain ⟨before, after, split⟩ := List.append_of_mem (mem_fixtureNumbers f)
  have nodup := fixtureNumbers_nodup
  rw [split, List.nodup_middle, List.nodup_cons, List.mem_append, not_or] at nodup
  obtain ⟨⟨hbefore, hafter⟩, -⟩ := nodup
  refine ⟨before, hbefore, k.foldl_unit before fun g hg named => hbefore (alone g named ▸ hg), ?_⟩
  rw [split, List.foldl_append, List.foldl_cons]
  refine k.foldl_unit after fun g hg named => hafter (alone g ?_ ▸ hg)
  rwa [k.lamp, k.foldl_lamp] at named

end Lights

/-! ## The end of a load and a HALT at it (R20, R165, R167) -/

section
variable {s : State} {f : FixtureNo} {u : UnitNo} (safe : s.pulse.safe = false) (kept : (s.fixture f).lamp? = some u)
  (alone : ∀ g, (s.fixture g).lamp? = some u → g = f)
include safe kept alone

/-- Each kept lamp shows its fixture's indicator state. -/
theorem showIndicators_shows (none : s.pulse.units[u].lamp.running = none) :
    (showIndicators s).pulse.units[u].Shows (s.fixture f).indicator := by
  obtain ⟨before, -, untouched, final⟩ := lights_handOver.exists_unit_eq alone
  have stands := List.foldlRecOn before (fun s f => s.handOver f (s.fixture f).indicator)
    (motive := fun v : State => v.pulse.safe = false ∧ v.engine = s.engine) ⟨safe, rfl⟩
    fun v hv g _ => ⟨(v.handOver_safe g _).trans hv.1, (v.handOver_engine g _).trans hv.2⟩
  unfold showIndicators
  rw [final]
  generalize before.foldl _ s = v at stands untouched ⊢
  obtain ⟨safe', engine⟩ := stands
  have fixture : v.fixture f = s.fixture f := by rw [State.fixture, engine]; rfl
  rw [← fixture] at kept ⊢
  exact handOver_shows kept safe' (.inl (by rw [untouched, none]))

/-- Each kept lamp shows HALTED. -/
theorem refreshIndicators_shows_halted (halted : s.clock.phase = .halted) (unhalted : (s.fixture f).indicator ≠ .halted) :
    (fixtureNumbers.foldl State.refreshIndicator s).pulse.units[u].Shows .halted := by
  obtain ⟨before, hbefore, -, final⟩ := lights_refreshIndicator.exists_unit_eq alone
  have phase := (onlyShows_refreshIndicators before s).clock
  have fixture := refreshIndicators_fixture f before s
  have safe' := List.foldlRecOn before State.refreshIndicator (motive := fun v : State => v.pulse.safe = false) safe
    fun v hv g _ => (v.refreshIndicator_safe g).trans hv
  rw [if_neg hbefore] at fixture
  rw [final]
  generalize before.foldl State.refreshIndicator s = v at phase fixture safe' ⊢
  have shown : indicatorOf v.clock.phase (v.fixture f) = .halted := by rw [phase, halted]; rfl
  have changes : v.refreshIndicator f =
      (v.setFixture f { v.fixture f with indicator := .halted }).handOver f .halted := by
    unfold State.refreshIndicator
    dsimp only
    rw [shown, if_neg fun e => unhalted (by rw [← fixture, ← e])]
  rw [changes]
  refine handOver_shows ?_ safe' (.inr rfl)
  rw [State.setFixture_fixture_same, fixture]
  exact kept

theorem halting_shows (unhalted : (s.fixture f).indicator ≠ .halted) : s.halting.pulse.units[u].Shows .halted := by
  unfold State.halting
  generalize hw : ({ s with clock := { s.clock with resume := s.clock.phase, phase := .halted } } : State) = w
  have engine : w.engine = s.engine := by rw [← hw]
  have fixture (g : FixtureNo) : w.fixture g = s.fixture g := by rw [State.fixture, engine]; rfl
  refine refreshIndicators_shows_halted (f := f) ?_ ?_ ?_ ?_ ?_
  · rw [← hw]; exact safe
  · rw [fixture]; exact kept
  · simpa only [fixture] using alone
  · rw [← hw]
  · rw [fixture]; exact unhalted

end

theorem lampsOnly_showIndicators (s : State) : s.pulse.LampsOnly (showIndicators s).pulse :=
  List.foldlRecOn fixtureNumbers _ (motive := fun v : State => s.pulse.LampsOnly v.pulse) (.refl _)
    fun v hv f _ => hv.trans (lampsOnly_handOver v f _)

theorem lampsOnly_refreshIndicators (fs : List FixtureNo) (s : State) :
    s.pulse.LampsOnly (fs.foldl State.refreshIndicator s).pulse :=
  List.foldlRecOn fs State.refreshIndicator (motive := fun v : State => s.pulse.LampsOnly v.pulse) (.refl _)
    fun v hv f _ => hv.trans (lampsOnly_refreshIndicator v f)

theorem lampsOnly_halting (s : State) : s.pulse.LampsOnly s.halting.pulse :=
  lampsOnly_refreshIndicators fixtureNumbers
    { s with clock := { s.clock with resume := s.clock.phase, phase := .halted } }

end Sys2Proof.Machine
end

section
/-! Proofs for 11_field_script_and_start_up.md, part 4: O20 settled. `Started` says what a good load leaves, HALTED or not;
the first samples bring nothing but frames to queue and, by a level HALT input alone, the HALT itself. -/

namespace Sys2Proof.Machine

/-! ## A CHANGE request that is pending stands (R116) -/

/-- A CHANGE request is pending. -/
def Picture.AsksChange (p : Picture) : Prop := ∃ time, p.request = some ⟨.change, time⟩

theorem State.raiseChange_of_asks {s : State} (h : s.picture.AsksChange) : s.raiseChange = s := by
  obtain ⟨time, request⟩ := h
  unfold State.raiseChange Picture.raiseChange
  split
  · simp only [request]
  · rfl

theorem Picture.AsksChange.setEventsLost {s : State} (h : s.picture.AsksChange) : s.setEventsLost.picture.AsksChange := by
  unfold State.setEventsLost
  split
  · rw [State.raiseChange_of_asks h, ite_self]
    exact h
  · exact h

theorem Picture.AsksChange.queueCommand {s : State} (h : s.picture.AsksChange) (c : Command) :
    (s.queueCommand c).picture.AsksChange := by
  unfold State.queueCommand
  split
  · dsimp only
    split
    · exact h
    · split
      · exact Picture.AsksChange.setEventsLost (by exact h)
      · exact h
  · exact h

/-! ## A stop that finds nothing to stop (R150) -/

theorem State.setRunner_self (s : State) (r : RunnerId) : s.setRunner r (s.runner r) = s := by cases r <;> rfl

theorem Pulse.stop_undriven {p : Pulse} {r : RunnerId} (h : ∀ u : UnitNo, p.units[u].driver ≠ some r) : p.stop r = p := by
  have units : (Vector.ofFn fun i => if (p.units[i]).driver = some r then (p.units[i]).released else p.units[i]) = p.units := by
    ext i hi : 1
    rw [Vector.getElem_ofFn]
    exact if_neg (h ⟨i, hi⟩)
  exact congrArg (fun v => { p with units := v }) units

theorem haltRunner_idle {s : State} {r : RunnerId} (idle : s.runner r = Runner.start)
    (undriven : ∀ u : UnitNo, s.pulse.units[u].driver ≠ some r) : haltRunner s r = s := by
  have stopped : s.stopped r = s := by
    unfold State.stopped
    rw [Pulse.stop_undriven undriven, ← idle]
    exact s.setRunner_self r
  rw [haltRunner_eq, stopped, State.stopReports_none (by rw [idle]; exact nofun) (by rw [idle]; exact nofun), settle_nil]

theorem haltRunners_idle {s : State} (idle : ∀ r, s.runner r = Runner.start)
    (undriven : ∀ u : UnitNo, s.pulse.units[u].driver = none) : haltRunners s = s := by
  have one (r : RunnerId) : haltRunner s r = s := haltRunner_idle (idle r) fun u => by rw [undriven u]; nofun
  unfold haltRunners
  rw [one, one]

/-- R93 at a station whose runners play nothing: HALTED is shown and the safe state begins. -/
theorem applyHalt_idle {s : State} (idle : ∀ r, s.runner r = Runner.start)
    (undriven : ∀ u : UnitNo, s.pulse.units[u].driver = none) :
    applyHalt s = State.raiseChange { s.halting with pulse := s.halting.pulse.enterSafe } := by
  have stopped : haltRunners s.halting = s.halting :=
    haltRunners_idle (fun r => (halting_runner s r).trans (idle r)) fun u => ((lampsOnly_halting s).driver u).trans (undriven u)
  have applied : applyHalt s =
      State.raiseChange { haltRunners s.halting with pulse := (haltRunners s.halting).pulse.enterSafe } := by
    unfold applyHalt changePhase State.halting
    exact announce_halted _ rfl
  rw [applied, stopped]

/-- R57: a goal that does not count takes its latch and does nothing. -/
theorem takePiece_idle {s : State} {f : FixtureNo} (h : (s.fixture f).state = .dead ∨ (s.fixture f).state = .dormant) :
    takePiece s f = s := by
  unfold takePiece
  dsimp only
  split
  · rfl
  · split
    · split
      · rfl
      · rcases h with e | e <;> rw [e]
    all_goals rfl

/-- R66: a jam timer at 0 stays there at a change of its input. -/
theorem Fixture.inputChanged_start {x : Fixture} (h : x.scoring = Scoring.start) (changed : Bool) :
    x.inputChanged changed = x := by
  unfold Fixture.inputChanged
  split
  · have same : { x.scoring with jamTimer := 0 } = x.scoring := by rw [h]; rfl
    rw [same]
  · rfl

theorem sampleRecords_engine {s : State} (pins : BitVec 12) (sample : Input → Bool → Input)
    (h : ∀ f, (s.fixture f).scoring = Scoring.start) : (sampleRecords s pins sample).engine = s.engine := by
  have fixtures (g : FixtureNo → Bool) : (Vector.ofFn fun i => (s.engine.fixtures[i]).inputChanged (g i)) = s.engine.fixtures := by
    ext i hi : 1
    rw [Vector.getElem_ofFn]
    exact Fixture.inputChanged_start (h ⟨i, hi⟩) _
  unfold sampleRecords
  dsimp only
  rw [fixtures]
  split
  · rfl
  · rw [State.raiseChange_engine]

theorem sampleRecords_pulse (s : State) (pins : BitVec 12) (sample : Input → Bool → Input) :
    (sampleRecords s pins sample).pulse = s.pulse := by
  unfold sampleRecords
  dsimp only
  split
  · rfl
  · rw [State.raiseChange_pulse]

theorem sampleRecords_runners (s : State) (pins : BitVec 12) (sample : Input → Bool → Input) :
    (sampleRecords s pins sample).runners = s.runners := by
  unfold sampleRecords
  dsimp only
  split
  · rfl
  · rw [State.raiseChange_runners]

/-! ## What a good load leaves (R194) -/

/-- The pulse units as a script gives them. -/
def Script.pulse (x : Script) : Pulse := ⟨x.units, x.pairs, x.patterns, false⟩

/-- A station whose blocks stand as its script configures them, in IDLE, or halted there. -/
structure Configured (script : Script) (halted : Bool) (t : State) : Prop where
  ready : t.ready = true
  clock : t.clock = { Clock.start with
    phase := if halted then .halted else .idle, periods := script.periods, ends := boundaries script.periods }
  runners : t.runners = { Runners.start with store := script.store }
  holdOff : t.engine.holdOff = []
  points : t.engine.points = PerSide.all 0
  fixture : ∀ f : FixtureNo, t.fixture f = { script.fixtures[f] with
    indicator := if halted then .halted else (script.fixtures[f]).indicator }
  lampsOnly : script.pulse.LampsOnly t.pulse
  safe : t.pulse.safe = halted
  shows : ∀ (f : FixtureNo) (u : UnitNo), (t.fixture f).lamp? = some u → t.pulse.units[u].Shows (t.fixture f).indicator

/-- What leaves those blocks. -/
theorem Configured.of_same {script : Script} {halted : Bool} {s t : State} (h : Configured script halted s)
    (loader : t.loader = s.loader) (clock : t.clock = s.clock) (runners : t.runners = s.runners)
    (engine : t.engine = s.engine) (pulse : t.pulse = s.pulse) : Configured script halted t where
  ready := by rw [State.ready, loader]; exact h.ready
  clock := clock.trans h.clock
  runners := runners.trans h.runners
  holdOff := by rw [engine, h.holdOff]
  points := by rw [engine, h.points]
  fixture f := by rw [State.fixture, engine]; exact h.fixture f
  lampsOnly := by rw [pulse]; exact h.lampsOnly
  safe := by rw [pulse, h.safe]
  shows f u := by rw [State.fixture, engine, pulse]; exact h.shows f u

/-- The same with a CHANGE request pending, but at station 0 (R118, R123). -/
structure Started (script : Script) (halted : Bool) (t : State) : Prop extends Configured script halted t where
  asks : t.loader.station ≠ 0 → t.picture.AsksChange

/-- R21: no fixture shows HALTED before the first sample, and each is DEAD or DORMANT. -/
theorem readScript_unhalted (records : List Record) (f : FixtureNo) :
    ((readScript records).fixtures[f]).indicator ≠ .halted ∧
      (((readScript records).fixtures[f]).state = .dead ∨ ((readScript records).fixtures[f]).state = .dormant) := by
  rcases readScript_fixture records f with absent | ⟨c, dead, loaded⟩
  · rw [absent]; exact ⟨nofun, .inl rfl⟩
  · rw [loaded]
    cases dead
    · exact ⟨nofun, .inr rfl⟩
    · exact ⟨nofun, .inl rfl⟩

/-- The configured station, its inputs sampled and its first CHANGE raised, and no latch taken. -/
def State.firstSampled (s : State) (script : Script) (pins : LoadPins) : State :=
  (sampleRecords (showIndicators (s.configure script pins.dominant)) pins.inputs Input.firstSample).raiseChange

theorem loadReady_eq (script : Script) (pins : LoadPins) (s : State) :
    loadReady script pins s = takeLatches (s.firstSampled script pins) := rfl

theorem takes_loadReady (s : State) (script : Script) (pins : LoadPins) :
    Takes (s.firstSampled script pins) (loadReady script pins s) := takes_takeLatches _

theorem showIndicators_safe (s : State) : (showIndicators s).pulse.safe = s.pulse.safe := by
  unfold showIndicators
  exact List.foldlRecOn fixtureNumbers (fun s f => s.handOver f (s.fixture f).indicator)
    (motive := fun u : State => u.pulse.safe = s.pulse.safe) rfl fun u hu f _ => (u.handOver_safe f _).trans hu

/-- R167: each fixture hands its indicator state to the lamp it keeps. -/
theorem configured_showIndicators (s : State) (records : List Record) (dominant : Nat) :
    Configured (readScript records) false (showIndicators (s.configure (readScript records) dominant)) := by
  have lamp {f g : FixtureNo} {u : UnitNo} := readScript_lamp_inj (records := records) (f := f) (g := g) (u := u)
  have idle (u : UnitNo) : ((readScript records).units[u]).lamp.running = none := (readUnits_idle _ _ u).2
  generalize readScript records = script at *
  generalize hc : s.configure script dominant = c
  have fixture (f : FixtureNo) : c.fixture f = script.fixtures[f] := by rw [← hc]; rfl
  have pulse : c.pulse = script.pulse := by rw [← hc]; rfl
  have engine := showIndicators_engine c
  have same (f : FixtureNo) : (showIndicators c).fixture f = script.fixtures[f] := by
    rw [State.fixture, engine]; exact fixture f
  refine ⟨?_, ?_, ?_, ?_, ?_, same, ?_, ?_, fun f u kept => ?_⟩
  · rw [State.ready, showIndicators_loader, ← hc]; rfl
  · rw [showIndicators_clock, ← hc]; rfl
  · rw [showIndicators_runners, ← hc]; rfl
  · rw [engine, ← hc]; rfl
  · rw [engine, ← hc]; rfl
  · rw [← pulse]; exact lampsOnly_showIndicators c
  · rw [showIndicators_safe, pulse]; rfl
  · rw [same] at kept ⊢
    rw [← fixture] at kept ⊢
    refine showIndicators_shows (by rw [pulse]; rfl) kept (fun g hg => ?_) (by rw [pulse]; exact idle u)
    rw [fixture] at kept hg
    exact lamp hg kept

theorem started_firstSampled (s : State) (records : List Record) (pins : LoadPins) :
    Started (readScript records) false (s.firstSampled (readScript records) pins) := by
  have shown := configured_showIndicators s records pins.dominant
  have untallied := untallied_configured s records pins.dominant
  unfold State.firstSampled
  generalize showIndicators (s.configure (readScript records) pins.dominant) = v at *
  have sampled : Configured (readScript records) false (sampleRecords v pins.inputs Input.firstSample) :=
    shown.of_same (outsideButInputs_sampleRecords v _ _).loader (sampleRecords_clock v _ _) (sampleRecords_runners v _ _)
      (sampleRecords_engine _ _ untallied.scoring) (sampleRecords_pulse v _ _)
  generalize sampleRecords v pins.inputs Input.firstSample = w at *
  refine ⟨sampled.of_same (by simp) (by simp) (by simp) (by simp) (by simp), fun station => ?_⟩
  exact State.raiseChange_request sampled.ready (by rwa [State.raiseChange_loader] at station)

/-! ## What the first samples bring (R98, R99, R131, R135) -/

/-- The input's latch is set, and it is HALT's. -/
def Input.takesHalt (x : Input) : Bool := x.latch && x.route == .command .halt

namespace Started
variable {records : List Record} {halted : Bool} {s : State}

section
variable (h : Started (readScript records) halted s)
include h

theorem of_same {t : State} (loader : t.loader = s.loader) (asks : s.picture.AsksChange → t.picture.AsksChange)
    (clock : t.clock = s.clock) (runners : t.runners = s.runners) (engine : t.engine = s.engine)
    (pulse : t.pulse = s.pulse) : Started (readScript records) halted t :=
  ⟨h.toConfigured.of_same loader clock runners engine pulse, fun station => asks (h.asks (loader ▸ station))⟩

theorem latchTaken (i : InputNo) : Started (readScript records) halted (s.latchTaken i) :=
  h.of_same rfl id rfl rfl rfl rfl

theorem queueCommand (c : Command) : Started (readScript records) halted (s.queueCommand c) :=
  h.of_same (by simp) (·.queueCommand c) (by simp) (by simp) (by simp) (by simp)

theorem phase : s.clock.phase = if halted then .halted else .idle := by rw [h.clock]

theorem runner (r : RunnerId) : s.runner r = Runner.start := by
  unfold State.runner
  rw [h.runners]
  cases r <;> rfl

theorem undriven (u : UnitNo) : s.pulse.units[u].driver = none :=
  (h.lampsOnly.driver u).trans (readUnits_undriven _ _ u).2

theorem state (f : FixtureNo) : (s.fixture f).state = ((readScript records).fixtures[f]).state := by rw [h.fixture]

theorem takePiece (f : FixtureNo) : takePiece s f = s :=
  takePiece_idle (by rw [h.state]; exact (readScript_unhalted records f).2)

end

/-- R93, R162: HALT is shown by every fixture and lamp, and the safe state begins. -/
theorem applyHalt (h : Started (readScript records) false s) : Started (readScript records) true (applyHalt s) := by
  have applied := applyHalt_idle h.runner h.undriven
  have same := onlyShows_halting s
  have runners : s.halting.runners = s.runners := by rw [same]
  have points : s.halting.engine.points = s.engine.points := by rw [same]
  have loader : s.halting.loader = s.loader := by rw [same]
  have clock := halting_clock s
  have fixture := halting_fixture s
  have holdOff := halting_holdOff s
  have request := applyHalt_request (s := s) h.ready
  have shown : ∀ (f : FixtureNo) (u : UnitNo), (s.fixture f).lamp? = some u →
      s.halting.pulse.units[u].Shows .halted := fun f u kept => by
    refine halting_shows h.safe kept (fun g hg => ?_) (by rw [h.fixture]; exact (readScript_unhalted records f).1)
    rw [h.fixture] at kept hg
    exact readScript_lamp_inj hg kept
  have lamps := (h.lampsOnly.trans (lampsOnly_halting s)).trans (.enterSafe s.halting.pulse)
  rw [applied] at request ⊢
  generalize s.halting = v at *
  have own (f : FixtureNo) : (State.raiseChange { v with pulse := v.pulse.enterSafe }).fixture f =
      { (readScript records).fixtures[f] with indicator := .halted } := by
    rw [State.raiseChange_fixture]
    show v.fixture f = _
    rw [fixture, h.fixture]
  exact {
    ready := by rw [State.ready, State.raiseChange_loader]; exact (congrArg (·.load == .ready) loader).trans h.ready
    asks := fun station => request (by rwa [State.raiseChange_loader, loader] at station)
    clock := by rw [State.raiseChange_clock, clock, h.clock]; rfl
    runners := by rw [State.raiseChange_runners, runners, h.runners]
    holdOff := by rw [State.raiseChange_engine, holdOff, h.holdOff]
    points := by rw [State.raiseChange_engine, points, h.points]
    fixture := own
    lampsOnly := by rw [State.raiseChange_pulse]; exact lamps
    safe := by rw [State.raiseChange_pulse]; exact Pulse.enterSafe_safe _
    shows := fun f u kept => by
      rw [own] at kept ⊢
      rw [State.raiseChange_pulse]
      exact (shown f u (by rw [h.fixture]; exact kept)).enterSafe }

section
variable (h : Started (readScript records) halted s)
include h

theorem localHalt (mode : InputMode) : Started (readScript records) true (localHalt s mode) := by
  cases halted with
  | true =>
    rw [localHalt_halted h.phase]
    split
    · exact h.queueCommand .halt
    · exact h
  | false =>
    have idle : s.clock.phase ≠ .halted := by rw [h.phase]; nofun
    obtain ⟨-, -, applied⟩ := localHalt_unhalted idle mode
    rw [applied]
    exact h.applyHalt.queueCommand .halt

/-- R98, R99: HALT alone acts at once. -/
theorem localCommand (c : Command) (mode : InputMode) :
    Started (readScript records) (halted || c == .halt) (localCommand s c mode) := by
  have told (c : Command) (waits : Bool) : Started (readScript records) (halted || false)
      (if waits then s else s.queueCommand c) := by
    rw [Bool.or_false]
    split
    · exact h
    · exact h.queueCommand c
  cases c with
  | halt => rw [beq_self_eq_true, Bool.or_true]; exact h.localHalt mode
  | start => exact told .start _
  | clear => exact told .clear _
  | resume =>
    unfold Machine.localCommand
    dsimp only
    split
    · rw [show (Command.resume == Command.halt) = false from rfl, Bool.or_false]
      exact h.queueCommand .halt
    · exact told .resume _

theorem takeLatch (i : InputNo) :
    Started (readScript records) (halted || (s.inputs.records[i]).takesHalt) (takeLatch s i) := by
  unfold Input.takesHalt
  cases hset : (s.inputs.records[i]).latch with
  | false => rw [takeLatch_of_clear hset, Bool.false_and, Bool.or_false]; exact h
  | true =>
    rw [Bool.true_and]
    cases hr : (s.inputs.records[i]).route with
    | none =>
      rw [takeLatch_unrouted hr, show (Route.none == .command .halt) = false from rfl, Bool.or_false]
      exact h
    | piece f =>
      rw [takeLatch_piece hset hr, show (Route.piece f == .command .halt) = false from rfl, Bool.or_false,
        (h.latchTaken i).takePiece]
      split
      · exact h
      · exact h.latchTaken i
    | command c =>
      rw [takeLatch_command hset hr]
      have same : (Route.command c == .command .halt) = (c == .halt) := by cases c <;> rfl
      rw [same]
      exact (h.latchTaken i).localCommand c _

end

end Started

/-- R131: a latch that is taken leaves the other inputs. -/
theorem takeLatch_record_other {s : State} {i j : InputNo} (h : i ≠ j) :
    (takeLatch s i).inputs.records[j] = s.inputs.records[j] := by
  cases hset : (s.inputs.records[i]).latch with
  | false => rw [takeLatch_of_clear hset]
  | true =>
    by_cases hi : s.HasTaker i
    · obtain ⟨⟨-, -, -, -, inputs, -, -⟩, -⟩ := takeLatch_hasTaker hset hi
      rw [inputs, State.latchTaken, State.setInput_records, if_neg h]
    · rw [takeLatch_of_not_hasTaker hi]

/-- The station is halted in the end where it was, or where one of the latches is HALT's. -/
theorem Started.foldl_takeLatch {records : List Record} {l : List InputNo} (nodup : l.Nodup) :
    ∀ {halted : Bool} {s : State}, Started (readScript records) halted s →
      Started (readScript records) (halted || l.any fun i => (s.inputs.records[i]).takesHalt) (l.foldl Machine.takeLatch s) := by
  induction l with
  | nil => intro halted s h; rwa [List.any_nil, Bool.or_false]
  | cons i l ih =>
    intro halted s h
    obtain ⟨hi, nodup⟩ := List.nodup_cons.mp nodup
    have later : (l.any fun j => ((Machine.takeLatch s i).inputs.records[j]).takesHalt) =
        l.any fun j => (s.inputs.records[j]).takesHalt :=
      by
      rw [Bool.eq_iff_iff, List.any_eq_true, List.any_eq_true]
      refine exists_congr fun j => and_congr_right fun hj => ?_
      have other : i ≠ j := fun e => hi (e ▸ hj)
      rw [takeLatch_record_other other]
    have rest := ih nodup (h.takeLatch i)
    rwa [later, Bool.or_assoc] at rest

/-! ## The first sample (R135) -/

namespace Input
variable {x : Input}

theorem firstSample_unrouted (h : x.route = .none) (high : Bool) : x.firstSample high = x := by
  unfold firstSample routed
  rw [h]
  rfl

theorem firstSample_routed (h : x.route ≠ .none) (high : Bool) : x.firstSample high =
    { x with
      qualified := high != (x.polarity == .activeLow)
      disagreeing := 0
      latch := (high != (x.polarity == .activeLow)) && x.mode == .level } := by
  unfold firstSample routed
  rw [if_pos (bne_iff_ne.mpr h), sees_eq]

/-- R102, R135: HALT's latch is set exactly where the input is an active level HALT input. -/
theorem firstSample_takesHalt (x : Input) (high : Bool) : (x.firstSample high).takesHalt = (x.firstSample high).holdsHalt := by
  by_cases hr : x.route = .none
  · rw [firstSample_unrouted hr]
    have none_ne_halt : (Route.none == .command .halt) = false := rfl
    rw [takesHalt, holdsHalt, hr, none_ne_halt, Bool.and_false, Bool.false_and, Bool.false_and]
  · rw [firstSample_routed hr]
    simp only [takesHalt, holdsHalt]
    generalize (high != (x.polarity == .activeLow)) = active
    cases active <;> simp [Bool.and_comm]

end Input

theorem Takes.haltInput {s t : State} (h : Takes s t) : t.haltInput = s.haltInput := by
  have same (i : InputNo) : (t.inputs.records[i]).holdsHalt = (s.inputs.records[i]).holdsHalt := by
    rw [h.record_but_latch i]; rfl
  exact congrArg (List.any inputNumbers) (funext same)

section
variable (s : State) (script : Script) (pins : LoadPins)

theorem State.firstSampled_inputs : (s.firstSampled script pins).inputs =
    ⟨Vector.ofFn fun i => (script.inputs[i]).firstSample (pins.inputs.getLsbD i.val), 0, pins.inputs⟩ := by
  have configured : (showIndicators (s.configure script pins.dominant)).inputs = ⟨script.inputs, 0, 0⟩ := by
    obtain ⟨-, -, -, -, inputs, -, -⟩ := outsideAs_showIndicators (s.configure script pins.dominant)
    exact inputs
  unfold State.firstSampled
  rw [State.raiseChange_inputs, sampleRecords_inputs, configured]

theorem State.firstSampled_record (i : InputNo) : (s.firstSampled script pins).inputs.records[i] =
    (script.inputs[i]).firstSample (pins.inputs.getLsbD i.val) := by
  rw [State.firstSampled_inputs]
  simp

/-- Every routed input begins with the level its first sample shows, and a latch only where LEVEL mode holds it. -/
theorem loadReady_routed {i : InputNo} (routed : (script.inputs[i]).route ≠ .none) :
    let active := (pins.inputs.getLsbD i.val) != ((script.inputs[i]).polarity == .activeLow)
    let x := (loadReady script pins s).inputs.records[i]
    x.qualified = active ∧ x.disagreeing = 0 ∧ ((script.inputs[i]).mode = .edge ∨ active = false → x.latch = false) := by
  dsimp only
  have takes := takes_loadReady s script pins
  have record := s.firstSampled_record script pins i
  generalize s.firstSampled script pins = u at takes record
  generalize loadReady script pins s = t at takes
  rw [Input.firstSample_routed routed] at record
  refine ⟨?_, ?_, fun quiet => takes.latch_clear ?_⟩
  · rw [takes.record_but_latch, record]
  · rw [takes.record_but_latch, record]
  · rw [record]
    dsimp only
    rcases quiet with edge | inactive
    · rw [edge]
      exact Bool.and_false _
    · rw [inactive, Bool.false_and]

theorem loadReady_setAs (i : InputNo) : (script.inputs[i]).SetAs ((loadReady script pins s).inputs.records[i]) := by
  have takes := takes_loadReady s script pins
  have record := s.firstSampled_record script pins i
  generalize s.firstSampled script pins = u at takes record
  generalize loadReady script pins s = t at takes
  rw [takes.record_but_latch, record]
  exact Input.firstSample_setAs _ _

theorem loadReady_unrouted {i : InputNo} (unrouted : (script.inputs[i]).route = .none) :
    (loadReady script pins s).inputs.records[i] = script.inputs[i] := by
  have takes := takes_loadReady s script pins
  have record := (s.firstSampled_record script pins i).trans (Input.firstSample_unrouted unrouted _)
  generalize s.firstSampled script pins = u at takes record
  generalize loadReady script pins s = t at takes
  rw [takes.record_unrouted (by rw [record, unrouted]), record]

theorem loadReady_latch {i : InputNo} (h : (s.firstSampled script pins).HasTaker i) :
    ((loadReady script pins s).inputs.records[i]).latch = false := by
  rw [loadReady_eq]
  exact takeLatches_latch h

theorem queuesOnly_firstSampled : QueuesOnly (s.configure script pins.dominant) (s.firstSampled script pins) := by
  unfold State.firstSampled
  exact (((QueuesOnly.refl _).of_line (showIndicators_line _)).sampleRecords pins.inputs Input.firstSample).raiseChange

theorem queuesOnly_loadReady : QueuesOnly (s.configure script pins.dominant) (loadReady script pins s) :=
  (queuesOnly_firstSampled s script pins).takeLatches

theorem loadReady_line : (loadReady script pins s).line = { Line.start with
    busy := pins.dominant
    standing := if pins.dominant = 0 then .recessive else .dominant
    queue := (loadReady script pins s).line.queue } := by
  obtain ⟨line, -⟩ := queuesOnly_loadReady s script pins
  have begun : (s.configure script pins.dominant).line = Line.begin pins.dominant := rfl
  rw [begun] at line
  exact line

end

/-- R135: the station is halted at once exactly where a level HALT input is active. -/
theorem started_loadReady (s : State) (records : List Record) (pins : LoadPins) :
    Started (readScript records) (loadReady (readScript records) pins s).haltInput
      (loadReady (readScript records) pins s) := by
  have started := started_firstSampled s records pins
  have record := s.firstSampled_record (readScript records) pins
  rw [loadReady_eq]
  generalize s.firstSampled (readScript records) pins = u at started record
  have halts : (takeLatches u).haltInput = inputNumbers.any fun i => (u.inputs.records[i]).takesHalt := by
    rw [(takes_takeLatches u).haltInput]
    unfold State.haltInput
    refine congrArg (List.any inputNumbers) (funext fun i => ?_)
    rw [record, Input.firstSample_takesHalt]
  rw [halts]
  exact started.foldl_takeLatch inputNumbers_nodup

/-- R131, R135: only a DEAD goal leaves a latch of its first sample standing. -/
theorem loadReady_latch_of_living (s : State) (records : List Record) (pins : LoadPins) {i : InputNo}
    (routed : ((readScript records).inputs[i]).route ≠ .none)
    (living : ∀ f, ((readScript records).inputs[i]).route = .piece f → ((readScript records).fixtures[f]).state ≠ .dead) :
    ((loadReady (readScript records) pins s).inputs.records[i]).latch = false := by
  refine loadReady_latch s _ pins ?_
  have started := started_firstSampled s records pins
  have record := s.firstSampled_record (readScript records) pins i
  generalize readScript records = script at *
  generalize s.firstSampled script pins = u at *
  have route : (u.inputs.records[i]).route = (script.inputs[i]).route := by
    rw [record]; exact (Input.firstSample_setAs _ _).2.2
  refine ⟨by rw [route]; exact routed, fun f goal => ?_⟩
  rw [started.fixture f]
  exact living f (by rw [← route]; exact goal)

/-- A unit that drives nothing, and then no more than its lamp has changed. -/
theorem Pulse.LampsOnly.undriven {p q : Pulse} (h : p.LampsOnly q) {u : UnitNo} (pattern : (p.units[u]).pattern = none)
    (driver : (p.units[u]).driver = none) (lastDriver : (p.units[u]).lastDriver = none) :
    (q.units[u]).binding = (p.units[u]).binding ∧ (q.units[u]).lamp.map = (p.units[u]).lamp.map ∧
      (q.units[u]).pattern = none ∧ (q.units[u]).driver = none ∧ (q.units[u]).lastDriver = none := by
  obtain ⟨l, unit, map⟩ := h.units u
  rw [unit]
  exact ⟨rfl, map, pattern, driver, lastDriver⟩

/-- Settles O20: `Started` holds the blocks through the first sample and the latches it brings, and the inputs, the line and
the ports are read off the steps of the load. -/
theorem goodScriptConfiguresEveryBlock : Obligations.GoodScriptConfiguresEveryBlock := by
  unfold Obligations.GoodScriptConfiguresEveryBlock
  intro miso pins s records loading judged
  refine ⟨_, execLoadEnd_good pins loading judged, ?_⟩
  have started := started_loadReady s records pins
  have outside := outsideButInputs_loadReady (readScript records) pins s
  have line := loadReady_line s (readScript records) pins
  have setAs := loadReady_setAs s (readScript records) pins
  have takes := takes_loadReady s (readScript records) pins
  have inputs := s.firstSampled_inputs (readScript records) pins
  have unrouted {i : InputNo} := loadReady_unrouted s (readScript records) pins (i := i)
  have routed {i : InputNo} := loadReady_routed s (readScript records) pins (i := i)
  have latch {i : InputNo} := loadReady_latch_of_living s records pins (i := i)
  have pattern (u : UnitNo) : ((readScript records).units[u]).pattern = none := (readUnits_undriven _ _ u).1
  have driver (u : UnitNo) : ((readScript records).units[u]).driver = none := (readUnits_undriven _ _ u).2
  have lastDriver (u : UnitNo) : ((readScript records).units[u]).lastDriver = none := (readUnits_idle _ _ u).1
  generalize readScript records = script at *
  generalize s.firstSampled script pins = u at *
  generalize loadReady script pins s = t at *
  obtain ⟨loader, settings, now, ports, -, sides, -⟩ := outside
  have clock := started.clock
  have load : t.loader.load = .ready := by rw [loader]; rfl
  have station : t.loader.station = s.loader.station := by rw [loader]; rfl
  have port (p : PortNo) : t.ports[p] = s.ports[p].begin := by
    rw [ports]; simp [State.configure]
  refine ⟨load, station, settings, now, sides, started.holdOff, started.points, started.fixture,
    fun p => by rw [port]; exact ⟨rfl, rfl⟩, by rw [clock], by rw [clock], by rw [clock]; rfl, by rw [clock]; rfl,
    by rw [clock], fun own => started.asks (by rw [station]; exact own), started.runners, setAs,
    by rw [takes.pins, inputs], by rw [takes.sampleTimer, inputs], fun i => unrouted,
    fun i hi => ⟨routed hi, latch hi⟩, started.lampsOnly.pairs, started.lampsOnly.patterns, started.safe, fun v => ?_, line,
    by rw [line]; rfl, by rw [line]; exact Line.fallen_reads Line.start _ rfl⟩
  obtain ⟨binding, map, pattern, driver, lastDriver⟩ :=
    started.lampsOnly.undriven (pattern v) (driver v) (lastDriver v)
  exact ⟨binding, map, pattern, driver, lastDriver, fun f kept => started.shows f v kept⟩

end Sys2Proof.Machine
end
